-- ==== Sys2Proof/Word.lean ====
section
/-! DEFINITION. The words of the CW418: the bit vectors the manual treats as bits, and their plainest arithmetic. -/

namespace Sys2Proof

/-- One character of a serial link (R173). -/
abbrev Byte := BitVec 8

/-- The track position, and any position recorded from it: 20 bits, wrapping (R2). -/
abbrev Position := BitVec 20

/-- The raw pulse index: 0 to 65,535, wrapping (R1). -/
abbrev PulseIndex := BitVec 16

/-- The run clock and every stamp: 32 bits of tenths of a second, wrapping (R189). -/
abbrev RunClock := BitVec 32

/-- The converter's code: 12 bits (R28). -/
abbrev Code := BitVec 12

/-- The distance from `b` forward to `a`, modulo 2^20, as the non-negative number the rules compare (R2). -/
def Position.minus (a b : Position) : Nat := (a - b).toNat

end Sys2Proof
end

