-- ==== Sys2Proof/Syntax.lean ====
section
/-! DEFINITION. The commands of the CW418: one constructor of `Instr` per row of the opcode table, and the names their
operands are made of. The table gives its rows no operand bits; the operands here are the items that the row's rule says the
arrival, request or expiry carries. -/

namespace Sys2Proof

/-! ### Names shared by operands and state -/

/-- The three links (R175, R181). -/
inductive Link | machine | safety | trace
deriving DecidableEq, Repr

/-- The three preheat zones (R64). -/
inductive Zone | z1 | z2 | z3
deriving DecidableEq, Repr

/-- The ten analog channels, in channel order 0 to 9 (section 2.1). -/
inductive Channel | zs1 | zs2 | zs3 | amb | pts | plv | fdp | flp | wvh | dsp
deriving DecidableEq, Repr

/-- The ten contacts, in order 0 to 9 (section 2.6). -/
inductive Contact
  | estopChain | doorFlux | doorTunnel | doorPot | fanARun | fanBRun | n2Pressure | pumpRun | wirePresent | upstreamAvail
deriving DecidableEq, Repr

/-- The five contacts whose conditions AIM owns (R143). -/
inductive SafetyContact | estopChain | doorFlux | doorTunnel | doorPot | n2Pressure
deriving DecidableEq, Repr

/-- The two extraction fans (R122). -/
inductive Fan | a | b
deriving DecidableEq, Repr

/-- The two profile banks (R164). -/
inductive BankId | b0 | b1
deriving DecidableEq, Repr

/-- What an eye reports at a track count (section 1.3). -/
inductive EyeLevel | clear | blocked
deriving DecidableEq, Repr

/-- A contact level, in the order R177 codes it: UNKNOWN, OPEN, CLOSED. -/
inductive ContactLevel | unknown | opened | closed
deriving DecidableEq, Repr

/-- What caused a change of a contact's reported level (R40). -/
inductive TransitionCause | scan | force | release
deriving DecidableEq, Repr

/-- What a transition arrival carries beside its contact (R40). -/
structure Transition where
  level    : ContactLevel
  previous : ContactLevel
  cause    : TransitionCause
deriving DecidableEq, Repr

/-- The reported state of a channel (R28), in the order R177 codes it. -/
inductive ReportedState | initial | good | suspect | faulted | forced
deriving DecidableEq, Repr

/-- The channels whose samples reach TEG (R81). -/
inductive ThermalSource | zone (z : Zone) | ambient
deriving DecidableEq, Repr

/-- The index of an alarm record (R137). -/
abbrev AlarmId := Fin 37

/-- The effect state of the WAVE inhibit (R148), in the order of the codes R177 gives an inhibit state. -/
inductive WaveEffect | inactive | active | pending
deriving DecidableEq, Repr

/-- The two records whose return to IDLE AIM hands to POT (R110, R144). -/
inductive FeederLock | levelHigh | runaway
deriving DecidableEq, Repr

/-- The line modes, in the order of R154. -/
inductive LineMode
  | standby | warmup | production | changeover | drain | idle | setback | safe | maintenance
deriving DecidableEq, Repr

/-- The blocks LMC hands a new line mode to (R155). -/
inductive ModeBlock | znc | pot | flx | trk | exm
deriving DecidableEq, Repr

/-- The blocks LMC hands a change of active bank to (R167). -/
inductive BankBlock | znc | pot | flx | trk
deriving DecidableEq, Repr

/-- The zone states, in the order of R64. -/
inductive ZoneState | off | heating | ready | setback | setbackReady | fault
deriving DecidableEq, Repr

/-- The pot states, in the order of R97. -/
inductive PotState | off | cold | heating | ready | setback | hold | fault
deriving DecidableEq, Repr

/-- The wave states, in the order of R115. -/
inductive WaveState | off | rising | on | dipping | dipped
deriving DecidableEq, Repr

/-- The feeder states, in the order of R108. -/
inductive FeederState | off | feeding | locked
deriving DecidableEq, Repr

/-- What a readiness arrival reports to LMC (R76, R120). -/
inductive Readiness
  | zone (z : Zone) (state : ZoneState)
  | pot (state : PotState)
  | wave (state : WaveState) (bankIsActive : Bool)
deriving DecidableEq, Repr

/-- The present levels of the ten contact inputs, by contact number; `true` is closed (R38). -/
abbrev ContactInputs := Vector Bool 10

/-- A command of the block: an input, an expiry, an arrival that one block hands another, a frame, a request, or a reset.
Each request carries the link it came on and the body of its frame, byte for byte. -/
inductive Instr
  /-- R1: a raw encoder pulse, with the present levels of the entry and exit eyes. -/
  | encoderPulse (entry exit : EyeLevel)
  /-- R3. -/
  | speedWindowExpiry
  /-- R4. -/
  | stallTimerExpiry
  /-- R48: to FLX, with the board's sequence and its length or absence. -/
  | nozzleReached (seq : Nat) (length : Option Nat)
  /-- R49: to FLX, with the board's sequence and the cell index. -/
  | cellBoundary (seq cell : Nat)
  /-- R53: to FLX. -/
  | nozzleCleared (seq : Nat)
  /-- R87: to TEG. -/
  | gateReached (seq : Nat)
  /-- R119: to POT. -/
  | waveEntered (seq : Nat)
  /-- R112: to POT. -/
  | waveLeft (seq : Nat)
  /-- R29. -/
  | passTimerExpiry
  /-- R29. -/
  | priorityTimerExpiry
  /-- R30: the conversion in progress ends with this code. -/
  | conversionComplete (code : Code)
  /-- R68: to ZNC. -/
  | zoneSampleArrival (z : Zone) (value : Nat) (rep : ReportedState)
  /-- R82: to TEG. -/
  | thermalSampleArrival (src : ThermalSource) (value : Nat) (rep : ReportedState)
  /-- R101: to POT. -/
  | ptsSampleArrival (value : Nat) (rep : ReportedState)
  /-- R105: to POT. -/
  | plvSampleArrival (value : Nat) (rep : ReportedState)
  /-- R116: to POT. -/
  | wvhSampleArrival (value : Nat) (rep : ReportedState)
  /-- R124: to EXM. -/
  | dspSampleArrival (value : Nat) (rep : ReportedState)
  /-- R133: to EXM. -/
  | fdpSampleArrival (value : Nat) (rep : ReportedState)
  /-- R62: to FLX. -/
  | flpSampleArrival (value : Nat) (rep : ReportedState)
  /-- R38: a contact pass that samples these input levels. -/
  | contactPass (inputs : ContactInputs)
  /-- R143: to AIM. -/
  | safetyContactTransition (c : SafetyContact) (t : Transition)
  /-- R128: to EXM. -/
  | fanRunTransition (f : Fan) (t : Transition)
  /-- R117: to POT. -/
  | pumpRunTransition (t : Transition)
  /-- R108: to POT. -/
  | wirePresentTransition (t : Transition)
  /-- R160: to LMC. -/
  | upstreamAvailTransition (t : Transition)
  /-- R139: an owner's raise, to AIM. -/
  | alarmRaise (i : AlarmId)
  /-- R140: an owner's end, to AIM. -/
  | alarmEnd (i : AlarmId)
  /-- R54: to FLX, with the new state. -/
  | sprayInhibitChange (active : Bool)
  /-- R75: to ZNC, with the new state. -/
  | preheatInhibitChange (active : Bool)
  /-- R114: to POT, with the new effect state. -/
  | waveInhibitChange (effect : WaveEffect)
  /-- R108: to POT, with the new state. -/
  | feedInhibitChange (active : Bool)
  /-- R11: to TRK, with the new state. -/
  | entryInhibitChange (active : Bool)
  /-- R148: POT's SOLDER occupancy, to AIM. -/
  | solderOccupancyArrival (occupied : Bool)
  /-- R118: to POT. -/
  | pumpFaultAcknowledged
  /-- R110: to POT. -/
  | recordIdleArrival (r : FeederLock)
  /-- R161: to LMC, with the alarm index. -/
  | safeDemand (i : AlarmId)
  /-- R155: to one block, with the new line mode. -/
  | lineModeArrival (b : ModeBlock) (m : LineMode)
  /-- R167: to one block, with the new active bank. -/
  | activeBankArrival (b : BankBlock) (bank : BankId)
  /-- R157: to LMC. -/
  | readinessArrival (r : Readiness)
  /-- R159: to LMC, with the new feeder state. -/
  | feederArrival (state : FeederState)
  /-- R168: to LMC, with the number of PENDING boards. -/
  | gatedArrival (pendingBoards : Nat)
  /-- R158: to LMC. -/
  | tableEmptyArrival
  /-- R171: to LMC. -/
  | frameArrival
  /-- R70. -/
  | zoneHeaterWindow
  /-- R70. -/
  | zoneHeaterOnEnd (z : Zone)
  /-- R102. -/
  | potHeaterWindow
  /-- R102. -/
  | potHeaterOnEnd
  /-- R107. -/
  | settleTimerExpiry
  /-- R109. -/
  | feedingSecond
  /-- R109. -/
  | minuteTimerExpiry
  /-- R116. -/
  | riseTimerExpiry
  /-- R117. -/
  | pumpRunTimerExpiry
  /-- R127. -/
  | recoveryTimerExpiry
  /-- R128. -/
  | fanFaultTimerExpiry (f : Fan)
  /-- R133. -/
  | filterCheckTimerExpiry
  /-- R159. -/
  | idleTimerExpiry
  /-- R171. -/
  | supervisionWindowExpiry
  /-- R173. -/
  | frameTimerExpiry (l : Link)
  /-- R174: a frame that ends as bad, with its kind byte if that was received. -/
  | badFrame (l : Link) (kind : Option Byte)
  /-- R178: a frame, valid or bad, that completes while a reply is in progress. -/
  | busyFrame (l : Link) (kind : Byte) (bad : Bool)
  /-- R175: a valid frame whose kind byte names no request. -/
  | unknownKind (l : Link) (kind : Byte) (body : List Byte)
  /-- R178: the last character of the reply being sent has been sent. -/
  | replyEnd (l : Link)
  /-- R182. -/
  | readStatus (l : Link) (body : List Byte)
  /-- R18. -/
  | readBoard (l : Link) (body : List Byte)
  /-- R18. -/
  | readTable (l : Link) (body : List Byte)
  /-- R152. -/
  | readAlarms (l : Link) (body : List Byte)
  /-- R141. -/
  | ackAlarm (l : Link) (body : List Byte)
  /-- R180. -/
  | writeConfig (l : Link) (body : List Byte)
  /-- R165. -/
  | writeBank (l : Link) (body : List Byte)
  /-- R77. -/
  | setZonesAll (l : Link) (body : List Byte)
  /-- R166. -/
  | validateBank (l : Link) (body : List Byte)
  /-- R167. -/
  | swapBank (l : Link) (body : List Byte)
  /-- R170. -/
  | cancelSwap (l : Link) (body : List Byte)
  /-- R156. -/
  | warmup (l : Link) (body : List Byte)
  /-- R156. -/
  | start (l : Link) (body : List Byte)
  /-- R156. -/
  | stop (l : Link) (body : List Byte)
  /-- R156. -/
  | stopHeat (l : Link) (body : List Byte)
  /-- R163. -/
  | enterMaintenance (l : Link) (body : List Byte)
  /-- R163. -/
  | leaveMaintenance (l : Link) (body : List Byte)
  /-- R41. -/
  | forceSignalChannel (l : Link) (body : List Byte)
  /-- R42. -/
  | forceSignalContact (l : Link) (body : List Byte)
  /-- R43. -/
  | releaseForce (l : Link) (body : List Byte)
  /-- R25. -/
  | clearTrack (l : Link) (body : List Byte)
  /-- R58. -/
  | refill (l : Link) (body : List Byte)
  /-- R59. -/
  | selectTank (l : Link) (body : List Byte)
  /-- R131. -/
  | selectFan (l : Link) (body : List Byte)
  /-- R130. -/
  | clearStamps (l : Link) (body : List Byte)
  /-- R192. -/
  | readRetained (l : Link) (body : List Byte)
  /-- R192. -/
  | clearResetCauses (l : Link) (body : List Byte)
  /-- R187. -/
  | readEvents (l : Link) (body : List Byte)
  /-- R187. -/
  | subscribe (l : Link) (body : List Byte)
  /-- R190. -/
  | reset (l : Link) (body : List Byte)
  /-- R147. -/
  | assertInhibit (l : Link) (body : List Byte)
  /-- R147. -/
  | releaseInhibit (l : Link) (body : List Byte)
  /-- R161. -/
  | forceSafe (l : Link) (body : List Byte)
  /-- R162. -/
  | releaseSafe (l : Link) (body : List Byte)
  /-- R171. -/
  | supervise (l : Link) (body : List Byte)
  /-- R24. -/
  | pushIdentity (l : Link) (body : List Byte)
  /-- R24. -/
  | flushIdentities (l : Link) (body : List Byte)
  /-- R22. -/
  | takeExitRecord (l : Link) (body : List Byte)
  /-- R190: the end of the supply rise, with the contact levels of the first pass (R39). -/
  | powerOnReset (inputs : ContactInputs)
  /-- R190: the release of the reset pin, with the contact levels of the first pass. -/
  | externalReset (inputs : ContactInputs)
  /-- R190: the end of the OK reply to RESET, with the contact levels of the first pass. -/
  | commandedReset (inputs : ContactInputs)
  /-- R173: a character received on a link, with its stop bit; 0xA5 in HUNT is the sync byte. -/
  | syncByte (l : Link) (c : Byte) (stopBitGood : Bool)
  /-- R189. -/
  | runClockTick
  /-- R190. -/
  | resetPinHeldLow
deriving DecidableEq, Repr

end Sys2Proof
end

