-- ==== Sys2Proof/Decode.lean ====
section
/-! DEFINITION. The command that a word spells by the table's bits. The opcode table gives no row any bits, so no word spells a
command; requests reach the block as the characters of a frame (R173 to R181). -/

namespace Sys2Proof

/-- The command a word of `nbits` bits spells: none, since no row of the table has bits. -/
def decodeTableWord (_nbits _w : Nat) : Option Instr := none

end Sys2Proof
end

