-- ==== Sys2Proof/Config.lean ====
section
/-! DEFINITION. What the part fixes (durations, capacities, defaults), the fixed properties of channels and alarms' names, and
the free value of the model. -/

namespace Sys2Proof.Config

/-! ### Durations, in milliseconds -/

def speedWindowMs : Nat := 1000      -- R3
def stallMs : Nat := 3000            -- R4
def passMs : Nat := 250              -- R29
def priorityMs : Nat := 50           -- R29
def contactPassMs : Nat := 10        -- R38
def heaterWindowMs : Nat := 2000     -- R70, R102
def settleMs : Nat := 5000           -- R107
def minuteMs : Nat := 60000          -- R109
def riseMs : Nat := 10000            -- R116
def pumpRunMs : Nat := 2000          -- R117
def recoveryMs : Nat := 10000        -- R125
def fanFaultMs : Nat := 5000         -- R128
def filterLongMs : Nat := 600000     -- R133: STANDBY and SETBACK
def filterShortMs : Nat := 60000     -- R133: every other line mode
def frameMs : Nat := 50              -- R173
def tickMs : Nat := 100              -- R189

/-! ### Capacities and fixed figures -/

def tableCapacity : Nat := 16        -- R13
def boardsAndLog : Nat := 32         -- R13
def readyBelow : Nat := 24           -- R11
def identityCapacity : Nat := 8      -- R24
def overrunTravel : Nat := 1240      -- R10, R16: also the assumed extent
def eventCapacity : Nat := 16        -- R186
def owedCapacity : Nat := 4          -- R178
def tankMax : Nat := 50000000        -- R57
def feedTotalMax : Nat := 4294967295 -- R191
def zoneAbsoluteLimit : Int := 3800  -- R74
def potAbsoluteLimit : Int := 3400   -- R104
def overtempHysteresis : Int := 50   -- R74
def dutyMax : Int := 255             -- R69
def integralMax : Int := 65280       -- R69

/-- A FREE VALUE of the model (assumption 3, DESIGN CHOICE). The part's timers run in milliseconds; the model sees time pass only
at RUN_CLOCK_TICK, every 100 ms (R189), so a timer's value at a read is known to the tenth of a second and no closer. `freeTime n`
stands for the n-th unknown part. It has no body: nothing can be proved of its value. -/
opaque freeTime : Nat → Nat

end Sys2Proof.Config

namespace Sys2Proof

/-- Channel number (section 2.1). -/
def Channel.index : Channel → Fin 10
  | .zs1 => 0 | .zs2 => 1 | .zs3 => 2 | .amb => 3 | .pts => 4
  | .plv => 5 | .fdp => 6 | .flp => 7 | .wvh => 8 | .dsp => 9

/-- The channels of the regular pass, in channel order (R29). -/
def Channel.regular : List Channel := [.zs1, .zs2, .zs3, .amb, .pts, .plv, .fdp, .flp]

/-- The priority pair (R29). -/
def Channel.priority : List Channel := [.wvh, .dsp]

def Channel.all : List Channel := Channel.regular ++ Channel.priority

/-- The channel with a number, where there is one. -/
def Channel.ofNat? (n : Nat) : Option Channel := Channel.all[n]?

/-- The maximum of the channel range; every range starts at 0 (section 2.1). -/
def Channel.max : Channel → Nat
  | .zs1 | .zs2 | .zs3 | .amb | .pts => 4000
  | .plv => 10000 | .fdp => 2500 | .flp => 1000 | .wvh => 3000 | .dsp => 2000

/-- Contact number (section 2.6). -/
def Contact.index : Contact → Fin 10
  | .estopChain => 0 | .doorFlux => 1 | .doorTunnel => 2 | .doorPot => 3 | .fanARun => 4
  | .fanBRun => 5 | .n2Pressure => 6 | .pumpRun => 7 | .wirePresent => 8 | .upstreamAvail => 9

def Contact.all : List Contact :=
  [.estopChain, .doorFlux, .doorTunnel, .doorPot, .fanARun, .fanBRun, .n2Pressure, .pumpRun, .wirePresent, .upstreamAvail]

/-- The contact with a number, where there is one. -/
def Contact.ofNat? (n : Nat) : Option Contact := Contact.all[n]?

/-- The run contact of a fan (R128). -/
def Fan.contact : Fan → Contact
  | .a => .fanARun | .b => .fanBRun

/-- The fan that is not this one (R122). -/
def Fan.other : Fan → Fan
  | .a => .b | .b => .a

/-- The bank that is not this one (R154). -/
def BankId.other : BankId → BankId
  | .b0 => .b1 | .b1 => .b0

def BankId.toNat : BankId → Nat
  | .b0 => 0 | .b1 => 1

def BankId.ofNat? : Nat → Option BankId
  | 0 => some .b0 | 1 => some .b1 | _ => none

/-- The channel that measures a zone (section 4). -/
def Zone.channel : Zone → Channel
  | .z1 => .zs1 | .z2 => .zs2 | .z3 => .zs3

/-- The running modes: boards are sprayed and soldered in these three (R4, R49, R90). -/
def LineMode.running : LineMode → Bool
  | .production | .changeover | .drain => true
  | _ => false

/-- The modes in which machine configuration is written (R5, R31, R65, R98, R123). -/
def LineMode.configures : LineMode → Bool
  | .standby | .maintenance => true
  | _ => false

/-! ### Alarm indices (R138) -/

namespace Alarm
def estopOpen : AlarmId := 0
def doorFlux : AlarmId := 1
def doorTunnel : AlarmId := 2
def doorPot : AlarmId := 3
/-- The SENSOR_FAULT record of channel n has index 4 + n. -/
def sensorFault (c : Channel) : AlarmId := ⟨4 + c.index.val, by omega⟩
def zoneOvertemp : Zone → AlarmId
  | .z1 => 14 | .z2 => 15 | .z3 => 16
def potOvertemp : AlarmId := 17
def potLevelLow : AlarmId := 18
def potLevelHigh : AlarmId := 19
def feedRunaway : AlarmId := 20
def feedWireOut : AlarmId := 21
def pumpFault : AlarmId := 22
def fluxTankLow : AlarmId := 23
def fluxSupplyEmpty : AlarmId := 24
def fluxPressure : AlarmId := 25
def ductLow : AlarmId := 26
def extractionLost : AlarmId := 27
def fanFault : Fan → AlarmId
  | .a => 28 | .b => 29
def filterLoaded : AlarmId := 30
def filterBlocked : AlarmId := 31
def n2Low : AlarmId := 32
def conveyorStall : AlarmId := 33
def trackMismatch : AlarmId := 34
def trackOverflow : AlarmId := 35
def supervisionExpired : AlarmId := 36
end Alarm

/-- The record AIM raises for each of its own contacts (R143). -/
def SafetyContact.alarm : SafetyContact → AlarmId
  | .estopChain => Alarm.estopOpen | .doorFlux => Alarm.doorFlux | .doorTunnel => Alarm.doorTunnel
  | .doorPot => Alarm.doorPot | .n2Pressure => Alarm.n2Low

def SafetyContact.index : SafetyContact → Fin 5
  | .estopChain => 0 | .doorFlux => 1 | .doorTunnel => 2 | .doorPot => 3 | .n2Pressure => 4

end Sys2Proof
end

