-- ==== Sys2Proof/Machine/State.lean ====
section
/-! DEFINITION. The state of the CW418, block by block, as plain data; the reasons a step could stop; the state after reset. -/

namespace Sys2Proof.Machine

/-! ### Small containers -/

/-- One value for each of the three zones. -/
structure PerZone (α : Type) where
  z1 : α
  z2 : α
  z3 : α
deriving DecidableEq, Repr

/-- One value for each of the three links. -/
structure PerLink (α : Type) where
  machine : α
  safety  : α
  trace   : α
deriving DecidableEq, Repr

/-- One value for each of two: the fans A and B, the banks 0 and 1, the tanks 0 and 1. -/
structure Pair (α : Type) where
  fst : α
  snd : α
deriving DecidableEq, Repr

/-- A timer of the part, in milliseconds: stopped at 0, running with the time that remains as of the last tick, or run out
and waiting for its next restart. -/
inductive Timer | stopped | running (left : Nat) | expired
deriving DecidableEq, Repr

/-! ### Profile banks (R164) -/

/-- A spray action (R45). -/
structure SprayAction where
  spray   : Bool
  dose    : Nat
  counted : Bool
  mark    : Bool
deriving DecidableEq, Repr

/-- A run of the spray map: a cell count and an action number (R46). -/
structure Run where
  cells  : Nat
  action : Fin 8
deriving DecidableEq, Repr

/-- The items of a bank, in the order of R164's table. -/
structure BankItems where
  zoneSetpoint  : PerZone Nat
  zoneBand      : PerZone Nat
  zoneSetback   : Nat
  potSetpoint   : Nat
  potBand       : Nat
  potSetback    : Nat
  minLength     : Nat
  maxLength     : Nat
  minGap        : Nat
  actions       : Vector SprayAction 8
  map           : List Run
  fluxMinimum   : Nat
  coupling      : PerZone Nat
  couplingAmb   : Nat
  soakThreshold : Nat
  soakMinimum   : Nat
  tMin          : Nat
  tMax          : Nat
  waveSpeed     : Nat
  dipSpeed      : Nat
  hLo           : Nat
  hDip          : Nat
deriving DecidableEq, Repr

/-- The starting values of R164's table. -/
def BankItems.starting : BankItems :=
  { zoneSetpoint := ⟨1200, 1200, 1200⟩, zoneBand := ⟨50, 50, 50⟩, zoneSetback := 300,
    potSetpoint := 2600, potBand := 50, potSetback := 300, minLength := 120, maxLength := 1200, minGap := 200,
    actions := Vector.replicate 8 ⟨false, 1, false, false⟩, map := [⟨1, 0⟩], fluxMinimum := 0,
    coupling := ⟨205, 205, 205⟩, couplingAmb := 17, soakThreshold := 1000, soakMinimum := 0, tMin := 0, tMax := 4000,
    waveSpeed := 700, dipSpeed := 150, hLo := 1000, hDip := 300 }

/-- A bank: EMPTY holds no items; a bank with items is UNCHECKED or VALID (R164). -/
inductive Bank
  | empty
  | unchecked (items : BankItems)
  | valid (items : BankItems)
deriving DecidableEq, Repr

/-! ### Track Unit (chapter 1) -/

/-- An eye's accepted level (R8). -/
inductive EyeAccepted | unknown | clear | blocked
deriving DecidableEq, Repr

/-- An eye filter (R8). -/
structure EyeFilter where
  accepted  : EyeAccepted
  candidate : EyeLevel
  count     : Nat
  first     : Position
deriving DecidableEq, Repr

/-- An eye's occupant (R9); a board is named by its sequence number. -/
inductive Occupant | none | board (seq : Nat) | untracked | ignored
deriving DecidableEq, Repr

/-- The geometry group (R5). -/
structure Geometry where
  trim      : Nat
  pFlux     : Nat
  pNozzle   : Nat
  ph1       : Nat
  ph2       : Nat
  ph3       : Nat
  pGate     : Nat
  pWave     : Nat
  wMargin   : Nat
  pExit     : Nat
  tolerance : Nat
deriving DecidableEq, Repr

/-- An identity: its characters (R24). -/
abbrev Identity := List Byte

inductive Phase | entering | inTrack | atExit
deriving DecidableEq, Repr

inductive FluxStatus | notYet | spraying | ok | deficient
deriving DecidableEq, Repr

inductive GateDecision | pending | solder | dry
deriving DecidableEq, Repr

/-- The DRY reasons, in the order of the checks of R89. -/
inductive DryReason
  | unrequested | boardSize | waveUnavailable | fluxDeficient | thermalUnknown | tooCold | tooHot | soakShort
deriving DecidableEq, Repr

inductive WaveResult | notYet | waved | partialWave | interrupted | dryClean | dryContacted
deriving DecidableEq, Repr

/-- The marks of a board, in the order of R17. -/
structure Marks where
  unrequested      : Bool
  lengthOut        : Bool
  tankEmpty        : Bool
  sprayInhibited   : Bool
  lowPressure      : Bool
  thermalUncertain : Bool
  stalled          : Bool
deriving DecidableEq, Repr

/-- A board record (R17). -/
structure BoardRecord where
  slot        : Nat
  seq         : Nat
  identity    : Option Identity
  bank        : BankId
  lead        : Position
  length      : Option Nat
  phase       : Phase
  fluxStatus  : FluxStatus
  fluxDose    : Nat
  countedDose : Nat
  estimate    : Nat
  soak        : Nat
  peak        : Nat
  decision    : GateDecision
  dryReason   : Option DryReason
  gateEst     : Option Nat
  waveResult  : WaveResult
  marks       : Marks
deriving DecidableEq, Repr

inductive ExitOutcome | normal | lost | cleared
deriving DecidableEq, Repr

/-- An exit record (R22). -/
structure ExitRecord where
  seq         : Nat
  identity    : Option Identity
  bank        : BankId
  length      : Option Nat
  fluxStatus  : FluxStatus
  fluxDose    : Nat
  countedDose : Nat
  gateEst     : Option Nat
  soak        : Nat
  decision    : GateDecision
  dryReason   : Option DryReason
  waveResult  : WaveResult
  marks       : Marks
  outcome     : ExitOutcome
  stamp       : RunClock
deriving DecidableEq, Repr

/-- The causes TRK holds TRACK_MISMATCH through (R21). -/
structure MismatchCauses where
  entryBlocked  : Bool
  exitUntracked : Bool
  boardLost     : Bool
deriving DecidableEq, Repr

/-- The Track Unit. `exitLog` is the FIFO of up to 32 exit records, oldest first (R22). `removed` is the
model's own note of the records that TAKE_EXIT_RECORD has removed from it, the latest one of each sequence number: they are in the
log no more, and no command reads them. (Assumption 34, DESIGN CHOICE.) -/
structure Trk where
  rawIndex      : PulseIndex
  position      : Position
  windowCount   : Nat
  measuredSpeed : Nat
  speedTimer    : Timer
  stallTimer    : Timer
  stallPresent  : Bool
  geometry      : Geometry
  idRequired    : Bool
  entryEye      : EyeFilter
  exitEye       : EyeFilter
  entryOcc      : Occupant
  exitOcc       : Occupant
  gapRef        : Option Position
  nextSeq       : Nat
  table         : List BoardRecord
  exitLog       : List ExitRecord
  removed       : List ExitRecord
  identities    : List Identity
  mismatch      : MismatchCauses
  trackUnknown  : Bool
  ready         : Bool
deriving DecidableEq, Repr

/-! ### Signal Acquisition Unit (chapter 2) -/

inductive ChannelState | initial | good | suspect | faulted
deriving DecidableEq, Repr

/-- A channel record (R28). `hadGood` says whether the channel has had a good sample since the last reset (R105). -/
structure ChannelRec where
  value    : Nat
  state    : ChannelState
  badRun   : Nat
  goodRun  : Nat
  forced   : Option Nat
  lastCode : Code
  hadGood  : Bool
deriving DecidableEq, Repr

/-- The scaling and window items of a channel (R31). -/
structure ChannelItems where
  gain   : Nat
  offset : Int
  low    : Nat
  high   : Nat
deriving DecidableEq, Repr

/-- A contact record (R37); the reported level is the forced level while one is present, else the accepted one. -/
structure ContactRec where
  accepted : ContactLevel
  count    : Nat
  forced   : Option ContactLevel
deriving DecidableEq, Repr

/-- The Signal Acquisition Unit. The converter converts `converting`, with the rest of the priority pair in `pairLeft` and
the rest of the regular pass in `passLeft` (R29). -/
structure Saq where
  channels      : Vector ChannelRec 10
  items         : Vector ChannelItems 10
  converting    : Option Channel
  pairLeft      : List Channel
  passLeft      : List Channel
  passTimer     : Timer
  priorityTimer : Timer
  contacts      : Vector ContactRec 10
  contactTimer  : Timer
deriving DecidableEq, Repr

/-! ### Flux Controller (chapter 3) -/

inductive CellOutcome | off | sprayed | inhibited | held | empty
deriving DecidableEq, Repr

inductive Valve | opened | closed
deriving DecidableEq, Repr

inductive Tank | t0 | t1
deriving DecidableEq, Repr

/-- The Flux Controller. `mode` and `sprayInhibit` are the line mode and the state of the SPRAY inhibit that FLX took last:
a cell applied before a change is taken is applied with the old state (R54). -/
structure Flx where
  mode          : LineMode
  sprayInhibit  : Bool
  board         : Option Nat
  cell          : Nat
  action        : Fin 8
  outcome       : CellOutcome
  valve         : Valve
  amounts       : Pair Nat
  activeTank    : Tank
  failedDraw    : Bool
  pressureLow   : Nat
  tankLow       : Bool
  supplyEmpty   : Bool
  pressureCond  : Bool
  lowThreshold  : Nat
  pressureMin   : Nat
deriving DecidableEq, Repr

/-! ### Zone Controller (chapter 4) -/

/-- A zone record (R64), with the zone's ZONE_OVERTEMP condition and its heater output. -/
structure ZoneRec where
  state      : ZoneState
  setpoint   : Nat
  band       : Nat
  temp       : Nat
  tempState  : ReportedState
  integral   : Nat
  computed   : Nat
  applied    : Nat
  readyCount : Nat
  outCount   : Nat
  armed      : Bool
  overtemp   : Bool
  output     : Bool
deriving DecidableEq, Repr

/-- The Zone Controller, with the items of R65. `preheatInhibit` is the state of the PREHEAT inhibit that ZNC took last: a
sample taken before a change is handled under the old state (R75). -/
structure Znc where
  preheatInhibit : Bool
  zones          : PerZone ZoneRec
  windowTimer    : Timer
  kp             : PerZone Nat
  ki             : PerZone Nat
  margin         : Nat
deriving DecidableEq, Repr

/-! ### Pot Controller (chapter 6) -/

/-- The pot record (R97), with the POT_OVERTEMP condition and the heater output. -/
structure PotRec where
  state      : PotState
  setpoint   : Nat
  band       : Nat
  temp       : Nat
  tempState  : ReportedState
  integral   : Nat
  computed   : Nat
  applied    : Nat
  readyCount : Nat
  outCount   : Nat
  armed      : Bool
  overtemp   : Bool
  output     : Bool
deriving DecidableEq, Repr

/-- The machine configuration items of R98, R105 and R107. -/
structure PotItems where
  kp           : Nat
  ki           : Nat
  margin       : Nat
  pumpSafe     : Nat
  holdEnabled  : Bool
  holdSetpoint : Nat
  alpha        : Nat
  tRef         : Nat
  dPump        : Nat
  levelMin     : Nat
  feedOn       : Nat
  feedOff      : Nat
  levelMax     : Nat
  budget       : Nat
deriving DecidableEq, Repr

inductive LevelValidity | valid | unknown
deriving DecidableEq, Repr

inductive WaveTarget | off | wave | dip
deriving DecidableEq, Repr

/-- An entry of the wave schedule (R112). -/
structure ScheduleEntry where
  seq      : Nat
  bank     : BankId
  decision : GateDecision
deriving DecidableEq, Repr

/-- The causes of PUMP_FAULT (R118). -/
structure PumpCauses where
  rise : Bool
  run  : Bool
deriving DecidableEq, Repr

/-- The Pot Controller. `buckets` holds the budget ring, the current bucket first; `onWave` holds the sequence numbers of
the boards that occupy the wave (R113). -/
structure Pot where
  heat          : PotRec
  windowTimer   : Timer
  items         : PotItems
  level         : Nat
  levelValidity : LevelValidity
  demand        : Bool
  feeder        : FeederState
  feedAccMs     : Nat
  buckets       : List Nat
  minuteTimer   : Timer
  wave          : WaveState
  target        : WaveTarget
  waveBank      : BankId
  settleTimer   : Timer
  riseTimer     : Timer
  riseCount     : Nat
  dipCount      : Nat
  pumpSpeed     : Nat
  pumpRunTimer  : Timer
  schedule      : List ScheduleEntry
  onWave        : List Nat
  solderOcc     : Bool
  levelLow      : Bool
  levelHigh     : Bool
  runaway       : Bool
  wireOut       : Bool
  pumpCauses    : PumpCauses
  runawayIdle   : Bool
  levelHighIdle : Bool
deriving DecidableEq, Repr

/-! ### Extraction Monitor (chapter 7) -/

inductive DuctState | normal | changeover | lost
deriving DecidableEq, Repr

/-- The items of R123. -/
structure ExmItems where
  ductTrip    : Nat
  ductHyst    : Nat
  filterWarn  : Nat
  filterBlock : Nat
  filterHyst  : Nat
deriving DecidableEq, Repr

/-- The Extraction Monitor. A fan fault timer that has run out is held at 5 s (R128). -/
structure Exm where
  duct           : DuctState
  duty           : Fan
  outputs        : Pair Bool
  lowCount       : Nat
  recoveryCount  : Nat
  recoveryTimer  : Timer
  fanTimers      : Pair Timer
  firstLoss      : Option RunClock
  lastRecovery   : Option RunClock
  fdpValue       : Nat
  fdpState       : ReportedState
  filterTimer    : Timer
  filterInterval : Nat
  ductLow        : Bool
  extractionLost : Bool
  fanFaults      : Pair Bool
  filterLoaded   : Bool
  filterBlocked  : Bool
  items          : ExmItems
deriving DecidableEq, Repr

/-! ### Alarm Table and Inhibit Matrix (chapter 8) -/

inductive RecordState | idle | activeUnack | activeAck | returnedUnack
deriving DecidableEq, Repr

/-- The fields of an alarm record that change (R137); class, severity and latching are fixed by the index. -/
structure AlarmRecord where
  state : RecordState
  first : Option RunClock
  last  : Option RunClock
  count : Nat
deriving DecidableEq, Repr

inductive Inhibit | spray | preheat | wave | feed | entry
deriving DecidableEq, Repr

/-- The five safety-link assertion flags (R147). -/
structure Assertions where
  spray   : Bool
  preheat : Bool
  wave    : Bool
  feed    : Bool
  entry   : Bool
deriving DecidableEq, Repr

/-- The Alarm Table and Inhibit Matrix. The cause sets of R146 are what the records and the assertion flags make of them. -/
structure Aim where
  records    : Vector AlarmRecord 37
  asserted   : Assertions
  waveEffect : WaveEffect
  solderOcc  : Bool
  levels     : Vector ContactLevel 5
deriving DecidableEq, Repr

/-! ### Line Mode Controller (chapter 9) -/

inductive ChangeoverPhase | none | drainOld | retarget
deriving DecidableEq, Repr

/-- The readiness view (R154). -/
structure View where
  zones          : PerZone Bool
  pot            : Bool
  wave           : WaveState
  waveBankActive : Bool
  feeding        : Bool
deriving DecidableEq, Repr

/-- Link supervision (R171). -/
structure Supervision where
  running : Bool
  window  : Nat
  timer   : Timer
  expired : Bool
deriving DecidableEq, Repr

/-- The Line Mode Controller. `awaited` holds what the test of the readiness view still waits for after a change of active
bank: ZNC's and POT's taking of it, and the readiness arrivals that this causes (R169, assumption 10). -/
structure Lmc where
  mode           : LineMode
  phase          : ChangeoverPhase
  active         : BankId
  banks          : Pair Bank
  idleTimer      : Timer
  setbackPending : Bool
  safeHeld       : Bool
  view           : View
  awaited        : List Instr
  supervision    : Supervision
  idleTimeout    : Nat
  wakeEnabled    : Bool
deriving DecidableEq, Repr

/-! ### Link Interface (chapter 10) -/

/-- The statuses, in the order of their codes 0 to 14 (R176). -/
inductive Status
  | ok | unknownKind | notPermitted | wrongMode | busy | invalid | empty | full | bankActive | bankInUse | tooLate
  | nothingToAck | notFound | geometryInvalid | frameBad
deriving DecidableEq, Repr

/-- The event classes, in the order R177 gives. -/
inductive EventClass | board | flux | alarm | mode | supply
deriving DecidableEq, Repr

/-- A subscription mask (R186). -/
structure Mask where
  board  : Bool
  flux   : Bool
  alarm  : Bool
  mode   : Bool
  supply : Bool
deriving DecidableEq, Repr

inductive Eye | entry | exit
deriving DecidableEq, Repr

inductive SwitchCause | exhausted | selected
deriving DecidableEq, Repr

/-- The cause of a record's change (R150). -/
inductive RecordCause | raise | ended | ackMachine | ackSafety
deriving DecidableEq, Repr

inductive SwapDetail | immediate | changeover
deriving DecidableEq, Repr

inductive FanDetail | recovered | recoveredAfterLoss | selected
deriving DecidableEq, Repr

/-- The cause of a mode change (R155): a request kind by its code, or one of the seven causes of R185. -/
inductive ModeCause
  | request (kind : Byte) | readiness | tableEmpty | idleTimeout | wake | feederStopped | safeDemand (i : AlarmId) | allGated
deriving DecidableEq, Repr

/-- The eleven kinds of event, with the items of R185. -/
inductive Event
  | boardEntered (seq slot : Nat) (bank : BankId) (unrequested : Bool)
  | boardUntracked (eye : Eye)
  | boardGated (seq : Nat) (decision : GateDecision) (reason : Option DryReason) (gateEst : Nat)
  | boardExited (seq : Nat) (outcome : ExitOutcome)
  | fluxMark (seq cell : Nat) (outcome : CellOutcome)
  | tankSwitched (tank : Tank) (cause : SwitchCause) (residue : Nat)
  | alarmChanged (i : AlarmId) (before after : RecordState) (cause : RecordCause) (count : Nat)
  | inhibitChanged (inhibit : Inhibit) (state : WaveEffect) (asserted : Bool)
  | modeChanged (before after : LineMode) (phase : ChangeoverPhase) (cause : ModeCause)
  | bankSwapped (bank : BankId) (detail : SwapDetail)
  | fanChangeover (duty : Fan) (detail : FanDetail)
deriving DecidableEq, Repr

/-- An event record in a queue: the event with its stamp (R185). -/
structure EventRecord where
  stamp : RunClock
  event : Event
deriving DecidableEq, Repr

/-- A receiver's state; in BODY, with the number of characters it expects after the length byte (R173). -/
inductive RxState | hunt | length | body (expected : Nat)
deriving DecidableEq, Repr

/-- A receiver: its state, the bytes received since the sync byte, and the frame timer (R173). -/
structure Receiver where
  state : RxState
  bytes : List Byte
  timer : Timer
deriving DecidableEq, Repr

/-- A reply being sent: its kind byte, its status and its whole body (R176). -/
structure Reply where
  kind   : Byte
  status : Status
  body   : List Byte
deriving DecidableEq, Repr

/-- An owed reply (R178). -/
structure Owed where
  kind   : Byte
  status : Status
deriving DecidableEq, Repr

/-- One link: receiver, reply state, owed replies, event queue, mask, gap flag. The reply state is SENDING while `sending` holds
a reply, and IDLE otherwise (R178). -/
structure LinkState where
  receiver : Receiver
  sending  : Option Reply
  owed     : List Owed
  queue    : List EventRecord
  mask     : Mask
  gap      : Bool
deriving DecidableEq, Repr

/-! ### Retained Record (chapter 11) -/

/-- The sources of reset, as a set (R191). -/
structure ResetCauses where
  powerOn   : Bool
  external  : Bool
  commanded : Bool
deriving DecidableEq, Repr

/-- The retained record (R191). -/
structure Rtr where
  amounts    : Pair Nat
  activeTank : Tank
  feedTotal  : Nat
  refillSeen : Pair Bool
  validity   : Bool
  causes     : ResetCauses
deriving DecidableEq, Repr

/-- The reset pin: high, held low, or held low since before the end of a supply rise (R190). -/
inductive ResetPin | high | low | lowSincePowerOn
deriving DecidableEq, Repr

/-! ### The machine -/

/-- The state of the CW418. `pending` is the model's queue of commands from outside; `posted` holds the arrivals that the
blocks have handed each other, oldest first, that have not been taken yet; `freeCount` counts the free values used. -/
structure State where
  trk       : Trk
  saq       : Saq
  flx       : Flx
  znc       : Znc
  pot       : Pot
  exm       : Exm
  aim       : Aim
  lmc       : Lmc
  links     : PerLink LinkState
  rtr       : Rtr
  clock     : RunClock
  resetPin  : ResetPin
  pending   : List Instr
  posted    : List Instr
  freeCount : Nat
deriving DecidableEq, Repr

/-- The reasons a step could stop with a fault. There is none: no rule of the manual stops the CW418, so this type has no
constructor, and no command can answer a fault. (Assumption 32, DESIGN CHOICE.) -/
inductive Fault
deriving DecidableEq, Repr

/-- The reasons a command could have no meaning. -/
inductive Refusal
  /-- Raised by `exec` alone, for a command whose meaning is not written yet. Safe: the model stops where the part goes on.
  No arm of this model raises it. -/
  | notModelled (mnemonic : String)
deriving DecidableEq, Repr

/-! ### Reset values -/

def Geometry.default : Geometry :=
  { trim := 0, pFlux := 1300, pNozzle := 1600, ph1 := 2200, ph2 := 4200, ph3 := 6200, pGate := 7600, pWave := 8800,
    wMargin := 120, pExit := 11000, tolerance := 40 }

/-- R8, R27. The candidate level and its first position mean nothing while the count is 0 (assumption 4, DESIGN CHOICE). -/
def EyeFilter.reset : EyeFilter := { accepted := .unknown, candidate := .clear, count := 0, first := 0 }

def Marks.empty : Marks := ⟨false, false, false, false, false, false, false⟩

/-- R27. -/
def Trk.reset : Trk :=
  { rawIndex := 0, position := 0, windowCount := 0, measuredSpeed := 0, speedTimer := .running Config.speedWindowMs,
    stallTimer := .running Config.stallMs, stallPresent := false, geometry := .default, idRequired := false,
    entryEye := .reset, exitEye := .reset, entryOcc := .none, exitOcc := .none, gapRef := none, nextSeq := 1, table := [],
    exitLog := [], removed := [], identities := [], mismatch := ⟨false, false, false⟩, trackUnknown := true, ready := false }

def ChannelRec.reset : ChannelRec :=
  { value := 0, state := .initial, badRun := 0, goodRun := 0, forced := none, lastCode := 0, hadGood := false }

/-- The defaults of R31. -/
def ChannelItems.defaults : Vector ChannelItems 10 :=
  #v[⟨4000, 0, 0, 3900⟩, ⟨4000, 0, 0, 3900⟩, ⟨4000, 0, 0, 3900⟩, ⟨4000, 0, 0, 3900⟩, ⟨4000, 0, 0, 3900⟩,
     ⟨10000, 0, 100, 9900⟩, ⟨2500, 0, 0, 2450⟩, ⟨1000, 0, 0, 980⟩, ⟨3000, 0, 0, 2950⟩, ⟨2000, 0, 0, 1950⟩]

def ContactRec.reset : ContactRec := { accepted := .unknown, count := 0, forced := none }

/-- R44: the first priority pair and the first regular pass have begun, so WVH is in conversion. -/
def Saq.reset : Saq :=
  { channels := Vector.replicate 10 .reset, items := ChannelItems.defaults, converting := some .wvh, pairLeft := [.dsp],
    passLeft := Channel.regular, passTimer := .running Config.passMs, priorityTimer := .running Config.priorityMs,
    contacts := Vector.replicate 10 .reset, contactTimer := .running Config.contactPassMs }

/-- R63, for a POWER_ON reset: the tanks hold 0, so both tank conditions hold from the reset. -/
def Flx.reset : Flx :=
  { mode := .standby, sprayInhibit := false, board := none, cell := 0, action := 0, outcome := .off,
    valve := .closed, amounts := ⟨0, 0⟩, activeTank := .t0, failedDraw := false, pressureLow := 0, tankLow := true,
    supplyEmpty := true, pressureCond := false, lowThreshold := 1000000, pressureMin := 120 }

def ZoneRec.reset : ZoneRec :=
  { state := .off, setpoint := 0, band := 20, temp := 0, tempState := .initial, integral := 0, computed := 0, applied := 0,
    readyCount := 0, outCount := 0, armed := false, overtemp := false, output := false }

/-- R78. -/
def Znc.reset : Znc :=
  { preheatInhibit := false, zones := ⟨.reset, .reset, .reset⟩, windowTimer := .running Config.heaterWindowMs,
    kp := ⟨512, 512, 512⟩, ki := ⟨8, 8, 8⟩, margin := 150 }

def PotRec.reset : PotRec :=
  { state := .off, setpoint := 0, band := 20, temp := 0, tempState := .initial, integral := 0, computed := 0, applied := 0,
    readyCount := 0, outCount := 0, armed := false, overtemp := false, output := false }

/-- The defaults of R98, R105 and R107. -/
def PotItems.default : PotItems :=
  { kp := 384, ki := 4, margin := 100, pumpSafe := 2200, holdEnabled := false, holdSetpoint := 2300, alpha := 0,
    tRef := 2500, dPump := 0, levelMin := 5000, feedOn := 6000, feedOff := 6300, levelMax := 7500, budget := 180 }

/-- R121. -/
def Pot.reset : Pot :=
  { heat := .reset, windowTimer := .running Config.heaterWindowMs, items := .default, level := 0, levelValidity := .unknown,
    demand := false, feeder := .off, feedAccMs := 0, buckets := List.replicate 10 0,
    minuteTimer := .running Config.minuteMs, wave := .off, target := .off, waveBank := .b0,
    settleTimer := .running Config.settleMs, riseTimer := .stopped, riseCount := 0, dipCount := 0, pumpSpeed := 0,
    pumpRunTimer := .stopped, schedule := [], onWave := [], solderOcc := false, levelLow := false, levelHigh := false,
    runaway := false, wireOut := false, pumpCauses := ⟨false, false⟩, runawayIdle := true, levelHighIdle := true }

/-- R136. -/
def Exm.reset : Exm :=
  { duct := .normal, duty := .a, outputs := ⟨true, false⟩, lowCount := 0, recoveryCount := 0, recoveryTimer := .stopped,
    fanTimers := ⟨.running Config.fanFaultMs, .stopped⟩, firstLoss := none, lastRecovery := none, fdpValue := 0,
    fdpState := .initial, filterTimer := .running Config.filterLongMs, filterInterval := Config.filterLongMs,
    ductLow := false, extractionLost := false, fanFaults := ⟨false, false⟩, filterLoaded := false, filterBlocked := false,
    items := { ductTrip := 300, ductHyst := 60, filterWarn := 700, filterBlock := 1000, filterHyst := 50 } }

def AlarmRecord.idle : AlarmRecord := { state := .idle, first := none, last := none, count := 0 }

/-- R153. -/
def Aim.reset : Aim :=
  { records := Vector.replicate 37 .idle, asserted := ⟨false, false, false, false, false⟩, waveEffect := .inactive,
    solderOcc := false, levels := Vector.replicate 5 .unknown }

/-- R172. -/
def Lmc.reset : Lmc :=
  { mode := .standby, phase := .none, active := .b0, banks := ⟨.empty, .empty⟩, idleTimer := .stopped,
    setbackPending := false, safeHeld := false,
    view := { zones := ⟨false, false, false⟩, pot := false, wave := .off, waveBankActive := true, feeding := false },
    awaited := [],
    supervision := { running := false, window := 0, timer := .stopped, expired := false },
    idleTimeout := 30, wakeEnabled := false }

def Receiver.reset : Receiver := { state := .hunt, bytes := [], timer := .stopped }

def LinkState.reset (mask : Mask) : LinkState :=
  { receiver := .reset, sending := none, owed := [], queue := [], mask := mask, gap := false }

/-- R173, R178, R186. -/
def linksReset : PerLink LinkState :=
  { machine := .reset ⟨true, true, true, true, true⟩, safety := .reset ⟨false, false, true, true, false⟩,
    trace := .reset ⟨true, false, false, false, false⟩ }

/-- R191: the retained record after a POWER_ON reset. -/
def Rtr.powerOn : Rtr :=
  { amounts := ⟨0, 0⟩, activeTank := .t0, feedTotal := 0, refillSeen := ⟨false, false⟩, validity := false,
    causes := ⟨true, false, false⟩ }

/-- The machine right after a POWER_ON reset, before the contact pass that the reset makes (R39, R44). No command waits. FLX
has evaluated the empty tanks (R60, R61) and posted the two raises, FLUX_TANK_LOW first (assumption 40, DESIGN CHOICE); AIM has not taken them (R153).
(Assumption 24, DESIGN CHOICE.) The reset pin is high: R190 gives it no level here (assumption 39, DESIGN CHOICE). -/
def State.reset : State :=
  { trk := .reset, saq := .reset, flx := .reset, znc := .reset, pot := .reset, exm := .reset, aim := .reset, lmc := .reset,
    links := linksReset, rtr := .powerOn, clock := 0, resetPin := .high, pending := [],
    posted := [.alarmRaise Alarm.fluxTankLow, .alarmRaise Alarm.fluxSupplyEmpty], freeCount := 0 }

end Sys2Proof.Machine
end

