-- ==== Sys2Proof/Machine/Ops.lean ====
section
/-! DEFINITION. The operations every block shares: containers, timers, arithmetic, posting an arrival, posting an event,
raising and ending an alarm condition, the reading of a bank, and the requests' common road through LNK. -/

namespace Sys2Proof.Machine

/-! ### Containers -/

def PerZone.get {α : Type} (t : PerZone α) : Zone → α
  | .z1 => t.z1 | .z2 => t.z2 | .z3 => t.z3

def PerZone.set {α : Type} (t : PerZone α) (z : Zone) (x : α) : PerZone α :=
  match z with
  | .z1 => { t with z1 := x } | .z2 => { t with z2 := x } | .z3 => { t with z3 := x }

def PerZone.map {α β : Type} (t : PerZone α) (f : α → β) : PerZone β := ⟨f t.z1, f t.z2, f t.z3⟩

def PerLink.get {α : Type} (t : PerLink α) : Link → α
  | .machine => t.machine | .safety => t.safety | .trace => t.trace

def PerLink.set {α : Type} (t : PerLink α) (l : Link) (x : α) : PerLink α :=
  match l with
  | .machine => { t with machine := x } | .safety => { t with safety := x } | .trace => { t with trace := x }

def PerLink.map {α β : Type} (t : PerLink α) (f : α → β) : PerLink β := ⟨f t.machine, f t.safety, f t.trace⟩

def Pair.fan {α : Type} (t : Pair α) : Fan → α
  | .a => t.fst | .b => t.snd

def Pair.setFan {α : Type} (t : Pair α) (f : Fan) (x : α) : Pair α :=
  match f with
  | .a => { t with fst := x } | .b => { t with snd := x }

def Pair.bank {α : Type} (t : Pair α) : BankId → α
  | .b0 => t.fst | .b1 => t.snd

def Pair.setBank {α : Type} (t : Pair α) (b : BankId) (x : α) : Pair α :=
  match b with
  | .b0 => { t with fst := x } | .b1 => { t with snd := x }

def Pair.tank {α : Type} (t : Pair α) : Tank → α
  | .t0 => t.fst | .t1 => t.snd

def Pair.setTank {α : Type} (t : Pair α) (k : Tank) (x : α) : Pair α :=
  match k with
  | .t0 => { t with fst := x } | .t1 => { t with snd := x }

def Tank.other : Tank → Tank
  | .t0 => .t1 | .t1 => .t0

def Tank.ofNat? : Nat → Option Tank
  | 0 => some .t0 | 1 => some .t1 | _ => none

/-! ### Arithmetic (section 6.2) -/

/-- Division rounded to the nearest integer, ties away from zero; the divisor is positive. -/
def roundDiv (p : Int) (d : Nat) : Int :=
  let q : Int := ((2 * p.natAbs + d) / (2 * d) : Nat)
  if p < 0 then -q else q

/-- Clamped to a range: below takes the lower bound, above takes the upper. -/
def clampInt (lo hi x : Int) : Int := if x < lo then lo else if hi < x then hi else x

/-- A saturating sum. -/
def satAdd (bound a b : Nat) : Nat := min bound (a + b)

/-- |a − b| of two non-negative values. -/
def absDiff (a b : Nat) : Nat := (a - b) + (b - a)

/-! ### Timers -/

/-- A timer started or restarted with a duration. -/
def Timer.start (ms : Nat) : Timer := .running ms

def Timer.isRunning : Timer → Bool
  | .running _ => true
  | _ => false

/-- One tick of the run clock passes: a running timer has that much less left. The expiry itself is a command. -/
def Timer.tick : Timer → Timer
  | .running left => .running (left - Config.tickMs)
  | t => t

/-! ### Handing on and taking arrivals -/

/-- Arrivals are posted: they wait, oldest first, until their consumer takes them. -/
def State.post (cs : List Instr) (s : State) : State := { s with posted := s.posted ++ cs }

/-- A consumer takes an arrival, so the oldest posting of it, if there is one, is outstanding no more. -/
def State.taken (c : Instr) (s : State) : State := { s with posted := s.posted.erase c }

/-- An owner raises an alarm condition in AIM (section 8.2). -/
def State.raiseAlarm (i : AlarmId) (s : State) : State := s.post [.alarmRaise i]

/-- An owner ends an alarm condition in AIM (section 8.2). -/
def State.endAlarm (i : AlarmId) (s : State) : State := s.post [.alarmEnd i]

/-! ### Events (R185, R186) -/

/-- The class of an event (R185). -/
def Event.cls : Event → EventClass
  | .boardEntered .. | .boardUntracked .. | .boardGated .. | .boardExited .. => .board
  | .fluxMark .. => .flux
  | .tankSwitched .. | .fanChangeover .. => .supply
  | .alarmChanged .. | .inhibitChanged .. => .alarm
  | .modeChanged .. | .bankSwapped .. => .mode

/-- Whether a mask includes a class. -/
def Mask.has (m : Mask) : EventClass → Bool
  | .board => m.board | .flux => m.flux | .alarm => m.alarm | .mode => m.mode | .supply => m.supply

/-- R186: a copy joins the queue of a subscribing link, or is dropped and sets the gap flag. -/
def LinkState.copyEvent (r : EventRecord) (k : LinkState) : LinkState :=
  if k.mask.has r.event.cls then
    if k.queue.length < Config.eventCapacity then { k with queue := k.queue ++ [r] } else { k with gap := true }
  else k

/-- R186: a block posts an event; LNK copies it at that moment, stamped with the run clock (R189). -/
def State.event (e : Event) (s : State) : State :=
  { s with links := s.links.map (LinkState.copyEvent ⟨s.clock, e⟩) }

/-! ### Replacing a block's state -/

def State.setTrk (x : Trk) (s : State) : State := { s with trk := x }
def State.setSaq (x : Saq) (s : State) : State := { s with saq := x }
def State.setFlx (x : Flx) (s : State) : State := { s with flx := x }
def State.setZnc (x : Znc) (s : State) : State := { s with znc := x }
def State.setPot (x : Pot) (s : State) : State := { s with pot := x }
def State.setExm (x : Exm) (s : State) : State := { s with exm := x }
def State.setAim (x : Aim) (s : State) : State := { s with aim := x }
def State.setLmc (x : Lmc) (s : State) : State := { s with lmc := x }
def State.setLinks (x : PerLink LinkState) (s : State) : State := { s with links := x }
def State.setRtr (x : Rtr) (s : State) : State := { s with rtr := x }
def State.setClock (x : RunClock) (s : State) : State := { s with clock := x }
def State.setResetPin (x : ResetPin) (s : State) : State := { s with resetPin := x }

/-- n free values have been used. -/
def State.useFree (n : Nat) (s : State) : State := { s with freeCount := s.freeCount + n }

/-! ### Reading a bank (R164) -/

/-- The items as the gate, the lengths and the gap read them: an EMPTY bank reads as the starting values (R164). -/
def Bank.items : Bank → BankItems
  | .empty => .starting
  | .unchecked i | .valid i => i

def Bank.isEmpty : Bank → Bool
  | .empty => true
  | _ => false

def Bank.isValid : Bank → Bool
  | .valid _ => true
  | _ => false

/-- The items a bank holds, if it holds any. -/
def Bank.held? : Bank → Option BankItems
  | .empty => none
  | .unchecked i | .valid i => some i

/-- R66: the zone setpoint of a bank; 0 where the bank is EMPTY. -/
def Bank.zoneSetpoint (b : Bank) (z : Zone) : Nat := (b.held?.map (·.zoneSetpoint.get z)).getD 0

/-- R78, R164: the zone band; 20 where the bank is EMPTY. -/
def Bank.zoneBand (b : Bank) (z : Zone) : Nat := (b.held?.map (·.zoneBand.get z)).getD 20

def Bank.potSetpoint (b : Bank) : Nat := (b.held?.map (·.potSetpoint)).getD 0
def Bank.potBand (b : Bank) : Nat := (b.held?.map (·.potBand)).getD 20

/-- R111: pump speeds and wave heights; 0 where the bank is EMPTY. -/
def Bank.waveSpeed (b : Bank) : Nat := (b.held?.map (·.waveSpeed)).getD 0
def Bank.dipSpeed (b : Bank) : Nat := (b.held?.map (·.dipSpeed)).getD 0
def Bank.hLo (b : Bank) : Nat := (b.held?.map (·.hLo)).getD 0
def Bank.hDip (b : Bank) : Nat := (b.held?.map (·.hDip)).getD 0

/-- R45: the actions FLX reads; an EMPTY bank holds no spray-ON action. -/
def Bank.action (b : Bank) (n : Fin 8) : SprayAction :=
  (b.held?.map (fun i => i.actions[n])).getD ⟨false, 1, false, false⟩

/-- The action that covers cell `n` of a list of runs; action 0 beyond the last run (R46). -/
def actionAt : List Run → Nat → Fin 8
  | [], _ => 0
  | r :: rs, n => if n < r.cells then r.action else actionAt rs (n - r.cells)

/-- R46: the action number of a cell of a bank; an EMPTY bank has no runs. -/
def Bank.actionAt (b : Bank) (n : Nat) : Fin 8 := Machine.actionAt ((b.held?.map (·.map)).getD []) n

/-- R61: the smallest dose among the spray-ON actions, or 1 where there is none. -/
def Bank.supplyThreshold (b : Bank) : Nat :=
  match ((List.finRange 8).map b.action).filter (·.spray) with
  | [] => 1
  | a :: as => as.foldl (fun m x => min m x.dose) a.dose

def Lmc.bank (m : Lmc) (b : BankId) : Bank := m.banks.bank b

/-- The active bank's contents. -/
def Lmc.activeBank (m : Lmc) : Bank := m.bank m.active

/-! ### Reading SAQ (R28, R36, R37) -/

def ChannelState.reported : ChannelState → ReportedState
  | .initial => .initial | .good => .good | .suspect => .suspect | .faulted => .faulted

/-- R28: the reported state is FORCED while a forced value is present. -/
def ChannelRec.reported (c : ChannelRec) : ReportedState := if c.forced.isSome then .forced else c.state.reported

/-- R35, R36: the value a read gives. -/
def ChannelRec.read (c : ChannelRec) : Nat := c.forced.getD c.value

def Saq.channel (q : Saq) (c : Channel) : ChannelRec := q.channels[c.index]

/-- R37: the reported level. -/
def ContactRec.reported (c : ContactRec) : ContactLevel := c.forced.getD c.accepted

def Saq.contact (q : Saq) (c : Contact) : ContactRec := q.contacts[c.index]

/-- R35: GOOD and FORCED are used as they stand, SUSPECT with its held value; FAULTED and INITIAL are not used. -/
def usable : ReportedState → Bool
  | .good | .suspect | .forced => true
  | .faulted | .initial => false

/-! ### The board table (R17) -/

/-- The record of a board in the table. -/
def Trk.board? (t : Trk) (seq : Nat) : Option BoardRecord := t.table.find? (fun b => b.seq == seq)

/-- Whether the table holds a board. -/
def Trk.hasBoard (t : Trk) (seq : Nat) : Bool := t.table.any (fun b => b.seq == seq)

/-- A change of one board's record. -/
def Trk.update (t : Trk) (seq : Nat) (f : BoardRecord → BoardRecord) : Trk :=
  { t with table := t.table.map (fun b => if b.seq == seq then f b else b) }

def State.updateBoard (seq : Nat) (f : BoardRecord → BoardRecord) (s : State) : State := s.setTrk (s.trk.update seq f)

/-- The number of records whose gate decision is PENDING (R93). -/
def Trk.pendingBoards (t : Trk) : Nat := t.table.countP (fun b => b.decision == .pending)

/-- R2: the travel of a board at a position. -/
def BoardRecord.travel (b : BoardRecord) (pos : Position) : Nat := pos.minus b.lead

/-! ### Requests: the road through LNK (R175 to R178) -/

def State.link (l : Link) (s : State) : LinkState := s.links.get l

def State.setLink (l : Link) (k : LinkState) (s : State) : State := s.setLinks (s.links.set l k)

/-- R173: a frame has ended, so the receiver hunts and the frame timer stops. -/
def State.receiverToHunt (l : Link) (s : State) : State := s.setLink l { s.link l with receiver := .reset }

/-- R175, R171: on the safety link, while supervision is RUNNING, a valid frame hands LMC a frame arrival. -/
def State.frameAccepted (l : Link) (s : State) : State :=
  if l = .safety ∧ s.lmc.supervision.running = true then s.post [.frameArrival] else s

/-- R178: a frame that completes in the span of a reply joins the owed list, or is dropped when the list is full. -/
def State.owe (l : Link) (kind : Byte) (st : Status) (s : State) : State :=
  if (s.link l).owed.length < Config.owedCapacity then
    s.setLink l { s.link l with owed := (s.link l).owed ++ [⟨kind, st⟩] }
  else s

/-- R176, R178: a reply begins; the reply state is SENDING until its last character has been sent. -/
def State.reply (l : Link) (kind : Byte) (st : Status) (body : List Byte) (s : State) : State :=
  s.setLink l { s.link l with sending := some ⟨kind, st, body⟩ }

/-- What a request comes to: its status, its reply body, and the state it leaves. -/
structure Served where
  status : Status
  body   : List Byte
  state  : State

/-- A request refused: an empty body and nothing changed (R176). -/
def State.refuse (st : Status) (s : State) : Served := ⟨st, [], s⟩

/-- A request carried out with an empty reply body. -/
def State.done (s : State) : Served := ⟨.ok, [], s⟩

/-- R173, R175: a valid frame has ended. Its receiver hunts, and on the safety link the frame arrival is handed on before the
request's own checks and effect. A request commanded alone stands for its whole frame. (Assumption 2, DESIGN CHOICE.) -/
def State.received (l : Link) (s : State) : State := (s.receiverToHunt l).frameAccepted l

/-- R175: a valid frame with a known kind. A reply in progress makes it an owed BUSY (R178). Otherwise the link is checked, then
the body's fit, and then the request is carried out at this moment and answered. -/
def State.serve {α : Type} (l : Link) (kind : Byte) (allowed : List Link) (args : Option α) (act : α → State → Served)
    (s : State) : State :=
  let g := s.received l
  if (s.link l).sending.isSome then g.owe l kind .busy
  else if l ∉ allowed then g.reply l kind .notPermitted []
  else
    match args with
    | none => g.reply l kind .invalid []
    | some a => let r := act a g; r.state.reply l kind r.status r.body

end Sys2Proof.Machine
end

