-- ==== Sys2Proof/Machine/Flags.lean ====
section
/-! DEFINITION. What AIM computes from the alarm records: the fixed properties of the alarm list (R138), which records hold
their inhibit causes (R145), which inhibits are active (R146), the WAVE effect state (R148) and the unacknowledged counts (R152). -/

namespace Sys2Proof.Machine

/-- Class of an alarm (R137), in the order of R137. -/
inductive AlarmClass | safety | process
deriving DecidableEq, Repr

/-- Severity of an alarm (R137), in the order of R137. -/
inductive Severity | warn | alarm
deriving DecidableEq, Repr

/-- R138: the SAFETY records are ESTOP_OPEN, the doors, the overtemperatures, EXTRACTION_LOST and SUPERVISION_EXPIRED. -/
def alarmClass (i : AlarmId) : AlarmClass :=
  if i.val ∈ [0, 1, 2, 3, 14, 15, 16, 17, 27, 36] then .safety else .process

/-- R138: the warnings are FEED_WIRE_OUT, FLUX_TANK_LOW, FAN_FAULT and FILTER_LOADED. -/
def alarmSeverity (i : AlarmId) : Severity := if i.val ∈ [21, 23, 28, 29, 30] then .warn else .alarm

/-- R138: the non-latching alarms are the doors, FEED_WIRE_OUT, FLUX_TANK_LOW, FLUX_SUPPLY_EMPTY, DUCT_LOW, FILTER_LOADED
and N2_LOW. -/
def alarmLatching (i : AlarmId) : Bool := i.val ∉ [1, 2, 3, 21, 23, 24, 26, 30, 32]

/-- R138: the inhibits an alarm names; for WAVE, immediate and deferred causes alike. -/
def alarmNames (i : AlarmId) : Inhibit → Bool
  | .spray => i.val ∈ [0, 1, 26, 27]
  | .preheat => i.val ∈ [0, 2, 27]
  | .wave => i.val ∈ [0, 3, 17, 18, 22, 27, 33]
  | .feed => i.val ∈ [0, 3, 17, 19, 20]
  | .entry => i.val ∈ [0, 4, 5, 6, 7, 8, 9, 10, 11, 12, 13, 14, 15, 16, 17, 18, 22, 24, 25, 26, 27, 31, 32, 34, 35]

/-- R148: the deferred causes of the WAVE inhibit are POT_LEVEL_LOW and EXTRACTION_LOST. -/
def waveDeferred (i : AlarmId) : Bool := i.val ∈ [18, 27]

/-- R145: whether a record in a state holds its inhibit causes. -/
def holdsCauses (i : AlarmId) : RecordState → Bool
  | .idle => false
  | .activeUnack | .activeAck => true
  | .returnedUnack => alarmClass i == .safety

/-- Whether AIM's record `i` holds its causes now. -/
def Aim.holds (a : Aim) (i : AlarmId) : Bool := holdsCauses i a.records[i].state

def Assertions.get (f : Assertions) : Inhibit → Bool
  | .spray => f.spray | .preheat => f.preheat | .wave => f.wave | .feed => f.feed | .entry => f.entry

def Assertions.set (f : Assertions) (n : Inhibit) (v : Bool) : Assertions :=
  match n with
  | .spray => { f with spray := v } | .preheat => { f with preheat := v } | .wave => { f with wave := v }
  | .feed => { f with feed := v } | .entry => { f with entry := v }

/-- R146: the records in an inhibit's cause set. (Assumption 26, DEDUCED.) -/
def Aim.causeSet (a : Aim) (n : Inhibit) : List AlarmId :=
  (List.finRange 37).filter (fun i => alarmNames i n && a.holds i)

/-- R146: an inhibit is active while its cause set is not empty; the safety-link assertion is a member. -/
def Aim.inhibitActive (a : Aim) (n : Inhibit) : Bool := a.asserted.get n || !(a.causeSet n).isEmpty

/-- R148: an immediate cause of the WAVE inhibit is present. -/
def Aim.waveImmediate (a : Aim) : Bool := a.asserted.wave || (a.causeSet .wave).any (fun i => !waveDeferred i)

/-- R148: the table of the effect state, with the SOLDER occupancy last handed on. -/
def waveNext (e : WaveEffect) (immediate anyCause solder : Bool) : WaveEffect :=
  if immediate then .active
  else if anyCause then
    match e with
    | .active => .active
    | .inactive | .pending => if solder then .pending else .active
  else .inactive

/-- R148: the effect state AIM's sets call for. -/
def Aim.nextWaveEffect (a : Aim) : WaveEffect :=
  waveNext a.waveEffect a.waveImmediate (a.inhibitActive .wave) a.solderOcc

/-- R152: the number of records in ACTIVE_UNACK of a severity. -/
def Aim.unackCount (a : Aim) (v : Severity) : Nat :=
  (List.finRange 37).countP (fun i => a.records[i].state == .activeUnack && alarmSeverity i == v)

/-- R152: the sum of the two counts. -/
def Aim.unackTotal (a : Aim) : Nat := a.unackCount .alarm + a.unackCount .warn

/-- The state of an inhibit that is either active or not. -/
def inhibitState (active : Bool) : WaveEffect := if active then .active else .inactive

/-- The arrival that hands an inhibit's new state to its obeying block (R146). -/
def inhibitArrival (n : Inhibit) (active : Bool) (e : WaveEffect) : Instr :=
  match n with
  | .spray => .sprayInhibitChange active
  | .preheat => .preheatInhibitChange active
  | .wave => .waveInhibitChange e
  | .feed => .feedInhibitChange active
  | .entry => .entryInhibitChange active

/-- R146, R151: one inhibit other than WAVE, re-evaluated between two states of AIM's sets. -/
def State.noteInhibit (before after : Aim) (n : Inhibit) (s : State) : State :=
  if before.inhibitActive n = after.inhibitActive n then s
  else
    (s.event (.inhibitChanged n (inhibitState (after.inhibitActive n)) (after.asserted.get n))).post
      [inhibitArrival n (after.inhibitActive n) .inactive]

/-- R148, R151: a change of the WAVE effect state. -/
def State.noteWave (before after : Aim) (s : State) : State :=
  if before.waveEffect = after.waveEffect then s
  else
    (s.event (.inhibitChanged .wave after.waveEffect after.asserted.wave)).post [.waveInhibitChange after.waveEffect]

/-- R145, R146, R148: AIM takes on new records, flags or occupancy, re-evaluates the five inhibits and hands on what changed.
R146 gives the five no order among them; they join the queues as SPRAY, PREHEAT, WAVE, FEED, ENTRY (assumption 37, DESIGN
CHOICE). -/
def State.aimBecomes (a : Aim) (s : State) : State :=
  let after := { a with waveEffect := a.nextWaveEffect }
  let s' := s.setAim after
  (((((s'.noteInhibit s.aim after .spray).noteInhibit s.aim after .preheat).noteWave s.aim after).noteInhibit s.aim after
    .feed).noteInhibit s.aim after .entry)

end Sys2Proof.Machine
end

