-- ==== Sys2Proof/Machine/Alarms.lean ====
section
/-! DEFINITION. AIM's meanings: raise, end and acknowledgement of a record, the contacts AIM owns, the SOLDER occupancy and
the safety-link assertions (chapter 8). -/

namespace Sys2Proof.Machine

/-- R137: an alarm record saturates its raise count at 255. -/
def AlarmRecord.raised (r : AlarmRecord) (now : RunClock) : AlarmRecord :=
  match r.state with
  | .idle => { state := .activeUnack, first := some now, last := some now, count := 1 }
  | .returnedUnack | .activeUnack => { r with state := .activeUnack, last := some now, count := satAdd 255 r.count 1 }
  | .activeAck => { r with last := some now, count := satAdd 255 r.count 1 }

/-- R140: what the end of the condition makes of a record. -/
def AlarmRecord.ended (r : AlarmRecord) (latching : Bool) : AlarmRecord :=
  match r.state with
  | .activeUnack => if latching then { r with state := .returnedUnack } else .idle
  | .activeAck => .idle
  | .returnedUnack | .idle => r

/-- R141: what an accepted acknowledgement makes of a record; none where there is nothing to acknowledge. -/
def AlarmRecord.acked? (r : AlarmRecord) : Option AlarmRecord :=
  match r.state with
  | .activeUnack => some { r with state := .activeAck }
  | .returnedUnack => some .idle
  | .idle | .activeAck => none

/-- R144, R110: the record-IDLE arrival of the two records that lock the feeder. -/
def recordIdleArrivals (i : AlarmId) (before after : RecordState) : List Instr :=
  if before ≠ .idle ∧ after = .idle then
    if i = Alarm.potLevelHigh then [.recordIdleArrival .levelHigh]
    else if i = Alarm.feedRunaway then [.recordIdleArrival .runaway]
    else []
  else []

/-- A record takes a new value. Where its state changes, ALARM_CHANGED is posted (R150), the inhibits are re-evaluated after
it (R145, R146), and an entry into IDLE is handed to POT (R144), behind the inhibits (assumption 40, DESIGN CHOICE). -/
def State.setRecord (i : AlarmId) (r : AlarmRecord) (cause : RecordCause) (s : State) : State :=
  let old := s.aim.records[i]
  let aim' := { s.aim with records := s.aim.records.set i r }
  if old.state = r.state then s.setAim aim'
  else
    ((s.event (.alarmChanged i old.state r.state cause r.count)).aimBecomes aim').post
      (recordIdleArrivals i old.state r.state)

/-- R144: each raise of ESTOP_OPEN or SUPERVISION_EXPIRED hands LMC a SAFE demand. -/
def safeDemands (i : AlarmId) : List Instr :=
  if i = Alarm.estopOpen ∨ i = Alarm.supervisionExpired then [.safeDemand i] else []

/-- R139: AIM takes a raise. The SAFE demand of R144 is posted last (assumption 40, DESIGN CHOICE). -/
def State.takeRaise (i : AlarmId) (s : State) : State :=
  (s.setRecord i (s.aim.records[i].raised s.clock) .raise).post (safeDemands i)

/-- R140: AIM takes an end. -/
def State.takeEnd (i : AlarmId) (s : State) : State :=
  s.setRecord i (s.aim.records[i].ended (alarmLatching i)) .ended

/-- R141, R150: the link that acknowledged. -/
def ackCause : Link → RecordCause
  | .machine => .ackMachine
  | .safety | .trace => .ackSafety

/-- R144: an acknowledgement that takes PUMP_FAULT from ACTIVE_UNACK to ACTIVE_ACK is handed to POT. -/
def pumpFaultAcks (i : AlarmId) (before after : RecordState) : List Instr :=
  if i = Alarm.pumpFault ∧ before = .activeUnack ∧ after = .activeAck then [.pumpFaultAcknowledged] else []

/-- R141: ACK_ALARM, checked in the rule's order. The PUMP_FAULT acknowledgement of R144 is posted last (assumption 40, DESIGN
CHOICE). -/
def State.ackAlarm (l : Link) (n : Nat) (s : State) : Served :=
  if h : n < 37 then
    let i : AlarmId := ⟨n, h⟩
    if l = .machine ∧ alarmClass i = .safety then s.refuse .notPermitted
    else
      match s.aim.records[i].acked? with
      | none => s.refuse .nothingToAck
      | some r =>
        ((s.setRecord i r (ackCause l)).post (pumpFaultAcks i s.aim.records[i].state r.state)).done
  else s.refuse .invalid

/-- R139. -/
def execAlarmRaise (i : AlarmId) (s : State) : Host.Outcome State Fault Refusal :=
  .next ((s.taken (.alarmRaise i)).takeRaise i)

/-- R140. -/
def execAlarmEnd (i : AlarmId) (s : State) : Host.Outcome State Fault Refusal :=
  .next ((s.taken (.alarmEnd i)).takeEnd i)

/-- R143: AIM keeps the level, and raises its condition at a transition to OPEN or ends it at one to CLOSED. -/
def State.safetyContact (c : SafetyContact) (t : Transition) (s : State) : State :=
  let s := s.setAim { s.aim with levels := s.aim.levels.set c.index t.level }
  match t.level with
  | .opened => s.raiseAlarm c.alarm
  | .closed => s.endAlarm c.alarm
  | .unknown => s

/-- R143. -/
def execSafetyContactTransition (c : SafetyContact) (t : Transition) (s : State) : Host.Outcome State Fault Refusal :=
  .next ((s.taken (.safetyContactTransition c t)).safetyContact c t)

/-- R148: AIM keeps the occupancy and re-evaluates the WAVE effect state. -/
def execSolderOccupancyArrival (occupied : Bool) (s : State) : Host.Outcome State Fault Refusal :=
  let s := s.taken (.solderOccupancyArrival occupied)
  .next (s.aimBecomes { s.aim with solderOcc := occupied })

/-- R147: an assertion flag takes a value, a change of it being a change of the cause set. -/
def State.assertInhibit (n : Inhibit) (v : Bool) (s : State) : Served :=
  if s.aim.asserted.get n = v then s.done
  else (s.aimBecomes { s.aim with asserted := s.aim.asserted.set n v }).done

end Sys2Proof.Machine
end

