-- ==== Sys2Proof/Machine/Extraction.lean ====
section
/-! DEFINITION. The Extraction Monitor's meanings (chapter 7). -/

namespace Sys2Proof.Machine

/-! ### Fan outputs and fan fault timers (R128) -/

/-- R128: the run contact of a fan is reported other than CLOSED. -/
def Saq.notTurning (q : Saq) (f : Fan) : Bool := (q.contact f.contact).reported != .closed

/-- R122, R128: a fan's output takes a value. Turning ON starts its fault timer where the run contact is not CLOSED, turning OFF
stops it at 0, and an output that keeps its value leaves its timer alone. -/
def State.driveFan (f : Fan) (on : Bool) (s : State) : State :=
  if s.exm.outputs.fan f = on then s
  else
    s.setExm { s.exm with
      outputs := s.exm.outputs.setFan f on,
      fanTimers := s.exm.fanTimers.setFan f (if on && s.saq.notTurning f then .start Config.fanFaultMs else .stopped) }

/-- R125: a changeover starts. -/
def State.changeover (s : State) : State :=
  let out := s.exm.duty
  let s := (s.driveFan out.other true).driveFan out false
  (s.setExm { s.exm with
    duty := out.other, duct := .changeover, lowCount := 0, recoveryCount := 0,
    recoveryTimer := .start Config.recoveryMs, firstLoss := some (s.exm.firstLoss.getD s.clock), ductLow := true }).raiseAlarm
      Alarm.ductLow

/-- R126, R132: the duct returns to NORMAL. -/
def State.ductReturn (s : State) : State :=
  let lost := s.exm.duct == .lost
  let s' := (s.setExm { s.exm with
    duct := .normal, lowCount := 0, recoveryCount := 0, recoveryTimer := .stopped, lastRecovery := some s.clock,
    ductLow := false, extractionLost := if lost then false else s.exm.extractionLost }).endAlarm Alarm.ductLow
  let s' := if lost then s'.endAlarm Alarm.extractionLost else s'
  s'.event (.fanChangeover s.exm.duty (if lost then .recoveredAfterLoss else .recovered))

/-- R124: a DSP sample in NORMAL. -/
def State.suctionNormal (low : Bool) (s : State) : State :=
  if low then
    if s.exm.lowCount + 1 ≥ 40 then s.changeover else s.setExm { s.exm with lowCount := s.exm.lowCount + 1 }
  else s.setExm { s.exm with lowCount := 0 }

/-- R126: a DSP sample in CHANGEOVER or LOST. -/
def State.suctionRecovery (good : Bool) (s : State) : State :=
  if good then
    if s.exm.recoveryCount + 1 ≥ 40 then s.ductReturn
    else s.setExm { s.exm with recoveryCount := s.exm.recoveryCount + 1 }
  else s.setExm { s.exm with recoveryCount := 0 }

/-- R124, R126: a DSP sample; one that is FAULTED or INITIAL is below both levels. -/
def State.suctionSample (value : Nat) (rep : ReportedState) (s : State) : State :=
  match s.exm.duct with
  | .normal => s.suctionNormal (!usable rep || decide (value < s.exm.items.ductTrip))
  | .changeover | .lost => s.suctionRecovery (usable rep && decide (s.exm.items.ductTrip + s.exm.items.ductHyst ≤ value))

/-! ### The filter check (R133, R134) -/

/-- R133: the check interval of a line mode. -/
def filterIntervalOf : LineMode → Nat
  | .standby | .setback => Config.filterLongMs
  | .warmup | .production | .changeover | .drain | .idle | .safe | .maintenance => Config.filterShortMs

/-- R134: one of the two judgements, for a level and a hysteresis. -/
def filterJudge (holds : Bool) (level hyst value : Nat) : Bool :=
  if holds then !decide ((value : Int) < (level : Int) - hyst) else decide (level ≤ value)

/-- The arrival of a condition that begins or ends, if it does either. -/
def filterArrivals (i : AlarmId) (before after : Bool) : List Instr :=
  if before = after then [] else if after then [.alarmRaise i] else [.alarmEnd i]

/-- R134: a filter check on the latest FDP reading. The two judgements carry no order; FILTER_LOADED's arrival is posted first
(assumption 40, DESIGN CHOICE). -/
def State.filterCheck (s : State) : State :=
  if usable s.exm.fdpState then
    let i := s.exm.items
    let loaded := filterJudge s.exm.filterLoaded i.filterWarn i.filterHyst s.exm.fdpValue
    let blocked := filterJudge s.exm.filterBlocked i.filterBlock i.filterHyst s.exm.fdpValue
    (s.setExm { s.exm with filterLoaded := loaded, filterBlocked := blocked }).post
      (filterArrivals Alarm.filterLoaded s.exm.filterLoaded loaded ++
        filterArrivals Alarm.filterBlocked s.exm.filterBlocked blocked)
  else s

/-- The filter check timer starts with an interval. -/
def State.startFilterTimer (ms : Nat) (s : State) : State :=
  s.setExm { s.exm with filterTimer := .start ms, filterInterval := ms }

/-- EXM's part of a new line mode (R133): a change that keeps the interval leaves the timer running. -/
def State.exmMode (m : LineMode) (s : State) : State :=
  if filterIntervalOf m = s.exm.filterInterval then s else s.startFilterTimer (filterIntervalOf m)

/-! ### Requests -/

def Fan.ofNat? : Nat → Option Fan
  | 0 => some .a | 1 => some .b | _ => none

/-- R131: SELECT_FAN, checked in the rule's order. -/
def State.selectFan (n : Nat) (s : State) : Served :=
  match Fan.ofNat? n with
  | none => s.refuse .invalid
  | some f =>
    if s.exm.duct ≠ .normal then s.refuse .busy
    else if f = s.exm.duty ∧ s.exm.outputs.fan f.other = false then s.done
    else
      let s := (s.driveFan f true).driveFan f.other false
      ((s.setExm { s.exm with duty := f, lowCount := 0 }).event (.fanChangeover f .selected)).done

/-- R130: CLEAR_STAMPS. -/
def State.clearStamps (s : State) : Served := (s.setExm { s.exm with firstLoss := none, lastRecovery := none }).done

/-! ### Meanings -/

/-- R124 to R126. -/
def execDspSampleArrival (value : Nat) (rep : ReportedState) (s : State) : Host.Outcome State Fault Refusal :=
  .next ((s.taken (.dspSampleArrival value rep)).suctionSample value rep)

/-- R133: the latest FDP reading. -/
def execFdpSampleArrival (value : Nat) (rep : ReportedState) (s : State) : Host.Outcome State Fault Refusal :=
  let s := s.taken (.fdpSampleArrival value rep)
  .next (s.setExm { s.exm with fdpValue := value, fdpState := rep })

/-- R128: a transition of a run contact. To CLOSED, the timer stops at 0 and FAN_FAULT ends; to OPEN, the timer starts where the
output is ON and the timer stands at 0. -/
def State.fanTransition (f : Fan) (t : Transition) (s : State) : State :=
  match t.level with
  | .closed =>
    let s' := s.setExm { s.exm with
      fanTimers := s.exm.fanTimers.setFan f .stopped, fanFaults := s.exm.fanFaults.setFan f false }
    if s.exm.fanFaults.fan f then s'.endAlarm (Alarm.fanFault f) else s'
  | .opened | .unknown =>
    if s.exm.outputs.fan f = true ∧ s.exm.fanTimers.fan f = .stopped then
      s.setExm { s.exm with fanTimers := s.exm.fanTimers.setFan f (.start Config.fanFaultMs) }
    else s

/-- R128. -/
def execFanRunTransition (f : Fan) (t : Transition) (s : State) : Host.Outcome State Fault Refusal :=
  .next ((s.taken (.fanRunTransition f t)).fanTransition f t)

/-- R128, R129: the timer is held at 5 s, FAN_FAULT is raised, and in NORMAL a fault of the duty fan starts a changeover. -/
def State.fanFault (f : Fan) (s : State) : State :=
  let s' := (s.setExm { s.exm with
    fanTimers := s.exm.fanTimers.setFan f .expired, fanFaults := s.exm.fanFaults.setFan f true }).raiseAlarm
      (Alarm.fanFault f)
  if s.exm.duct = .normal ∧ f = s.exm.duty then s'.changeover else s'

/-- R128; an expiry of a timer that does not run cannot occur (assumption 5, DESIGN CHOICE). -/
def execFanFaultTimerExpiry (f : Fan) (s : State) : Host.Outcome State Fault Refusal :=
  .next (if (s.exm.fanTimers.fan f).isRunning then s.fanFault f else s)

/-- R127: the duct becomes LOST. -/
def State.loseDuct (s : State) : State :=
  let s := (s.driveFan s.exm.duty true).driveFan s.exm.duty.other true
  (s.setExm { s.exm with duct := .lost, recoveryTimer := .stopped, extractionLost := true }).raiseAlarm Alarm.extractionLost

/-- R127. -/
def execRecoveryTimerExpiry (s : State) : Host.Outcome State Fault Refusal :=
  .next (if s.exm.recoveryTimer.isRunning ∧ s.exm.duct = .changeover then s.loseDuct else s)

/-- R133, R134: the check, and the timer restarted with the interval of the present line mode. -/
def execFilterCheckTimerExpiry (s : State) : Host.Outcome State Fault Refusal :=
  .next (s.filterCheck.startFilterTimer (filterIntervalOf s.lmc.mode))

end Sys2Proof.Machine
end

