-- ==== Sys2Proof/Machine/Signals.lean ====
section
/-! DEFINITION. The Signal Acquisition Unit's meanings (chapter 2). -/

namespace Sys2Proof.Machine

/-! ### The converter (R29) -/

/-- R29: the next conversion: the rest of a priority pair goes before the rest of a regular pass. -/
def Saq.advance (q : Saq) : Saq :=
  match q.pairLeft with
  | c :: cs => { q with converting := some c, pairLeft := cs }
  | [] =>
    match q.passLeft with
    | c :: cs => { q with converting := some c, passLeft := cs }
    | [] => { q with converting := none }

/-- R29: a priority pair is requested; an idle converter starts it at once, a busy one after its conversion. -/
def Saq.requestPair (q : Saq) : Saq :=
  let q := { q with pairLeft := Channel.priority, priorityTimer := .start Config.priorityMs }
  if q.converting = none then q.advance else q

/-- R29: a regular pass is requested. Its expiry always falls together with a priority expiry, whose pair is converted
first, so the pass follows that pair and starts no conversion of its own (assumption 8, DEDUCED). -/
def Saq.requestPass (q : Saq) : Saq := { q with passLeft := Channel.regular, passTimer := .start Config.passMs }

/-- R29. -/
def execPassTimerExpiry (s : State) : Host.Outcome State Fault Refusal := .next (s.setSaq s.saq.requestPass)

/-- R29. -/
def execPriorityTimerExpiry (s : State) : Host.Outcome State Fault Refusal := .next (s.setSaq s.saq.requestPair)

/-! ### Conversion, qualification, sample arrivals (R30 to R35) -/

/-- R30: the engineering value of a code; the quotient is rounded to nearest with ties upward. -/
def engineering (items : ChannelItems) (max : Nat) (code : Code) : Nat :=
  (clampInt 0 max ((((code.toNat * items.gain + 2048) / 4096 : Nat) : Int) + items.offset)).toNat

/-- R32: a sample is good inside the window, limits included. -/
def inWindow (items : ChannelItems) (v : Nat) : Bool := decide (items.low ≤ v) && decide (v ≤ items.high)

/-- R33, good samples. -/
def ChannelRec.goodSample (c : ChannelRec) (v : Nat) : ChannelRec :=
  let c := { c with value := v, hadGood := true }
  match c.state with
  | .initial | .good | .suspect => { c with state := .good, badRun := 0 }
  | .faulted =>
    if c.goodRun + 1 ≥ 3 then { c with state := .good, badRun := 0, goodRun := 0 } else { c with goodRun := c.goodRun + 1 }

/-- R33, BAD samples: the value is held. -/
def ChannelRec.badSample (c : ChannelRec) : ChannelRec :=
  match c.state with
  | .good => { c with state := .suspect, badRun := 1 }
  | .initial | .suspect =>
    if c.badRun + 1 ≥ 3 then { c with state := .faulted, badRun := 3, goodRun := 0 } else { c with badRun := c.badRun + 1 }
  | .faulted => { c with goodRun := 0 }

/-- R30 to R33: what a code makes of a channel record. -/
def ChannelRec.convert (c : ChannelRec) (items : ChannelItems) (max : Nat) (code : Code) : ChannelRec :=
  let v := engineering items max code
  let c := { c with lastCode := code }
  if inWindow items v then c.goodSample v else c.badSample

/-- R34: SENSOR_FAULT is raised at the entry into FAULTED and ended at the return to GOOD. -/
def sensorFaults (ch : Channel) (before after : ChannelState) : List Instr :=
  if before ≠ .faulted ∧ after = .faulted then [.alarmRaise (Alarm.sensorFault ch)]
  else if before = .faulted ∧ after = .good then [.alarmEnd (Alarm.sensorFault ch)]
  else []

/-- R35: the arrivals of a sample, to the channel's consumers. ZNC's and TEG's carry no order; ZNC's is posted first
(assumption 40, DESIGN CHOICE). -/
def sampleArrivals (ch : Channel) (v : Nat) (r : ReportedState) : List Instr :=
  match ch with
  | .zs1 => [.zoneSampleArrival .z1 v r, .thermalSampleArrival (.zone .z1) v r]
  | .zs2 => [.zoneSampleArrival .z2 v r, .thermalSampleArrival (.zone .z2) v r]
  | .zs3 => [.zoneSampleArrival .z3 v r, .thermalSampleArrival (.zone .z3) v r]
  | .amb => [.thermalSampleArrival .ambient v r]
  | .pts => [.ptsSampleArrival v r]
  | .plv => [.plvSampleArrival v r]
  | .fdp => [.fdpSampleArrival v r]
  | .flp => [.flpSampleArrival v r]
  | .wvh => [.wvhSampleArrival v r]
  | .dsp => [.dspSampleArrival v r]

/-- R30 to R35: the conversion of a channel completes with a code. R35 has the sample arrival posted after R33's
step, at whose entry into FAULTED or return to GOOD R34 raises or ends SENSOR_FAULT. -/
def State.convert (ch : Channel) (code : Code) (s : State) : State :=
  let c := s.saq.channel ch
  let c' := c.convert s.saq.items[ch.index] ch.max code
  let q := { s.saq with channels := s.saq.channels.set ch.index c' }
  (s.setSaq q.advance).post (sensorFaults ch c.state c'.state ++ sampleArrivals ch c'.read c'.reported)

/-- R30: the conversion in progress completes; an idle converter completes none. -/
def execConversionComplete (code : Code) (s : State) : Host.Outcome State Fault Refusal :=
  .next (match s.saq.converting with
    | some ch => s.convert ch code
    | none => s)

/-! ### Contacts (R37 to R40) -/

/-- R38: one input of a contact pass. -/
def ContactRec.scan (c : ContactRec) (closed : Bool) : ContactRec :=
  let level : ContactLevel := if closed then .closed else .opened
  if c.accepted = .unknown then { c with accepted := level }
  else if c.accepted = level then { c with count := 0 }
  else if c.count < 2 then { c with count := c.count + 1 }
  else { c with accepted := level, count := 0 }

/-- R40: the transition arrival of a contact, to its consumer. -/
def transitionArrival (c : Contact) (t : Transition) : Instr :=
  match c with
  | .estopChain => .safetyContactTransition .estopChain t
  | .doorFlux => .safetyContactTransition .doorFlux t
  | .doorTunnel => .safetyContactTransition .doorTunnel t
  | .doorPot => .safetyContactTransition .doorPot t
  | .n2Pressure => .safetyContactTransition .n2Pressure t
  | .fanARun => .fanRunTransition .a t
  | .fanBRun => .fanRunTransition .b t
  | .pumpRun => .pumpRunTransition t
  | .wirePresent => .wirePresentTransition t
  | .upstreamAvail => .upstreamAvailTransition t

/-- R40: a contact record takes a new value; a change of its reported level posts one transition arrival. -/
def State.setContact (c : Contact) (r : ContactRec) (cause : TransitionCause) (s : State) : State :=
  let before := (s.saq.contact c).reported
  let s' := s.setSaq { s.saq with contacts := s.saq.contacts.set c.index r }
  if r.reported = before then s' else s'.post [transitionArrival c ⟨r.reported, before, cause⟩]

/-- R38: one pass over the ten inputs, in order from 0 to 9. -/
def State.contactPass (inputs : ContactInputs) (s : State) : State :=
  Contact.all.foldl (fun s c => s.setContact c ((s.saq.contact c).scan inputs[c.index]) .scan) s

/-- R38. -/
def execContactPass (inputs : ContactInputs) (s : State) : Host.Outcome State Fault Refusal :=
  .next ((s.contactPass inputs).setSaq
    { (s.contactPass inputs).saq with contactTimer := .start Config.contactPassMs })

/-! ### Forces (R41 to R43) -/

/-- R41: a forced value is set or removed; no arrival is posted. -/
def State.forceChannel (c : Channel) (v : Option Nat) (s : State) : State :=
  s.setSaq { s.saq with channels := s.saq.channels.set c.index { s.saq.channel c with forced := v } }

/-- R42, R43: a forced level is set, with cause FORCE, or removed, with cause RELEASE. -/
def State.forceContact (c : Contact) (v : Option ContactLevel) (s : State) : State :=
  s.setContact c { s.saq.contact c with forced := v } (if v.isSome then .force else .release)

/-- R43: every force ends. The RELEASE transitions are posted by contact number (assumption 40, DESIGN CHOICE). -/
def State.endForces (s : State) : State :=
  let s := Channel.all.foldl (fun s c => s.forceChannel c none) s
  Contact.all.foldl (fun s c => s.forceContact c none) s

/-- R41: FORCE_SIGNAL with an analog channel, checked in the rule's order. -/
def State.forceSignalChannel (n v : Nat) (s : State) : Served :=
  if s.lmc.mode ≠ .maintenance then s.refuse .wrongMode
  else
    match Channel.ofNat? n with
    | none => s.refuse .invalid
    | some c => if c.max < v then s.refuse .invalid else (s.forceChannel c (some v)).done

/-- R42: FORCE_SIGNAL with a contact, checked in the rule's order. -/
def State.forceSignalContact (n : Nat) (level : ContactLevel) (s : State) : Served :=
  if s.lmc.mode ≠ .maintenance then s.refuse .wrongMode
  else
    match Contact.ofNat? n with
    | none => s.refuse .invalid
    | some c => (s.forceContact c (some level)).done

/-- What RELEASE_FORCE names (R181). -/
inductive ReleaseTarget | analog (n : Nat) | contact (n : Nat) | all
deriving DecidableEq, Repr

/-- R43: RELEASE_FORCE, checked in the rule's order. -/
def State.releaseForce (t : ReleaseTarget) (s : State) : Served :=
  if s.lmc.mode ≠ .maintenance then s.refuse .wrongMode
  else
    match t with
    | .all => s.endForces.done
    | .analog n =>
      match Channel.ofNat? n with
      | none => s.refuse .invalid
      | some c => (s.forceChannel c none).done
    | .contact n =>
      match Contact.ofNat? n with
      | none => s.refuse .invalid
      | some c => (s.forceContact c none).done

end Sys2Proof.Machine
end

