-- ==== Sys2Proof/Machine/Flux.lean ====
section
/-! DEFINITION. The Flux Controller's meanings (chapter 3). -/

namespace Sys2Proof.Machine

/-! ### Tanks (R57, R60, R61) -/

/-- R60: the condition FLUX_TANK_LOW, as an evaluation finds it. -/
def Flx.tankLowNow (f : Flx) : Bool := decide (f.amounts.tank f.activeTank < f.lowThreshold)

/-- R61: the condition FLUX_SUPPLY_EMPTY, as an evaluation finds it, for a supply threshold. -/
def Flx.supplyEmptyNow (f : Flx) (threshold : Nat) : Bool :=
  f.failedDraw || (decide (f.amounts.fst < threshold) && decide (f.amounts.snd < threshold))

/-- R60: FLX evaluates FLUX_TANK_LOW, raising it where it begins and ending it where it ends. -/
def State.evalTankLow (s : State) : State :=
  let now := s.flx.tankLowNow
  let s' := s.setFlx { s.flx with tankLow := now }
  if now = s.flx.tankLow then s' else if now then s'.raiseAlarm Alarm.fluxTankLow else s'.endAlarm Alarm.fluxTankLow

/-- R61: FLX evaluates FLUX_SUPPLY_EMPTY. -/
def State.evalSupplyEmpty (s : State) : State :=
  let now := s.flx.supplyEmptyNow s.lmc.activeBank.supplyThreshold
  let s' := s.setFlx { s.flx with supplyEmpty := now }
  if now = s.flx.supplyEmpty then s'
  else if now then s'.raiseAlarm Alarm.fluxSupplyEmpty else s'.endAlarm Alarm.fluxSupplyEmpty

/-- R57: a tank amount changes, in FLX and in the retained record, and both conditions are re-evaluated, FLUX_TANK_LOW first
(assumption 40, DESIGN CHOICE). -/
def State.setAmount (k : Tank) (v : Nat) (s : State) : State :=
  (((s.setFlx { s.flx with amounts := s.flx.amounts.setTank k v }).setRtr
    { s.rtr with amounts := s.rtr.amounts.setTank k v }).evalTankLow).evalSupplyEmpty

/-- R57: the active tank changes, in FLX and in the retained record, and both conditions are re-evaluated, FLUX_TANK_LOW first
(assumption 40, DESIGN CHOICE). -/
def State.setActiveTank (k : Tank) (s : State) : State :=
  (((s.setFlx { s.flx with activeTank := k }).setRtr { s.rtr with activeTank := k }).evalTankLow).evalSupplyEmpty

/-- R50, R61: the failed-draw flag is cleared. -/
def State.clearFailedDraw (s : State) : State := (s.setFlx { s.flx with failedDraw := false }).evalSupplyEmpty

/-- R50, R61: a failed draw sets the flag and is one raise of FLUX_SUPPLY_EMPTY. (Assumption 16, DESIGN CHOICE.) -/
def State.failDraw (s : State) : State :=
  (s.setFlx { s.flx with failedDraw := true, supplyEmpty := true }).raiseAlarm Alarm.fluxSupplyEmpty

/-- R50: a dose is taken from a tank that holds it. -/
def State.deduct (k : Tank) (d : Nat) (s : State) : State := (s.setAmount k (s.flx.amounts.tank k - d)).clearFailedDraw

/-- R50: the residue of the active tank is written off and the other tank becomes active. -/
def State.switchTank (s : State) : State :=
  let k := s.flx.activeTank
  let residue := s.flx.amounts.tank k
  ((s.setAmount k 0).setActiveTank k.other).event (.tankSwitched k.other .exhausted residue)

/-- R50: the draw of a dose, and whether it succeeded. -/
def State.draw (d : Nat) (s : State) : State × Bool :=
  let k := s.flx.activeTank
  if d ≤ s.flx.amounts.tank k then (s.deduct k d, true)
  else if 0 < s.flx.amounts.tank k.other then
    let s' := s.switchTank
    if d ≤ s.flx.amounts.tank k.other then (s'.deduct k.other d, true) else (s'.failDraw, false)
  else (s.failDraw, false)

/-! ### Cells (R47 to R53) -/

/-- R50, R57: a board's doses, each kept within 0 to 65,535 (R49). -/
def BoardRecord.dosed (b : BoardRecord) (a : SprayAction) : BoardRecord :=
  { b with fluxDose := satAdd 65535 b.fluxDose a.dose,
           countedDose := if a.counted then satAdd 65535 b.countedDose a.dose else b.countedDose }

def BoardRecord.markSprayInhibited (b : BoardRecord) : BoardRecord :=
  { b with marks := { b.marks with sprayInhibited := true } }

def BoardRecord.markTankEmpty (b : BoardRecord) : BoardRecord := { b with marks := { b.marks with tankEmpty := true } }

/-- The valve and the outcome of the cell that has just been applied. -/
def State.setCell (v : Valve) (o : CellOutcome) (s : State) : State := s.setFlx { s.flx with valve := v, outcome := o }

/-- R49: a cell is treated by the first case that holds; the outcome is left in the spray state. The line mode and the SPRAY
inhibit are those FLX took last (R54, assumption 33, DEDUCED). -/
def State.treatCell (seq : Nat) (a : SprayAction) (s : State) : State :=
  if a.spray = false then s.setCell .closed .off
  else if s.flx.mode.running = false then (s.updateBoard seq (·.markSprayInhibited)).setCell .closed .held
  else if s.flx.sprayInhibit then (s.updateBoard seq (·.markSprayInhibited)).setCell .closed .inhibited
  else
    let r := s.draw a.dose
    if r.2 then (r.1.updateBoard seq (·.dosed a)).setCell .opened .sprayed
    else (r.1.updateBoard seq (·.markTankEmpty)).setCell .closed .empty

/-- R49, R51: cell `n` of a board of a bank is applied; a spray-ON cell with mark YES posts FLUX_MARK. -/
def State.applyCell (b : BoardRecord) (n : Nat) (s : State) : State :=
  let bank := s.lmc.bank b.bank
  let act := bank.actionAt n
  let a := bank.action act
  let s' := (s.setFlx { s.flx with cell := n, action := act }).treatCell b.seq a
  if a.spray && a.mark then s'.event (.fluxMark b.seq n s'.flx.outcome) else s'

/-- R48: NOZZLE_REACHED; discarded for a board that has left the table (R10). -/
def State.nozzleReached (seq : Nat) (length : Option Nat) (s : State) : State :=
  match s.trk.board? seq with
  | none => s
  | some b =>
    match length with
    | none => s.updateBoard seq fun b => { b with fluxStatus := .deficient }
    | some _ =>
      ((s.updateBoard seq fun b => { b with fluxStatus := .spraying }).setFlx { s.flx with board := some seq }).applyCell b 0

/-- R49: CELL_BOUNDARY n of the board in spray. -/
def State.cellBoundary (seq n : Nat) (s : State) : State :=
  if s.flx.board = some seq then
    match s.trk.board? seq with
    | none => s
    | some b => s.applyCell b n
  else s

/-- R53: the flux status that the counted dose gives against a bank's flux minimum. -/
def decideFlux (b : BoardRecord) (minimum : Nat) : FluxStatus := if minimum ≤ b.countedDose then .ok else .deficient

/-- R53: NOZZLE_CLEARED for the board in spray. -/
def State.nozzleCleared (seq : Nat) (s : State) : State :=
  if s.flx.board = some seq then
    (s.updateBoard seq fun b => { b with fluxStatus := decideFlux b (s.lmc.bank b.bank).items.fluxMinimum }).setFlx
      { s.flx with board := none, valve := .closed }
  else s

/-- R54: an open valve closes within the cell, with the mark on the board in spray. -/
def State.cutSpray (o : CellOutcome) (s : State) : State :=
  if s.flx.valve = .opened then
    let s' := s.setCell .closed o
    match s.flx.board with
    | some seq => s'.updateBoard seq (·.markSprayInhibited)
    | none => s'
  else s

/-- R55: the onset of a stall closes the valve and leaves the outcome. -/
def State.stallSpray (s : State) : State := s.setFlx { s.flx with valve := .closed }

/-- R56: the board in spray is removed: DEFICIENT before its record is copied, the valve closed, no board in spray.
(Assumption 15, DEDUCED.) -/
def State.removeSprayed (seq : Nat) (s : State) : State :=
  if s.flx.board = some seq then
    (s.updateBoard seq fun b => { b with fluxStatus := .deficient }).setFlx { s.flx with board := none, valve := .closed }
  else s

/-! ### Flux line pressure (R62) -/

/-- R62: an FLP sample that finds the valve OPEN and is low. -/
def State.lowPressure (s : State) : State :=
  if s.flx.pressureLow < 3 then s.setFlx { s.flx with pressureLow := s.flx.pressureLow + 1 }
  else
    let s' := if s.flx.pressureLow = 3 then
        (s.setFlx { s.flx with pressureLow := 4, pressureCond := true }).raiseAlarm Alarm.fluxPressure
      else s
    match s.flx.board with
    | some seq => s'.updateBoard seq fun b => { b with marks := { b.marks with lowPressure := true } }
    | none => s'

/-- R62: an FLP sample that finds the valve OPEN and is at or above the minimum. -/
def State.goodPressure (s : State) : State :=
  let s' := s.setFlx { s.flx with pressureLow := 0, pressureCond := false }
  if s.flx.pressureCond then s'.endAlarm Alarm.fluxPressure else s'

/-- R62: an FLP sample. -/
def State.pressureSample (value : Nat) (rep : ReportedState) (s : State) : State :=
  if s.flx.valve = .opened ∧ usable rep = true then
    if value < s.flx.pressureMin then s.lowPressure else s.goodPressure
  else s

/-! ### Requests -/

/-- R191: an accepted REFILL of a tank is seen, and the validity becomes true once both have been. -/
def Rtr.sawRefill (r : Rtr) (k : Tank) : Rtr :=
  let seen := r.refillSeen.setTank k true
  { r with refillSeen := seen, validity := r.validity || (seen.fst && seen.snd) }

/-- R58: REFILL, checked in the rule's order. -/
def State.refill (tank amount : Nat) (s : State) : Served :=
  match Tank.ofNat? tank with
  | none => s.refuse .invalid
  | some k =>
    if Config.tankMax < amount then s.refuse .invalid
    else if amount < s.flx.amounts.tank k then s.refuse .invalid
    else
      let s' := (s.setAmount k amount).clearFailedDraw
      (s'.setRtr (s'.rtr.sawRefill k)).done

/-- R59: SELECT_TANK, checked in the rule's order. -/
def State.selectTank (tank : Nat) (s : State) : Served :=
  match Tank.ofNat? tank with
  | none => s.refuse .invalid
  | some k =>
    if s.trk.table.any (fun b => b.fluxStatus == .spraying) then s.refuse .busy
    else if k = s.flx.activeTank then s.done
    else ((s.setActiveTank k).event (.tankSwitched k .selected 0)).done

/-! ### Meanings -/

/-- R48. -/
def execNozzleReached (seq : Nat) (length : Option Nat) (s : State) : Host.Outcome State Fault Refusal :=
  .next ((s.taken (.nozzleReached seq length)).nozzleReached seq length)

/-- R49. -/
def execCellBoundary (seq cell : Nat) (s : State) : Host.Outcome State Fault Refusal :=
  .next ((s.taken (.cellBoundary seq cell)).cellBoundary seq cell)

/-- R53. -/
def execNozzleCleared (seq : Nat) (s : State) : Host.Outcome State Fault Refusal :=
  .next ((s.taken (.nozzleCleared seq)).nozzleCleared seq)

/-- R54: FLX takes a new state of the SPRAY inhibit. Its becoming active cuts an open valve; its release waits for the next
cell. -/
def State.sprayChange (active : Bool) (s : State) : State :=
  let s := s.setFlx { s.flx with sprayInhibit := active }
  if active then s.cutSpray .inhibited else s

/-- R54. -/
def execSprayInhibitChange (active : Bool) (s : State) : Host.Outcome State Fault Refusal :=
  .next ((s.taken (.sprayInhibitChange active)).sprayChange active)

/-- R62. -/
def execFlpSampleArrival (value : Nat) (rep : ReportedState) (s : State) : Host.Outcome State Fault Refusal :=
  .next ((s.taken (.flpSampleArrival value rep)).pressureSample value rep)

/-- FLX's part of a new line mode (R54): one outside PRODUCTION, CHANGEOVER and DRAIN cuts an open valve. -/
def State.flxMode (m : LineMode) (s : State) : State :=
  let s := s.setFlx { s.flx with mode := m }
  if m.running then s else s.cutSpray .held

end Sys2Proof.Machine
end

