-- ==== Sys2Proof/Machine/Heat.lean ====
section
/-! DEFINITION. What the preheat zones and the solder pot share: the heater law (R69), the heater window (R70) and the judgement
of overtemperature (R74). -/

namespace Sys2Proof.Machine

/-- What a run of the heater law gives. -/
structure LawResult where
  duty     : Nat
  integral : Nat
deriving DecidableEq, Repr

/-- R69 step 2: the candidate integral. -/
def candidateIntegral (e : Int) (ki integral : Nat) : Int := clampInt 0 Config.integralMax (integral + e * ki)

/-- R69 steps 3 and 4: the output for an error and an integral, before any clamp. -/
def lawOutput (e : Int) (kp : Nat) (integral : Int) : Int := roundDiv (e * kp + integral) 256

/-- R69: the heater law, with the error SP − T and the anti-windup of step 4. -/
def heaterLaw (kp ki sp t integral : Nat) : LawResult :=
  let e : Int := (sp : Int) - (t : Int)
  let cand := candidateIntegral e ki integral
  let out := lawOutput e kp cand
  if (out > Config.dutyMax ∧ e > 0) ∨ (out < 0 ∧ e < 0) then
    ⟨(clampInt 0 Config.dutyMax (lawOutput e kp integral)).toNat, integral⟩
  else ⟨(clampInt 0 Config.dutyMax out).toNat, cand.toNat⟩

/-- R70: the on time of a heater window, in milliseconds. -/
def onTimeMs (applied : Nat) : Nat := (roundDiv ((applied * Config.heaterWindowMs : Nat) : Int) 255).toNat

/-- What a judgement of overtemperature finds. -/
structure Judged where
  armed   : Bool
  holds   : Bool
  raised  : Bool
  ended   : Bool
deriving DecidableEq, Repr

/-- R74: the three steps of the judgement, for a temperature `t`, the effective setpoint, the margin, the absolute limit, and
the armed flag and condition as they stood. -/
def judgeOvertemp (absolute : Int) (sp margin t : Nat) (armed holds : Bool) : Judged :=
  let relative : Int := sp + margin
  let armed := armed || (sp != 0 && decide ((t : Int) ≤ relative))
  if holds then
    if (t : Int) ≤ absolute - Config.overtempHysteresis ∧
        (armed = true → (t : Int) ≤ relative - Config.overtempHysteresis) then ⟨armed, false, false, true⟩
    else ⟨armed, true, false, false⟩
  else if (t : Int) > absolute ∨ (armed = true ∧ (t : Int) > relative) then ⟨armed, true, true, false⟩
  else ⟨armed, false, false, false⟩

/-- The alarm arrivals of a judgement. -/
def Judged.arrivals (j : Judged) (i : AlarmId) : List Instr :=
  if j.raised then [.alarmRaise i] else if j.ended then [.alarmEnd i] else []

end Sys2Proof.Machine
end

