-- ==== Sys2Proof/Machine/Pot.lean ====
section
/-! DEFINITION. The Pot Controller's meanings: the pot record, the compensated level, the feeder, the wave and the wave schedule
(chapter 6). -/

namespace Sys2Proof.Machine

/-! ### The pot record -/

/-- R99: the effective setpoint of the pot. -/
def potEffective (m : LineMode) (b : Bank) (items : PotItems) : Nat :=
  match m with
  | .warmup | .production | .changeover | .drain | .idle => b.potSetpoint
  | .setback => b.potSetpoint - b.items.potSetback
  | .standby => if items.holdEnabled then items.holdSetpoint else 0
  | .safe | .maintenance => 0

/-- R101 step 2: entry into FAULT cuts the heater at once. -/
def PotRec.toFault (r : PotRec) : PotRec :=
  { r with state := .fault, integral := 0, computed := 0, applied := 0, readyCount := 0, outCount := 0, output := false }

/-- R103: a pot whose effective setpoint is 0. -/
def PotRec.toOff (r : PotRec) : PotRec :=
  { r with state := .off, integral := 0, computed := 0, applied := 0, readyCount := 0, outCount := 0, armed := false,
           output := false }

/-- A state with both counts 0. -/
def PotRec.restart (r : PotRec) (st : PotState) : PotRec := { r with state := st, readyCount := 0, outCount := 0 }

/-- R102: the counts of readiness. -/
def PotRec.qualify (r : PotRec) : PotRec :=
  let inBand := absDiff r.temp r.setpoint ≤ r.band
  match r.state with
  | .heating =>
    if inBand then
      if r.readyCount + 1 ≥ 120 then { r with state := .ready, readyCount := 120, outCount := 0 }
      else { r with readyCount := r.readyCount + 1 }
    else { r with readyCount := 0 }
  | .ready =>
    if inBand then { r with outCount := 0 }
    else if r.outCount + 1 ≥ 10 then r.restart .heating
    else { r with outCount := r.outCount + 1 }
  | .off | .cold | .setback | .hold | .fault => r

/-- R101 step 6: the heater law, run for the pot. -/
def PotRec.law (r : PotRec) (kp ki : Nat) : PotRec :=
  let x := heaterLaw kp ki r.setpoint r.temp r.integral
  { r with computed := x.duty, integral := x.integral }

/-- R101, steps 4 to 9: a pot whose sample is usable and whose overtemperature condition is absent. -/
def PotRec.work (r : PotRec) (items : PotItems) (m : LineMode) : PotRec :=
  let leaves := r.state = .fault
  let r := if leaves then { r with integral := 0, readyCount := 0, outCount := 0 } else r
  if r.setpoint = 0 then { r with state := .off }
  else
    let r := r.law items.kp items.ki
    if r.temp < items.pumpSafe then r.restart .cold
    else if m = .setback then r.restart .setback
    else if m = .standby then r.restart .hold
    else if r.state = .cold ∨ leaves then (r.restart .heating).qualify
    else r.qualify

/-- R101: what a PTS sample makes of the pot record, with the judgement it made, if it made one. -/
def PotRec.sample (r : PotRec) (items : PotItems) (m : LineMode) (value : Nat) (rep : ReportedState) :
    PotRec × Option Judged :=
  let r := { r with temp := value, tempState := rep }
  if usable rep then
    let j := judgeOvertemp Config.potAbsoluteLimit r.setpoint items.margin value r.armed r.overtemp
    let r := { r with armed := j.armed, overtemp := j.holds }
    (if j.holds then r.toFault else r.work items m, some j)
  else (r.toFault, none)

/-- R103: an evaluation of the effective setpoint and the band. -/
def PotRec.evaluate (r : PotRec) (sp band : Nat) (items : PotItems) (m : LineMode) : PotRec :=
  let spChanged := r.setpoint ≠ sp
  let bandChanged := r.band ≠ band
  let wasOff := r.state = .off
  let r := { r with setpoint := sp, band := band }
  let disarmed := { r with armed := if spChanged then false else r.armed }
  if r.state = .fault then disarmed
  else if sp = 0 then r.toOff
  else if wasOff then
    let st : PotState :=
      if r.temp < items.pumpSafe then .cold
      else if m = .setback then .setback
      else if m = .standby then .hold
      else .heating
    { r.restart st with integral := 0, armed := false }
  else if m = .setback ∨ m = .standby then
    disarmed.restart (if r.state = .cold then .cold else if m = .setback then .setback else .hold)
  else if r.state = .ready ∧ (spChanged ∨ bandChanged) then
    if absDiff r.temp sp ≤ band then { r with outCount := 0, armed := false }
    else { r.restart .heating with armed := false }
  else if r.state = .setback ∨ r.state = .hold then disarmed.restart .heating
  else disarmed

/-- R102: the start of the pot's heater window. -/
def PotRec.windowStart (r : PotRec) : PotRec :=
  { r with applied := r.computed, output := decide (0 < onTimeMs r.computed) }

/-- R102: the on time has run; a duty of 255 has no off time in its window. -/
def PotRec.onEnd (r : PotRec) : PotRec :=
  if onTimeMs r.applied < Config.heaterWindowMs then { r with output := false } else r

/-- R100: the pot is READY for the other blocks in state READY alone. -/
def Pot.isReady (p : Pot) : Bool := p.heat.state == .ready

/-! ### The feeder -/

/-- R109: the sum of the budget ring. -/
def Pot.ringSum (p : Pot) : Nat := p.buckets.sum

/-- R108: the feeder state, by the first row that holds. -/
def Pot.feederNext (p : Pot) (wire : ContactLevel) (feedInhibited : Bool) : FeederState :=
  if p.runawayIdle = false ∨ p.levelHighIdle = false then .locked
  else if p.demand ∧ wire = .closed ∧ feedInhibited = false ∧ p.isReady ∧ p.ringSum ≤ p.items.budget then .feeding
  else .off

/-- R108, R120: POT evaluates the feeder on a level of WIRE_PRESENT and a state of the FEED inhibit; a change into or out of
FEEDING is handed to LMC. -/
def State.feederOn (wire : ContactLevel) (feedInhibited : Bool) (s : State) : State :=
  let st := s.pot.feederNext wire feedInhibited
  let s' := s.setPot { s.pot with feeder := st }
  if st ≠ s.pot.feeder ∧ (st = .feeding ∨ s.pot.feeder = .feeding) then s'.post [.feederArrival st] else s'

/-- R108: the evaluation on the present level and inhibit. -/
def State.evalFeeder (s : State) : State :=
  s.feederOn (s.saq.contact .wirePresent).reported (s.aim.inhibitActive .feed)

/-! ### The wave -/

/-- R114: the wave target, by the first case that holds. -/
def waveTarget (m : LineMode) (e : WaveEffect) (potReady : Bool) (head : Option GateDecision) : WaveTarget :=
  if m ≠ .warmup ∧ m.running = false then .off
  else if e = .active then .off
  else if potReady = false then .off
  else if head = some .dry then .dip
  else .wave

/-- R115: where the wave state moves for a target. -/
def waveMove (w : WaveState) : WaveTarget → WaveState
  | .off => .off
  | .wave => match w with
    | .off | .dipping | .dipped => .rising
    | .rising => .rising
    | .on => .on
  | .dip => match w with
    | .off | .rising | .on => .dipping
    | .dipping => .dipping
    | .dipped => .dipped

/-- R117: the pump speed for a wave state and a bank. -/
def pumpSpeedFor (w : WaveState) (b : Bank) : Nat :=
  match w with
  | .off => 0
  | .rising | .on => b.waveSpeed
  | .dipping | .dipped => b.dipSpeed

/-- R117: the pump run timer runs while the output is nonzero and PUMP_RUN is reported other than CLOSED. -/
def pumpRunNext (t : Timer) (speed : Nat) (run : ContactLevel) : Timer :=
  if speed ≠ 0 ∧ run ≠ .closed then (if t = .stopped then .start Config.pumpRunMs else t) else .stopped

/-- R117: POT sets the pump output by the wave state and the wave bank. -/
def State.setPump (s : State) : State :=
  let speed := pumpSpeedFor s.pot.wave (s.lmc.bank s.pot.waveBank)
  s.setPot { s.pot with pumpSpeed := speed,
                        pumpRunTimer := pumpRunNext s.pot.pumpRunTimer speed (s.saq.contact .pumpRun).reported }

/-- R119: the wave state changes to OFF while a board occupies the wave. -/
def WaveResult.cut : WaveResult → WaveResult
  | .waved | .partialWave => .interrupted
  | r => r

/-- R119: the boards on the wave, when it goes OFF. -/
def State.interruptBoards (s : State) : State :=
  s.setTrk { s.trk with table := s.trk.table.map fun b =>
    if b.seq ∈ s.pot.onWave then { b with waveResult := b.waveResult.cut } else b }

/-- R120: POT hands LMC the wave state and whether the wave bank is the active bank. -/
def State.postWave (s : State) : State :=
  s.post [.readinessArrival (.wave s.pot.wave (decide (s.pot.waveBank = s.lmc.active)))]

/-- R115: an entry into a wave state: counts and rise timer, the settle timer where the state changes, the pump, the boards
on the wave, and the arrival to LMC. -/
def State.enterWave (w : WaveState) (s : State) : State :=
  let p := s.pot
  let s' := s.setPot { p with
    wave := w,
    settleTimer := if p.wave = w then p.settleTimer else .start Config.settleMs,
    riseTimer := if w = .rising then .start Config.riseMs else .stopped,
    riseCount := if w = .rising then 0 else p.riseCount,
    dipCount := if w = .dipping then 0 else p.dipCount }
  let s' := s'.setPump
  (if w = .off then s'.interruptBoards else s').postWave

/-- R114, R115: POT evaluates the wave target on a line mode and an effect state, and moves the wave. -/
def State.evalWaveOn (m : LineMode) (e : WaveEffect) (s : State) : State :=
  let t := waveTarget m e s.pot.isReady (s.pot.schedule.head?.map (·.decision))
  let s' := s.setPot { s.pot with target := t }
  let w := waveMove s.pot.wave t
  if w = s.pot.wave then s' else s'.enterWave w

/-- R114: the evaluation on the present mode and effect state. -/
def State.evalWave (s : State) : State := s.evalWaveOn s.lmc.mode s.aim.waveEffect

/-- R111: the wave state after a change of the wave bank. -/
def waveAgain : WaveState → WaveState
  | .rising | .on => .rising
  | .dipping | .dipped => .dipping
  | .off => .off

/-- R111: the wave bank follows the active bank once no schedule entry carries its number. (Assumption 17, DEDUCED.) -/
def State.updateWaveBank (s : State) : State :=
  if s.pot.waveBank ≠ s.lmc.active ∧ s.pot.schedule.all (fun e => e.bank ≠ s.pot.waveBank) then
    let s' := s.setPot { s.pot with waveBank := s.lmc.active }
    s'.enterWave (waveAgain s.pot.wave)
  else s

/-! ### The wave schedule and the occupancy of the wave -/

/-- The schedule entry of a board. -/
def Pot.entry? (p : Pot) (seq : Nat) : Option ScheduleEntry := p.schedule.find? (fun e => e.seq == seq)

/-- R113: whether a SOLDER board occupies the wave. -/
def Pot.solderOnWave (p : Pot) : Bool :=
  p.onWave.any fun q => p.schedule.any fun e => e.seq == q && e.decision == .solder

/-- R113: a change of the SOLDER occupancy is handed to AIM. -/
def State.noteOccupancy (s : State) : State :=
  let o := s.pot.solderOnWave
  if o = s.pot.solderOcc then s
  else (s.setPot { s.pot with solderOcc := o }).post [.solderOccupancyArrival o]

/-- R92, R112: an entry joins the schedule; at an append to an empty schedule POT re-evaluates the target and the bank. The
occupancy arrival is posted before the wave arrivals (assumption 40, DESIGN CHOICE). -/
def State.appendSchedule (e : ScheduleEntry) (s : State) : State :=
  let s' := s.setPot { s.pot with schedule := s.pot.schedule ++ [e] }
  let s' := s'.noteOccupancy
  if s.pot.schedule.isEmpty then s'.evalWave.updateWaveBank else s'

/-- R112, R113: a board leaves the wave and the schedule. Where a SOLDER board's leaving hands AIM a NO while the WAVE
inhibit is PENDING, the target is left to the inhibit change that follows, so that it is evaluated on the new effect state
(R113, assumption 9, DEDUCED). The occupancy arrival is posted before the wave arrivals (assumption 40, DESIGN CHOICE). -/
def State.leaveWave (seq : Nat) (s : State) : State :=
  let scheduled := s.pot.schedule.any (fun e => e.seq == seq)
  let s' := s.setPot { s.pot with
    schedule := s.pot.schedule.filter (fun e => e.seq != seq), onWave := s.pot.onWave.filter (fun q => q != seq) }
  let s' := s'.noteOccupancy
  let deferred := s.pot.solderOcc && !s'.pot.solderOcc && s.aim.waveEffect == .pending
  if scheduled then (if deferred then s' else s'.evalWave).updateWaveBank else s'

/-! ### The pot record in the state -/

/-- The pot record takes a new value; a change into or out of READY is handed on and acts on the feeder and the wave, whose
arrivals are posted in that order (R120; assumption 40, DESIGN CHOICE). -/
def State.setHeat (m : LineMode) (r : PotRec) (s : State) : State :=
  let s' := s.setPot { s.pot with heat := r }
  if (s.pot.heat.state == .ready) = (r.state == .ready) then s'
  else ((s'.post [.readinessArrival (.pot r.state)]).evalFeeder).evalWaveOn m s.aim.waveEffect

/-- R103: POT evaluates the effective setpoint and the band in a line mode. -/
def State.evaluatePot (m : LineMode) (s : State) : State :=
  s.setHeat m (s.pot.heat.evaluate (potEffective m s.lmc.activeBank s.pot.items) s.lmc.activeBank.potBand s.pot.items m)

/-- R101: a PTS sample. POT_OVERTEMP's arrival is posted before those of the pot's readiness (assumption 40, DESIGN CHOICE). -/
def State.potSample (value : Nat) (rep : ReportedState) (s : State) : State :=
  let x := s.pot.heat.sample s.pot.items s.lmc.mode value rep
  let s' := match x.2 with
    | some j => s.post (j.arrivals Alarm.potOvertemp)
    | none => s
  s'.setHeat s.lmc.mode x.1

/-! ### The compensated level -/

/-- R105: the PTS temperature the thermal term uses. -/
def levelTemperature (pts : ChannelRec) (tRef : Nat) : Nat :=
  match pts.forced with
  | some v => v
  | none => if pts.hadGood then pts.value else tRef

/-- R105: the compensated level. -/
def compensatedLevel (items : PotItems) (plv t : Nat) (waveOn : Bool) : Nat :=
  let term := roundDiv ((items.alpha : Int) * ((t : Int) - (items.tRef : Int))) 100
  (clampInt 0 10000 ((plv : Int) - term + (if waveOn then (items.dPump : Int) else 0))).toNat

/-- R107: the level demand for a settled level. -/
def Pot.demandAt (p : Pot) (level : Nat) : Bool :=
  if level < p.items.feedOn then true else if p.items.feedOff ≤ level then false else p.demand

/-- R107: the level is settled from the settle timer's expiry until the next change of the wave state. -/
def Pot.settled (p : Pot) : Bool := p.settleTimer == .expired

/-- R106: POT raises or ends one level condition where a judgement finds it beginning or ending. -/
def conditionArrivals (i : AlarmId) (before after : Bool) : List Instr :=
  match before, after with
  | false, true => [.alarmRaise i]
  | true, false => [.alarmEnd i]
  | _, _ => []

/-- R105 to R107: a VALID level is computed. POT_LEVEL_LOW's arrival is posted before POT_LEVEL_HIGH's
(assumption 40, DESIGN CHOICE). -/
def State.levelValid (level : Nat) (s : State) : State :=
  let p := s.pot
  let low := decide (level < p.items.levelMin)
  let high := decide (p.items.levelMax < level)
  let s' := s.setPot { p with
    level := level, levelValidity := .valid, levelLow := low, levelHigh := high,
    levelHighIdle := if high ∧ p.levelHigh = false then false else p.levelHighIdle,
    demand := if p.settled then p.demandAt level else p.demand }
  (s'.post (conditionArrivals Alarm.potLevelLow p.levelLow low ++ conditionArrivals Alarm.potLevelHigh p.levelHigh
    high)).evalFeeder

/-- R105: the level becomes UNKNOWN, and the demand NO at once. -/
def State.levelUnknown (s : State) : State :=
  (s.setPot { s.pot with levelValidity := .unknown, demand := false }).evalFeeder

/-- R105: a PLV sample. -/
def State.levelSample (value : Nat) (rep : ReportedState) (s : State) : State :=
  if usable rep then
    s.levelValid (compensatedLevel s.pot.items value (levelTemperature (s.saq.channel .pts) s.pot.items.tRef)
      (s.pot.wave == .on))
  else s.levelUnknown

/-! ### Wave samples -/

/-- R116: qualification of a rising or dipping wave. -/
def State.qualifyWave (value : Nat) (rep : ReportedState) (s : State) : State :=
  let b := s.lmc.bank s.pot.waveBank
  match s.pot.wave with
  | .rising =>
    if usable rep ∧ b.hLo ≤ value then
      let s' := s.setPot { s.pot with riseCount := s.pot.riseCount + 1 }
      if s.pot.riseCount + 1 ≥ 4 then s'.enterWave .on else s'
    else s.setPot { s.pot with riseCount := 0 }
  | .dipping =>
    if usable rep ∧ value ≤ b.hDip then
      let s' := s.setPot { s.pot with dipCount := s.pot.dipCount + 1 }
      if s.pot.dipCount + 1 ≥ 2 then s'.enterWave .dipped else s'
    else s.setPot { s.pot with dipCount := 0 }
  | .off | .on | .dipped => s

/-- R119: a WVH sample's judgement of one wave result. -/
def WaveResult.judged (r : WaveResult) (b : Bank) (value : Nat) (rep : ReportedState) : WaveResult :=
  match r with
  | .waved => if usable rep ∧ b.hLo ≤ value then .waved else .partialWave
  | .dryClean => if usable rep ∧ value ≤ b.hDip then .dryClean else .dryContacted
  | r => r

/-- R119: a WVH sample judges every board on the wave, each against the bank in its schedule entry. -/
def State.judgeBoards (value : Nat) (rep : ReportedState) (s : State) : State :=
  s.setTrk { s.trk with table := s.trk.table.map fun b =>
    if b.seq ∈ s.pot.onWave then
      match s.pot.entry? b.seq with
      | some e => { b with waveResult := b.waveResult.judged (s.lmc.bank e.bank) value rep }
      | none => b
    else b }

/-- R119: the wave result a board takes at WAVE_ENTERED. -/
def enteredResult (d : GateDecision) (w : WaveState) (old : WaveResult) : WaveResult :=
  match d with
  | .solder => if w = .off then .interrupted else .waved
  | .dry => .dryClean
  | .pending => old

/-- R119, R113: a board enters the wave; an arrival for a board that has left the table is discarded (R10). -/
def State.boardEntersWave (seq : Nat) (s : State) : State :=
  if s.trk.hasBoard seq ∧ seq ∉ s.pot.onWave then
    let s' := match s.pot.entry? seq with
      | some e => s.updateBoard seq fun b => { b with waveResult := enteredResult e.decision s.pot.wave b.waveResult }
      | none => s
    (s'.setPot { s.pot with onWave := s.pot.onWave ++ [seq] }).noteOccupancy
  else s

/-! ### Meanings -/

/-- R119. -/
def execWaveEntered (seq : Nat) (s : State) : Host.Outcome State Fault Refusal :=
  .next ((s.taken (.waveEntered seq)).boardEntersWave seq)

/-- R112; discarded for a board that has left the table (R10). -/
def execWaveLeft (seq : Nat) (s : State) : Host.Outcome State Fault Refusal :=
  let s := s.taken (.waveLeft seq)
  .next (if s.trk.hasBoard seq then s.leaveWave seq else s)

/-- R101. -/
def execPtsSampleArrival (value : Nat) (rep : ReportedState) (s : State) : Host.Outcome State Fault Refusal :=
  .next ((s.taken (.ptsSampleArrival value rep)).potSample value rep)

/-- R105. -/
def execPlvSampleArrival (value : Nat) (rep : ReportedState) (s : State) : Host.Outcome State Fault Refusal :=
  .next ((s.taken (.plvSampleArrival value rep)).levelSample value rep)

/-- R116, then R119 by the same arrival. -/
def execWvhSampleArrival (value : Nat) (rep : ReportedState) (s : State) : Host.Outcome State Fault Refusal :=
  .next (((s.taken (.wvhSampleArrival value rep)).qualifyWave value rep).judgeBoards value rep)

/-- R117: a PUMP_RUN transition. -/
def execPumpRunTransition (t : Transition) (s : State) : Host.Outcome State Fault Refusal :=
  let s := s.taken (.pumpRunTransition t)
  .next (s.setPot { s.pot with pumpRunTimer := pumpRunNext s.pot.pumpRunTimer s.pot.pumpSpeed t.level })

/-- R108: FEED_WIRE_OUT follows WIRE_PRESENT, and the feeder is evaluated on the new level. FEED_WIRE_OUT's arrival is posted
before the feeder's (assumption 40, DESIGN CHOICE). -/
def State.wireTransition (t : Transition) (s : State) : State :=
  let s := match t.level with
    | .opened => (s.setPot { s.pot with wireOut := true }).raiseAlarm Alarm.feedWireOut
    | .closed => (s.setPot { s.pot with wireOut := false }).endAlarm Alarm.feedWireOut
    | .unknown => s
  s.feederOn t.level (s.aim.inhibitActive .feed)

/-- R108. -/
def execWirePresentTransition (t : Transition) (s : State) : Host.Outcome State Fault Refusal :=
  .next ((s.taken (.wirePresentTransition t)).wireTransition t)

/-- R114: the target, on the new effect state. -/
def execWaveInhibitChange (e : WaveEffect) (s : State) : Host.Outcome State Fault Refusal :=
  let s := s.taken (.waveInhibitChange e)
  .next (s.evalWaveOn s.lmc.mode e)

/-- R108: the feeder, on the new state of the FEED inhibit. -/
def execFeedInhibitChange (active : Bool) (s : State) : Host.Outcome State Fault Refusal :=
  let s := s.taken (.feedInhibitChange active)
  .next (s.feederOn (s.saq.contact .wirePresent).reported active)

/-- R118: the cause set is emptied and the condition ends. -/
def execPumpFaultAcknowledged (s : State) : Host.Outcome State Fault Refusal :=
  let s := s.taken .pumpFaultAcknowledged
  .next ((s.setPot { s.pot with pumpCauses := ⟨false, false⟩ }).endAlarm Alarm.pumpFault)

/-- R110: the flag says IDLE again. -/
def Pot.markIdle (p : Pot) : FeederLock → Pot
  | .levelHigh => { p with levelHighIdle := true }
  | .runaway => { p with runawayIdle := true }

/-- R110. -/
def execRecordIdleArrival (r : FeederLock) (s : State) : Host.Outcome State Fault Refusal :=
  let s := s.taken (.recordIdleArrival r)
  .next (s.setPot (s.pot.markIdle r)).evalFeeder

/-- R102. -/
def execPotHeaterWindow (s : State) : Host.Outcome State Fault Refusal :=
  .next (s.setPot { s.pot with heat := s.pot.heat.windowStart, windowTimer := .start Config.heaterWindowMs })

/-- R102. (Assumption 25, DEDUCED.) -/
def execPotHeaterOnEnd (s : State) : Host.Outcome State Fault Refusal :=
  .next (s.setPot { s.pot with heat := s.pot.heat.onEnd })

/-- R107: the level is settled from here, and a VALID level sets the demand. -/
def State.settle (s : State) : State :=
  (s.setPot { s.pot with
    settleTimer := .expired,
    demand := if s.pot.levelValidity = .valid then s.pot.demandAt s.pot.level else s.pot.demand }).evalFeeder

/-- R107; an expiry of a timer that does not run cannot occur (assumption 5, DESIGN CHOICE). -/
def execSettleTimerExpiry (s : State) : Host.Outcome State Fault Refusal :=
  .next (if s.pot.settleTimer.isRunning then s.settle else s)

/-- R109: the current bucket takes a feeding second. -/
def addSecond : List Nat → List Nat
  | [] => []
  | b :: bs => satAdd 60 b 1 :: bs

/-- R109, R110, R191: a feeding second. FEED_RUNAWAY's raise is posted before the feeder arrival (assumption 40, DESIGN CHOICE). -/
def State.feedSecond (s : State) : State :=
  let buckets := addSecond s.pot.buckets
  let s' := (s.setPot { s.pot with feedAccMs := 0, buckets := buckets }).setRtr
    { s.rtr with feedTotal := satAdd Config.feedTotalMax s.rtr.feedTotal 1 }
  let s' :=
    if s.pot.runaway = false ∧ s.pot.items.budget < buckets.sum then
      (s'.setPot { s'.pot with runaway := true, runawayIdle := false }).raiseAlarm Alarm.feedRunaway
    else s'
  s'.evalFeeder

/-- R109; the accumulator stands still outside FEEDING, so no feeding second falls there. -/
def execFeedingSecond (s : State) : Host.Outcome State Fault Refusal :=
  .next (if s.pot.feeder = .feeding then s.feedSecond else s)

/-- R109, R110: the oldest bucket is dropped and a new current one starts; the runaway condition may end. FEED_RUNAWAY's end is
posted before the feeder arrival (assumption 40, DESIGN CHOICE). -/
def execMinuteTimerExpiry (s : State) : Host.Outcome State Fault Refusal :=
  let buckets := 0 :: s.pot.buckets.dropLast
  let s' := s.setPot { s.pot with buckets := buckets, minuteTimer := .start Config.minuteMs }
  let s' :=
    if s.pot.runaway = true ∧ buckets.sum ≤ s.pot.items.budget then
      (s'.setPot { s'.pot with runaway := false }).endAlarm Alarm.feedRunaway
    else s'
  .next s'.evalFeeder

/-- R116, R118; the timer runs only in RISING. -/
def execRiseTimerExpiry (s : State) : Host.Outcome State Fault Refusal :=
  .next (if s.pot.riseTimer.isRunning ∧ s.pot.wave = .rising then
      (s.setPot { s.pot with riseTimer := .expired, pumpCauses := { s.pot.pumpCauses with rise := true } }).raiseAlarm
        Alarm.pumpFault
    else s)

/-- R117, R118. -/
def execPumpRunTimerExpiry (s : State) : Host.Outcome State Fault Refusal :=
  .next (if s.pot.pumpRunTimer.isRunning then
      (s.setPot { s.pot with pumpRunTimer := .expired, pumpCauses := { s.pot.pumpCauses with run := true } }).raiseAlarm
        Alarm.pumpFault
    else s)

/-- POT's part of a new line mode: the setpoint (R103), then the wave target (R114). -/
def State.potMode (m : LineMode) (s : State) : State := (s.evaluatePot m).evalWaveOn m s.aim.waveEffect

/-- POT's part of a change of active bank: the setpoint (R103), the wave bank (R111), and the arrival of R120. Their arrivals are
posted in that order (assumption 40, DESIGN CHOICE). -/
def State.potBank (s : State) : State := (s.evaluatePot s.lmc.mode).updateWaveBank.postWave

end Sys2Proof.Machine
end

