-- ==== Sys2Proof/Machine/Thermal.lean ====
section
/-! DEFINITION. The Thermal Estimator and Wave Gate (chapter 5), and the regions of the track it reads (R7). -/

namespace Sys2Proof.Machine

/-- The regions of the track, in the order R183 codes them. -/
inductive Region | entry | flux | ph1 | ph2 | ph3 | wave | cool | outfeed
deriving DecidableEq, Repr

/-- R7: the region of a travel. -/
def Geometry.region (g : Geometry) (x : Nat) : Region :=
  if x < g.pFlux then .entry
  else if x < g.ph1 then .flux
  else if x < g.ph2 then .ph1
  else if x < g.ph3 then .ph2
  else if x < g.pWave - g.wMargin then .ph3
  else if x ≤ g.pWave + g.wMargin then .wave
  else if x ≤ g.pExit then .cool
  else .outfeed

/-- R7: the midpoint of a board with a length. (Assumption 13, DEDUCED.) -/
def BoardRecord.midpoint? (b : BoardRecord) (pos : Position) : Option Nat := b.length.map fun l => b.travel pos - l / 2

/-- R81: whether a source's samples reach a board whose midpoint lies in a region. -/
def sourceCovers : ThermalSource → Region → Bool
  | .zone .z1, .ph1 | .zone .z2, .ph2 | .zone .z3, .ph3 => true
  | .ambient, .entry | .ambient, .flux => true
  | _, _ => false

/-- R81: the boards a sample arrival reaches: with a length, PENDING, and the midpoint in a region of the source. -/
def BoardRecord.reached (b : BoardRecord) (g : Geometry) (pos : Position) (src : ThermalSource) : Bool :=
  match b.midpoint? pos with
  | some m => b.decision == .pending && sourceCovers src (g.region m)
  | none => false

/-- R81: the coupling of a source, from a bank's items. -/
def BankItems.couplingFor (i : BankItems) : ThermalSource → Nat
  | .zone z => i.coupling.get z
  | .ambient => i.couplingAmb

/-- R83 steps 1 to 4: the step of an update. -/
def updateStep (tb ts c : Nat) : Int :=
  let d : Int := (ts : Int) - (tb : Int)
  let mag : Nat := ((d * c).natAbs + 2048) / 4096
  if mag = 0 ∧ d ≠ 0 then (if d > 0 then 1 else -1) else if d < 0 then -(mag : Int) else (mag : Int)

/-- R83: the new estimate. -/
def updatedEstimate (tb ts c : Nat) : Nat := (clampInt 0 4000 ((tb : Int) + updateStep tb ts c)).toNat

/-- R83, R84: an update of a board, then its soak count and peak. -/
def BoardRecord.updated (b : BoardRecord) (ts c threshold : Nat) : BoardRecord :=
  let t := updatedEstimate b.estimate ts c
  { b with estimate := t, soak := if threshold ≤ t then satAdd 65535 b.soak 1 else b.soak, peak := max b.peak t }

def BoardRecord.markUncertain (b : BoardRecord) : BoardRecord :=
  { b with marks := { b.marks with thermalUncertain := true } }

/-- R79, R82: what a sample makes of a board it reaches; an EMPTY bank gives no coupling, and so no update. -/
def BoardRecord.thermal (b : BoardRecord) (bank : Bank) (src : ThermalSource) (value : Nat) (rep : ReportedState) :
    BoardRecord :=
  if usable rep then
    match bank.held? with
    | some i => b.updated value (i.couplingFor src) i.soakThreshold
    | none => b
  else b.markUncertain

/-- R82: a ZSk or AMB sample acts on every board it reaches. -/
def State.thermalSample (src : ThermalSource) (value : Nat) (rep : ReportedState) (s : State) : State :=
  let act (b : BoardRecord) : BoardRecord :=
    if b.reached s.trk.geometry s.trk.position src then b.thermal (s.lmc.bank b.bank) src value rep else b
  s.setTrk { s.trk with table := s.trk.table.map act }

/-- R82. -/
def execThermalSampleArrival (src : ThermalSource) (value : Nat) (rep : ReportedState) (s : State) :
    Host.Outcome State Fault Refusal :=
  .next ((s.taken (.thermalSampleArrival src value rep)).thermalSample src value rep)

/-- R80: the initial estimate and whether it is uncertain, from the AMB reading. -/
def initialEstimate (amb : ChannelRec) : Nat × Bool := if usable amb.reported then (amb.read, false) else (250, true)

/-! ### The wave gate (R87 to R93) -/

/-- R90: the wave cannot serve a board. -/
def State.waveUnavailable (s : State) : Bool :=
  !s.pot.isReady || s.aim.waveEffect != .inactive || s.pot.wave == .off || !s.lmc.mode.running

/-- R89: the first check that fails, in the rule's order. -/
def gateReason (b : BoardRecord) (i : BankItems) (unavailable : Bool) : Option DryReason :=
  if b.marks.unrequested then some .unrequested
  else if b.marks.lengthOut then some .boardSize
  else if unavailable then some .waveUnavailable
  else if b.fluxStatus ≠ .ok then some .fluxDeficient
  else if b.marks.thermalUncertain then some .thermalUnknown
  else if b.estimate < i.tMin then some .tooCold
  else if i.tMax < b.estimate then some .tooHot
  else if b.soak < i.soakMinimum then some .soakShort
  else none

/-- R89: the decision for a reason or its absence. -/
def gateDecision : Option DryReason → GateDecision
  | none => .solder
  | some _ => .dry

/-- R93: the gated arrival with the present number of PENDING boards. (Assumption 19, DEDUCED.) -/
def State.postGated (s : State) : State := s.post [.gatedArrival s.trk.pendingBoards]

/-- R87, R92, R93: a board is gated; a board is judged once, and an arrival for one that has left is discarded (R10). -/
def State.gateReached (seq : Nat) (s : State) : State :=
  match s.trk.board? seq with
  | none => s
  | some b =>
    if b.decision ≠ .pending then s
    else
      let reason := gateReason b (s.lmc.bank b.bank).items s.waveUnavailable
      let decision := gateDecision reason
      let s := s.updateBoard seq fun b => { b with gateEst := some b.estimate, decision := decision, dryReason := reason }
      let s := s.appendSchedule ⟨seq, b.bank, decision⟩
      (s.event (.boardGated seq decision reason b.estimate)).postGated

/-- R87. -/
def execGateReached (seq : Nat) (s : State) : Host.Outcome State Fault Refusal :=
  .next ((s.taken (.gateReached seq)).gateReached seq)

end Sys2Proof.Machine
end

