-- ==== Sys2Proof/Machine/Track.lean ====
section
/-! DEFINITION. The Track Unit's meanings: counting, the eyes, admission, the board table, exit matching, READY and CLEAR_TRACK
(chapter 1). -/

namespace Sys2Proof.Machine

/-! ### READY (R11, R12) -/

/-- R12: the gap condition, for the active bank's minimum gap. -/
def Trk.gapHolds (t : Trk) (minGap : Nat) : Bool :=
  t.entryEye.accepted == .clear &&
    match t.gapRef with
    | none => true
    | some g => decide (minGap ≤ t.position.minus g)

/-- R11: the seven conditions of READY, for a line mode, the ENTRY inhibit and a minimum gap. -/
def Trk.readyNow (t : Trk) (m : LineMode) (entryInhibited : Bool) (minGap : Nat) : Bool :=
  m == .production && !entryInhibited && !t.trackUnknown && decide (t.table.length < Config.tableCapacity) &&
    decide (t.table.length + t.exitLog.length < Config.readyBelow) && t.gapHolds minGap &&
    (!t.idRequired || !t.identities.isEmpty)

/-- R11: a re-evaluation drives READY to its new value. -/
def State.evalReadyOn (m : LineMode) (entryInhibited : Bool) (s : State) : State :=
  s.setTrk { s.trk with ready := s.trk.readyNow m entryInhibited s.lmc.activeBank.items.minGap }

/-- R11: the re-evaluation on the present mode and inhibit. -/
def State.evalReady (s : State) : State := s.evalReadyOn s.lmc.mode (s.aim.inhibitActive .entry)

/-! ### TRACK_MISMATCH (R21) -/

/-- A cause of TRACK_MISMATCH (R21). -/
inductive MismatchCause | entryBlocked | exitUntracked | boardLost
deriving DecidableEq, Repr

def MismatchCauses.get (c : MismatchCauses) : MismatchCause → Bool
  | .entryBlocked => c.entryBlocked | .exitUntracked => c.exitUntracked | .boardLost => c.boardLost

def MismatchCauses.set (c : MismatchCauses) (k : MismatchCause) (v : Bool) : MismatchCauses :=
  match k with
  | .entryBlocked => { c with entryBlocked := v }
  | .exitUntracked => { c with exitUntracked := v }
  | .boardLost => { c with boardLost := v }

def MismatchCauses.isEmpty (c : MismatchCauses) : Bool := !c.entryBlocked && !c.exitUntracked && !c.boardLost

/-- R21: each addition of a cause is a raise. -/
def State.addMismatch (k : MismatchCause) (s : State) : State :=
  (s.setTrk { s.trk with mismatch := s.trk.mismatch.set k true }).raiseAlarm Alarm.trackMismatch

/-- R21: the removal of a cause that is present; when the set becomes empty the condition ends. -/
def State.removeMismatch (k : MismatchCause) (s : State) : State :=
  if s.trk.mismatch.get k then
    let c := s.trk.mismatch.set k false
    let s' := s.setTrk { s.trk with mismatch := c }
    if c.isEmpty then s'.endAlarm Alarm.trackMismatch else s'
  else s

/-! ### The stall condition (R4) -/

/-- R4: the condition ends, where it is present. -/
def State.endStall (s : State) : State :=
  if s.trk.stallPresent then (s.setTrk { s.trk with stallPresent := false }).endAlarm Alarm.conveyorStall else s

def BoardRecord.markStalled (b : BoardRecord) : BoardRecord := { b with marks := { b.marks with stalled := true } }

/-- R4, R55: the onset of the stall. -/
def State.beginStall (s : State) : State :=
  ((s.setTrk { s.trk with stallPresent := true, table := s.trk.table.map BoardRecord.markStalled }).raiseAlarm
    Alarm.conveyorStall).stallSpray

/-- R4; a condition that is present does not begin again (assumption 12, DEDUCED), and an expiry of a timer that does not run cannot
occur (assumption 5, DESIGN CHOICE). -/
def execStallTimerExpiry (s : State) : Host.Outcome State Fault Refusal :=
  .next (if s.trk.stallTimer.isRunning then
      let s := s.setTrk { s.trk with stallTimer := .expired }
      if s.trk.table ≠ [] ∧ s.lmc.mode.running = true ∧ s.trk.stallPresent = false then s.beginStall else s
    else s)

/-! ### Leaving the table (R22) -/

/-- R22: the exit record of a board record. -/
def BoardRecord.exitRecord (b : BoardRecord) (o : ExitOutcome) (now : RunClock) : ExitRecord :=
  { seq := b.seq, identity := b.identity, bank := b.bank, length := b.length, fluxStatus := b.fluxStatus,
    fluxDose := b.fluxDose, countedDose := b.countedDose, gateEst := b.gateEst, soak := b.soak, decision := b.decision,
    dryReason := b.dryReason, waveResult := b.waveResult, marks := b.marks, outcome := o, stamp := now }

/-- R22: the record of a board is moved from the table to the end of the exit log. -/
def Trk.moveOut (t : Trk) (b : BoardRecord) (o : ExitOutcome) (now : RunClock) : Trk :=
  { t with table := t.table.filter (fun x => x.seq != b.seq),
           exitLog := t.exitLog ++ [b.exitRecord o now] }

/-- R4, R158: what follows where the table has become empty, the end of CONVEYOR_STALL first (assumption 40, DESIGN CHOICE). -/
def State.noteEmptyTable (s : State) : State :=
  if s.trk.table = [] then
    let s := s.endStall
    if s.lmc.mode = .drain then s.post [.tableEmptyArrival] else s
  else s

/-- R22: a board leaves the table with an outcome. FLX closes its spray first (R56), POT then removes the board from the wave
and the schedule (R112, R113), and TEG reports an ungated board's leaving (R93). The blocks' arrivals are posted in the order of the
steps here (assumption 40, DESIGN CHOICE). -/
def State.leaveTable (seq : Nat) (o : ExitOutcome) (s : State) : State :=
  let s := s.removeSprayed seq
  match s.trk.board? seq with
  | none => s
  | some b =>
    let s := (s.setTrk (s.trk.moveOut b o s.clock)).event (.boardExited seq o)
    let s := if s.trk.entryOcc = .board seq then
        (s.setTrk { s.trk with entryOcc := .ignored }).removeMismatch .entryBlocked
      else s
    let s := s.leaveWave seq
    let s := if b.decision = .pending then s.postGated else s
    s.noteEmptyTable

/-! ### Admission (R13, R14, R17, R80) -/

/-- R13: the lowest-numbered free slot. -/
def Trk.freeSlot (t : Trk) : Nat :=
  ((List.range Config.tableCapacity).find? fun n => t.table.all fun b => b.slot != n).getD Config.tableCapacity

/-- R13: the next sequence number, from 65535 to 1. -/
def nextSequence (n : Nat) : Nat := if n = 65535 then 1 else n + 1

/-- R17: a board record at its creation. -/
def newBoard (slot seq : Nat) (identity : Option Identity) (bank : BankId) (lead : Position) (unrequested : Bool)
    (est : Nat × Bool) : BoardRecord :=
  { slot := slot, seq := seq, identity := identity, bank := bank, lead := lead, length := none, phase := .entering,
    fluxStatus := .notYet, fluxDose := 0, countedDose := 0, estimate := est.1, soak := 0, peak := est.1,
    decision := .pending, dryReason := none, gateEst := none, waveResult := .notYet,
    marks := { Marks.empty with unrequested := unrequested, thermalUncertain := est.2 } }

/-- R13, R14: a record is created for the board whose leading edge has been accepted. -/
def State.createBoard (lead : Position) (requested : Bool) (s : State) : State :=
  let t := s.trk
  let identity := if requested then t.identities.head? else none
  let b := newBoard t.freeSlot t.nextSeq identity s.lmc.active lead (!requested) (initialEstimate (s.saq.channel .amb))
  (s.setTrk { t with
    table := t.table ++ [b], nextSeq := nextSequence t.nextSeq, entryOcc := .board b.seq,
    identities := if requested then t.identities.tail else t.identities,
    stallTimer := if t.table = [] then .start Config.stallMs else t.stallTimer }).event
      (.boardEntered b.seq b.slot b.bank (!requested))

/-- R13: a leading edge at the entry eye with occupant NONE. -/
def State.entryLeading (pos : Position) (s : State) : State :=
  let t := s.trk
  if t.entryOcc ≠ .none then s
  else if t.ready then s.createBoard pos true
  else if t.table.length < Config.tableCapacity ∧ t.table.length + t.exitLog.length < Config.boardsAndLog then
    s.createBoard pos false
  else
    ((s.setTrk { t with entryOcc := .untracked }).raiseAlarm Alarm.trackOverflow).event (.boardUntracked .entry)

/-- R15: whether a length lies outside the limits of a bank. -/
def lengthOut (i : BankItems) (l : Nat) : Bool := decide (l < i.minLength) || decide (i.maxLength < l)

/-- R15: the length capture of a record still ENTERING. -/
def BoardRecord.captured (b : BoardRecord) (i : BankItems) (pos : Position) : BoardRecord :=
  let l := pos.minus b.lead
  { b with length := some l, phase := .inTrack, marks := { b.marks with lengthOut := b.marks.lengthOut || lengthOut i l } }

/-- The entry eye is clear of its board: the gap reference is set and the occupant is NONE (R15). -/
def State.entryCleared (pos : Position) (s : State) : State :=
  s.setTrk { s.trk with gapRef := some pos, entryOcc := .none }

/-- R15: a trailing edge at the entry eye. -/
def State.entryTrailing (pos : Position) (s : State) : State :=
  match s.trk.entryOcc with
  | .board seq =>
    match s.trk.board? seq with
    | some b =>
      if b.phase = .entering then
        (s.updateBoard seq fun b => b.captured (s.lmc.bank b.bank).items pos).entryCleared pos
      else (s.removeMismatch .entryBlocked).entryCleared pos
    | none => s.entryCleared pos
  | .untracked => (s.endAlarm Alarm.trackOverflow).entryCleared pos
  | .ignored => s.setTrk { s.trk with entryOcc := .none }
  | .none => s

/-- R16: a record still ENTERING beyond the overrun travel, with no pending change at the entry eye. TRACK_MISMATCH is raised
before a held NOZZLE_REACHED is posted (assumption 40, DESIGN CHOICE). -/
def State.entryOverrun (s : State) : State :=
  match s.trk.entryOcc with
  | .board seq =>
    match s.trk.board? seq with
    | some b =>
      if b.phase = .entering ∧ Config.overrunTravel < b.travel s.trk.position ∧ s.trk.entryEye.count = 0 then
        let s := (s.updateBoard seq fun b =>
          { b with phase := .inTrack, marks := { b.marks with lengthOut := true } }).addMismatch .entryBlocked
        if s.trk.geometry.pNozzle ≤ b.travel s.trk.position then s.post [.nozzleReached seq none] else s
      else s
    | none => s
  | _ => s

/-! ### Matching at the exit (R19, R20, R23) -/

/-- The oldest record in phase IN_TRACK. -/
def Trk.oldestInTrack (t : Trk) : Option BoardRecord := t.table.find? fun b => b.phase == .inTrack

/-- R19: a travel lies in the exit window. -/
def Geometry.inExitWindow (g : Geometry) (x : Nat) : Bool :=
  decide (g.pExit - g.tolerance ≤ x) && decide (x ≤ g.pExit + g.tolerance)

/-- R19: an untracked board at the exit. -/
def State.exitUntrackedBoard (s : State) : State :=
  ((s.setTrk { s.trk with exitOcc := .untracked }).addMismatch .exitUntracked).event (.boardUntracked .exit)

/-- R19: a leading edge at the exit eye with occupant NONE. -/
def State.exitLeading (pos : Position) (s : State) : State :=
  if s.trk.exitOcc ≠ .none then s
  else
    match s.trk.oldestInTrack with
    | some b =>
      if s.trk.geometry.inExitWindow (b.travel pos) then
        (s.setTrk { (s.trk.update b.seq fun b => { b with phase := .atExit }) with exitOcc := .board b.seq }).removeMismatch
          .boardLost
      else s.exitUntrackedBoard
    | none => s.exitUntrackedBoard

/-- R23: a trailing edge at the exit eye. -/
def State.exitTrailing (s : State) : State :=
  match s.trk.exitOcc with
  | .board seq =>
    let s := s.leaveTable seq .normal
    s.setTrk { s.trk with exitOcc := .none }
  | .untracked =>
    let s := s.removeMismatch .exitUntracked
    s.setTrk { s.trk with exitOcc := .none }
  | .ignored => s.setTrk { s.trk with exitOcc := .none }
  | .none => s

/-- R20: a pending leading change at the exit eye that would match a board. -/
def Trk.exitMatchPending (t : Trk) (b : BoardRecord) : Bool :=
  t.exitEye.accepted == .clear && decide (0 < t.exitEye.count) && t.exitEye.candidate == .blocked &&
    t.geometry.inExitWindow (b.travel t.exitEye.first)

/-- R20: the oldest IN_TRACK record is LOST past the window, again and again at the same count. The number is a bound on
the rounds: each takes one record from the table. -/
def State.loseBoards : Nat → State → State
  | 0, s => s
  | n + 1, s =>
    match s.trk.oldestInTrack with
    | some b =>
      if s.trk.geometry.pExit + s.trk.geometry.tolerance < b.travel s.trk.position ∧ s.trk.exitMatchPending b = false then
        State.loseBoards n ((s.leaveTable b.seq .lost).addMismatch .boardLost)
      else s
    | none => s

/-- R20: the record AT_EXIT under an exit eye held blocked by something else. -/
def State.exitHeld (s : State) : State :=
  match s.trk.exitOcc with
  | .board seq =>
    match s.trk.board? seq with
    | some b =>
      if s.trk.geometry.pExit + Config.overrunTravel + s.trk.geometry.tolerance < b.travel s.trk.position then
        let s := s.leaveTable seq .lost
        (s.setTrk { s.trk with exitOcc := .untracked }).addMismatch .exitUntracked
      else s
    | none => s
  | _ => s

/-- R20: the exit overrun check. -/
def State.exitOverrun (s : State) : State := (s.loseBoards s.trk.table.length).exitHeld

/-! ### The eyes (R8, R9) -/

/-- What an eye filter accepts: a first level after reset, or an edge at its recorded position. -/
inductive EyeChange | first (l : EyeLevel) | leading (pos : Position) | trailing (pos : Position)
deriving DecidableEq, Repr

def EyeLevel.accepted : EyeLevel → EyeAccepted
  | .clear => .clear | .blocked => .blocked

/-- R8: the acceptance of a level, and what it is. -/
def acceptedChange (before : EyeAccepted) (l : EyeLevel) (pos : Position) : EyeChange :=
  match before, l with
  | .unknown, l => .first l
  | _, .blocked => .leading pos
  | _, .clear => .trailing pos

/-- R8: an eye filter samples a level at a track count. -/
def EyeFilter.sample (f : EyeFilter) (l : EyeLevel) (pos : Position) : EyeFilter × Option EyeChange :=
  if f.accepted = EyeLevel.accepted l then ({ f with count := 0 }, none)
  else if f.count = 0 ∨ f.candidate ≠ l then ({ f with candidate := l, first := pos, count := 1 }, none)
  else if f.count + 1 < 4 then ({ f with count := f.count + 1 }, none)
  else ({ f with accepted := EyeLevel.accepted l, count := 0 }, some (acceptedChange f.accepted l f.first))

/-- R9: the occupant at the first level after reset. -/
def firstOccupant : EyeLevel → Occupant
  | .clear => .none | .blocked => .ignored

/-- The entry eye samples its level and TRK acts on what it accepts. -/
def State.entryEyeSample (l : EyeLevel) (s : State) : State :=
  let x := s.trk.entryEye.sample l s.trk.position
  let s := s.setTrk { s.trk with entryEye := x.1 }
  match x.2 with
  | none => s
  | some (.first l) => s.setTrk { s.trk with entryOcc := firstOccupant l }
  | some (.leading pos) => s.entryLeading pos
  | some (.trailing pos) => s.entryTrailing pos

/-- The exit eye samples its level and TRK acts on what it accepts. -/
def State.exitEyeSample (l : EyeLevel) (s : State) : State :=
  let x := s.trk.exitEye.sample l s.trk.position
  let s := s.setTrk { s.trk with exitEye := x.1 }
  match x.2 with
  | none => s
  | some (.first l) => s.setTrk { s.trk with exitOcc := firstOccupant l }
  | some (.leading pos) => s.exitLeading pos
  | some (.trailing _) => s.exitTrailing

/-! ### Position arrivals (R10) -/

/-- R10: the trailing edge's distance behind the leading edge; the assumed extent where there is no length. -/
def BoardRecord.extent (b : BoardRecord) : Nat := b.length.getD Config.overrunTravel

/-- R10: NOZZLE_REACHED is posted when the travel reaches P_nozzle, or held while the board is ENTERING and posted at the
count at which it leaves that phase. -/
def BoardRecord.nozzleDue (b : BoardRecord) (g : Geometry) (pos : Position) (wasEntering : Bool) : Bool :=
  b.phase != .entering &&
    (b.travel pos == g.pNozzle || (wasEntering && decide (g.pNozzle < b.travel pos)))

/-- R10: the arrivals of one board at one count. -/
def BoardRecord.positionArrivals (b : BoardRecord) (g : Geometry) (pos : Position) (wasEntering : Bool) : List Instr :=
  let x := b.travel pos
  (if b.nozzleDue g pos wasEntering then [.nozzleReached b.seq b.length] else []) ++
  (match b.length with
    | some l =>
      (if g.pNozzle < x ∧ (x - g.pNozzle) % 8 = 0 ∧ x - g.pNozzle < l then [.cellBoundary b.seq ((x - g.pNozzle) / 8)]
        else []) ++
      (if x = g.pNozzle + l then [.nozzleCleared b.seq] else [])
    | none => []) ++
  (if x = g.pGate then [.gateReached b.seq] else []) ++
  (if x = g.pWave - g.wMargin then [.waveEntered b.seq] else []) ++
  (if x = g.pWave + g.wMargin + 1 + b.extent then [.waveLeft b.seq] else [])

/-- R10: the arrivals of every board at one count; `before` is the table as it stood before the eyes were sampled. -/
def State.postPositions (before : List BoardRecord) (s : State) : State :=
  s.post (s.trk.table.flatMap fun b =>
    b.positionArrivals s.trk.geometry s.trk.position (before.any fun x => x.seq == b.seq && x.phase == .entering))

/-! ### The count (R1, R2) -/

/-- R2: the position advances, and the window counter with it (R3). -/
def Trk.advance (t : Trk) : Trk :=
  { t with position := t.position + 1, windowCount := t.windowCount + 1, stallTimer := .start Config.stallMs }

/-- R2: a track count: the position, the eyes, the stall timer, the speed window, the position arrivals, the exit and entry
overrun checks, and READY. (Assumption 11, DESIGN CHOICE.) -/
def State.trackCount (entry exit : EyeLevel) (s : State) : State :=
  let s := (s.setTrk s.trk.advance).endStall
  let before := s.trk.table
  let s := ((s.entryEyeSample entry).exitEyeSample exit).postPositions before
  s.exitOverrun.entryOverrun.evalReady

/-- R1: a pulse whose index is a multiple of 512 below 512 × trim is discarded. -/
def discards (trim : Nat) (i : PulseIndex) : Bool := i.toNat % 512 == 0 && decide (i.toNat < 512 * trim)

/-- R1. -/
def execEncoderPulse (entry exit : EyeLevel) (s : State) : Host.Outcome State Fault Refusal :=
  let i := s.trk.rawIndex
  let s' := s.setTrk { s.trk with rawIndex := i + 1 }
  .next (if discards s.trk.geometry.trim i then s' else s'.trackCount entry exit)

/-- R3. -/
def execSpeedWindowExpiry (s : State) : Host.Outcome State Fault Refusal :=
  .next (s.setTrk { s.trk with
    measuredSpeed := s.trk.windowCount, windowCount := 0, speedTimer := .start Config.speedWindowMs })

/-- R11: READY, on the new state of the ENTRY inhibit. -/
def execEntryInhibitChange (active : Bool) (s : State) : Host.Outcome State Fault Refusal :=
  let s := s.taken (.entryInhibitChange active)
  .next (s.evalReadyOn s.lmc.mode active)

/-- TRK's part of a new line mode: the stall timer and condition (R4), then READY (R11). -/
def State.trkMode (m : LineMode) (s : State) : State :=
  let s := s.setTrk { s.trk with stallTimer := .start Config.stallMs }
  (if m.running then s else s.endStall).evalReadyOn m (s.aim.inhibitActive .entry)

/-! ### Requests -/

/-- R24: an identity of 1 to 20 characters, each of code 0x20 to 0x7E. -/
def identityOk (i : Identity) : Bool :=
  decide (1 ≤ i.length) && decide (i.length ≤ 20) && i.all fun c => decide (0x20 ≤ c.toNat) && decide (c.toNat ≤ 0x7E)

/-- R24: PUSH_IDENTITY. -/
def State.pushIdentity (i : Identity) (s : State) : Served :=
  if identityOk i = false then s.refuse .invalid
  else if Config.identityCapacity ≤ s.trk.identities.length then s.refuse .full
  else (s.setTrk { s.trk with identities := s.trk.identities ++ [i] }).evalReady.done

/-- R24: FLUSH_IDENTITIES. -/
def State.flushIdentities (s : State) : Served := (s.setTrk { s.trk with identities := [] }).evalReady.done

/-- R25: every record leaves the table, oldest first. The number is a bound on the rounds. -/
def State.clearBoards : Nat → State → State
  | 0, s => s
  | n + 1, s =>
    match s.trk.table with
    | [] => s
    | b :: _ => State.clearBoards n (s.leaveTable b.seq .cleared)

/-- R25: an exit eye whose occupant was a record of the table takes IGNORED; at the entry eye R22 does so. -/
def clearedOccupant : Occupant → Occupant
  | .board _ => .ignored
  | o => o

/-- R25: CLEAR_TRACK, checked in the rule's order. -/
def State.clearTrack (s : State) : Served :=
  if s.lmc.mode = .production ∨ s.lmc.mode = .changeover then s.refuse .wrongMode
  else if s.pot.onWave ≠ [] then s.refuse .busy
  else
    let s := s.clearBoards s.trk.table.length
    let s := (s.setTrk { s.trk with
      exitOcc := clearedOccupant s.trk.exitOcc, gapRef := none, trackUnknown := false }).removeMismatch .boardLost
    s.evalReady.done

end Sys2Proof.Machine
end

