-- ==== Sys2Proof/Machine/Zones.lean ====
section
/-! DEFINITION. The Zone Controller's meanings (chapter 4). -/

namespace Sys2Proof.Machine

/-- R66: the effective setpoint of a zone in a line mode, from a bank. -/
def zoneEffective (m : LineMode) (b : Bank) (z : Zone) : Nat :=
  match m with
  | .warmup | .production | .changeover | .drain | .idle => b.zoneSetpoint z
  | .setback => b.zoneSetpoint z - b.items.zoneSetback
  | .standby | .safe | .maintenance => 0

/-- The name of a zone that has not qualified (R67): SETBACK in that mode, HEATING otherwise and throughout a PREHEAT
inhibit. -/
def unqualified (m : LineMode) (preheat : Bool) : ZoneState :=
  if m = .setback ∧ preheat = false then .setback else .heating

/-- The name of a zone that has qualified (R67, R71). -/
def qualified (m : LineMode) : ZoneState := if m = .setback then .setbackReady else .ready

/-- READY or SETBACK_READY. -/
def isQualified : ZoneState → Bool
  | .ready | .setbackReady => true
  | _ => false

/-- R73: entry into FAULT cuts the heater at once. -/
def ZoneRec.toFault (r : ZoneRec) : ZoneRec :=
  { r with state := .fault, integral := 0, computed := 0, applied := 0, readyCount := 0, outCount := 0, output := false }

/-- R72: a zone whose effective setpoint is 0. -/
def ZoneRec.toOff (r : ZoneRec) : ZoneRec :=
  { r with state := .off, integral := 0, computed := 0, applied := 0, readyCount := 0, outCount := 0, armed := false,
           output := false }

/-- R75: a zone held by the PREHEAT inhibit: HEATING with no duty, the integral frozen. -/
def ZoneRec.inhibited (r : ZoneRec) : ZoneRec :=
  { r with state := .heating, computed := 0, applied := 0, readyCount := 0, outCount := 0, output := false }

/-- R73: a zone leaves FAULT. -/
def ZoneRec.leaveFault (r : ZoneRec) (m : LineMode) (preheat : Bool) : ZoneRec :=
  { r with state := if r.setpoint = 0 then .off else unqualified m preheat, integral := 0, readyCount := 0, outCount := 0 }

/-- R69: the heater law, run for a zone. -/
def ZoneRec.law (r : ZoneRec) (kp ki : Nat) : ZoneRec :=
  let x := heaterLaw kp ki r.setpoint r.temp r.integral
  { r with computed := x.duty, integral := x.integral }

/-- R71: the counts of readiness. -/
def ZoneRec.qualify (r : ZoneRec) (m : LineMode) : ZoneRec :=
  let inBand := absDiff r.temp r.setpoint ≤ r.band
  match r.state with
  | .heating | .setback =>
    if inBand then
      if r.readyCount + 1 ≥ 20 then { r with state := qualified m, readyCount := 20, outCount := 0 }
      else { r with readyCount := r.readyCount + 1 }
    else { r with readyCount := 0 }
  | .ready | .setbackReady =>
    if inBand then { r with outCount := 0 }
    else if r.outCount + 1 ≥ 4 then { r with state := unqualified m false, readyCount := 0, outCount := 0 }
    else { r with outCount := r.outCount + 1 }
  | .off | .fault => r

/-- R68, steps 4 to 8: a zone whose sample is usable and whose overtemperature condition is absent. -/
def ZoneRec.work (r : ZoneRec) (kp ki : Nat) (m : LineMode) (preheat : Bool) : ZoneRec :=
  let r := if r.state = .fault then r.leaveFault m preheat else r
  if r.setpoint = 0 then { r with state := .off }
  else if preheat then r.inhibited
  else (r.law kp ki).qualify m

/-- R68: what a ZSk sample makes of a zone record, with the judgement it made, if it made one. -/
def ZoneRec.sample (r : ZoneRec) (kp ki margin : Nat) (m : LineMode) (preheat : Bool) (value : Nat) (rep : ReportedState) :
    ZoneRec × Option Judged :=
  let r := { r with temp := value, tempState := rep }
  if usable rep then
    let j := judgeOvertemp Config.zoneAbsoluteLimit r.setpoint margin value r.armed r.overtemp
    let r := { r with armed := j.armed, overtemp := j.holds }
    (if j.holds then r.toFault else r.work kp ki m preheat, some j)
  else (r.toFault, none)

/-- R72: an evaluation of the effective setpoint and the band. -/
def ZoneRec.evaluate (r : ZoneRec) (sp band : Nat) (m : LineMode) (preheat : Bool) : ZoneRec :=
  let spChanged := r.setpoint ≠ sp
  let bandChanged := r.band ≠ band
  let wasOff := r.state = .off
  let r := { r with setpoint := sp, band := band }
  if r.state = .fault then (if spChanged then { r with armed := false } else r)
  else if sp = 0 then r.toOff
  else if wasOff then
    { r with state := unqualified m preheat, integral := 0, readyCount := 0, outCount := 0, armed := false }
  else if spChanged ∨ bandChanged then
    { r with state := unqualified m preheat, readyCount := 0, outCount := 0, armed := false }
  else if isQualified r.state then { r with state := qualified m }
  else { r with state := unqualified m preheat }

/-- R75: the PREHEAT inhibit becomes active or inactive. -/
def ZoneRec.preheatChange (r : ZoneRec) (active : Bool) (m : LineMode) : ZoneRec :=
  if active then (if r.state = .off ∨ r.state = .fault then r else r.inhibited)
  else if r.state = .heating then { r with state := unqualified m false }
  else r

/-- R76: a change into or out of READY or SETBACK_READY is handed to LMC. -/
def zoneReadiness (z : Zone) (before after : ZoneState) : List Instr :=
  if before ≠ after ∧ (isQualified before ∨ isQualified after) then [.readinessArrival (.zone z after)] else []

/-- A zone record takes a new value, and its readiness is handed on. -/
def State.setZone (z : Zone) (r : ZoneRec) (s : State) : State :=
  (s.setZnc { s.znc with zones := s.znc.zones.set z r }).post (zoneReadiness z (s.znc.zones.get z).state r.state)

/-- The same for every zone. The zones touch different state and the manual gives them no order; they go as zone 1, 2, 3
(assumption 40, DESIGN CHOICE). -/
def State.forZones (f : Zone → ZoneRec → ZoneRec) (s : State) : State :=
  let g (z : Zone) (s : State) := s.setZone z (f z (s.znc.zones.get z))
  g .z3 (g .z2 (g .z1 s))

/-- R68: a ZSk sample, under the state of the PREHEAT inhibit that ZNC took last (R75, assumption 33, DEDUCED). The readiness
arrival (R76) is posted before the raise or the end of ZONE_OVERTEMP, although R74 names the raise before the entry into FAULT;
the rules give the two arrivals no order (assumption 40, DESIGN CHOICE). -/
def State.zoneSample (z : Zone) (value : Nat) (rep : ReportedState) (s : State) : State :=
  let x := (s.znc.zones.get z).sample (s.znc.kp.get z) (s.znc.ki.get z) s.znc.margin s.lmc.mode
    s.znc.preheatInhibit value rep
  let s := s.setZone z x.1
  match x.2 with
  | some j => s.post (j.arrivals (Alarm.zoneOvertemp z))
  | none => s

/-- R66, R72: ZNC evaluates every zone in a line mode, from the bank that is active. -/
def State.evaluateZones (m : LineMode) (s : State) : State :=
  s.forZones fun z r =>
    r.evaluate (zoneEffective m s.lmc.activeBank z) (s.lmc.activeBank.zoneBand z) m s.znc.preheatInhibit

/-- R68. -/
def execZoneSampleArrival (z : Zone) (value : Nat) (rep : ReportedState) (s : State) : Host.Outcome State Fault Refusal :=
  .next ((s.taken (.zoneSampleArrival z value rep)).zoneSample z value rep)

/-- R75: ZNC takes a new state of the PREHEAT inhibit, and every zone acts on it. -/
def State.preheatChange (active : Bool) (s : State) : State :=
  (s.setZnc { s.znc with preheatInhibit := active }).forZones fun _ r => r.preheatChange active s.lmc.mode

/-- R75. -/
def execPreheatInhibitChange (active : Bool) (s : State) : Host.Outcome State Fault Refusal :=
  .next ((s.taken (.preheatInhibitChange active)).preheatChange active)

/-- R70: a window starts with the computed duty; a duty above 0 turns the output on. -/
def ZoneRec.windowStart (r : ZoneRec) : ZoneRec :=
  { r with applied := r.computed, output := decide (0 < onTimeMs r.computed) }

/-- R70. -/
def execZoneHeaterWindow (s : State) : Host.Outcome State Fault Refusal :=
  .next (s.setZnc { s.znc with zones := s.znc.zones.map ZoneRec.windowStart, windowTimer := .start Config.heaterWindowMs })

/-- R70: the on time has run; a duty of 255 has no off time in its window. -/
def ZoneRec.onEnd (r : ZoneRec) : ZoneRec :=
  if onTimeMs r.applied < Config.heaterWindowMs then { r with output := false } else r

/-- R70. (Assumption 25, DEDUCED.) -/
def execZoneHeaterOnEnd (z : Zone) (s : State) : Host.Outcome State Fault Refusal :=
  .next (s.setZnc { s.znc with zones := s.znc.zones.set z (s.znc.zones.get z).onEnd })

end Sys2Proof.Machine
end

