-- ==== Sys2Proof/Machine/Modes.lean ====
section
/-! DEFINITION. The Line Mode Controller's meanings: line modes, readiness, SAFE, the changeover and link supervision
(chapter 9). -/

namespace Sys2Proof.Machine

/-! ### Changing the mode (R155) -/

/-- R155: the arrivals that hand a new mode to the blocks. R155 gives the five no order (assumption 40, DESIGN CHOICE). -/
def modeArrivals (m : LineMode) : List Instr :=
  [.lineModeArrival .znc m, .lineModeArrival .pot m, .lineModeArrival .flx m, .lineModeArrival .trk m,
   .lineModeArrival .exm m]

/-- R159: the idle timer as it starts; a timeout of 0 leaves it stopped. -/
def Lmc.idleStart (l : Lmc) : Timer := if l.idleTimeout = 0 then .stopped else .start (l.idleTimeout * Config.minuteMs)

/-- R155, R159: the mode record in a new line mode and phase. Entering IDLE starts the idle timer, and a mode other than IDLE
leaves it stopped with nothing pending. -/
def Lmc.inMode (l : Lmc) (m : LineMode) (ph : ChangeoverPhase) : Lmc :=
  { l with mode := m, phase := ph, idleTimer := if m = .idle then l.idleStart else .stopped, setbackPending := false }

/-- R155: a change of the line mode. Leaving MAINTENANCE ends all forces first (R43), so the RELEASE transitions go before the line
mode arrivals. -/
def State.changeMode (m : LineMode) (ph : ChangeoverPhase) (cause : ModeCause) (s : State) : State :=
  let s := if s.lmc.mode = .maintenance then s.endForces else s
  ((s.setLmc (s.lmc.inMode m ph)).event (.modeChanged s.lmc.mode m ph cause)).post (modeArrivals m)

/-! ### Readiness (R157, R169) -/

/-- R157: all three zones READY, the pot READY and the wave ON. -/
def View.ready (v : View) : Bool := v.zones.z1 && v.zones.z2 && v.zones.z3 && v.pot && v.wave == .on

/-- R157, R169: the test of the readiness view, in WARMUP and in RETARGET. After a change of active bank it waits until ZNC and
POT have acted on the change and the arrivals that this caused have updated the view (assumption 10, DEDUCED). -/
def State.testReadiness (s : State) : State :=
  match s.lmc.mode, s.lmc.phase with
  | .warmup, _ =>
    if s.lmc.view.ready ∧ s.lmc.awaited = [] then s.changeMode .production .none .readiness else s
  | .changeover, .retarget =>
    if s.lmc.view.ready ∧ s.lmc.view.waveBankActive ∧ s.lmc.awaited = [] then s.changeMode .production .none .readiness
    else s
  | _, _ => s

/-- R156, R157: entry into WARMUP, with the test at the entry. -/
def State.enterWarmup (cause : ModeCause) (s : State) : State := (s.changeMode .warmup .none cause).testReadiness

/-- R154: the readiness view after a readiness, pot readiness or wave arrival. -/
def View.noted (v : View) : Readiness → View
  | .zone z st => { v with zones := v.zones.set z (st == .ready) }
  | .pot st => { v with pot := st == .ready }
  | .wave w eq => { v with wave := w, waveBankActive := eq }

/-! ### Swapping the banks (R167 to R169) -/

/-- R167: the arrivals that hand on a change of active bank. R167 gives the four no order (assumption 40, DESIGN CHOICE). -/
def bankArrivals (b : BankId) : List Instr :=
  [.activeBankArrival .znc b, .activeBankArrival .pot b, .activeBankArrival .flx b, .activeBankArrival .trk b]

/-- R167: the designations swap. The next test of the readiness view waits for ZNC and POT to have acted on it (R169). -/
def State.swapBanks (detail : SwapDetail) (s : State) : State :=
  let b := s.lmc.active.other
  ((s.setLmc { s.lmc with
    active := b, awaited := s.lmc.awaited ++ [.activeBankArrival .znc b, .activeBankArrival .pot b] }).event
      (.bankSwapped b detail)).post (bankArrivals b)

/-- R169: the entry into RETARGET. MODE_CHANGED for the phase comes before BANK_SWAPPED. -/
def State.enterRetarget (s : State) : State :=
  ((s.setLmc { s.lmc with phase := .retarget }).event (.modeChanged .changeover .changeover .retarget .allGated)).swapBanks
    .changeover

/-- R168: a changeover starts. -/
def State.startChangeover (s : State) : State :=
  let s := s.changeMode .changeover .drainOld (.request 0x0A)
  if s.trk.pendingBoards = 0 then s.enterRetarget else s

/-! ### Arrivals and expiries -/

/-- R155: a block takes a new line mode. -/
def State.takeMode (b : ModeBlock) (m : LineMode) (s : State) : State :=
  match b with
  | .znc => s.evaluateZones m
  | .pot => s.potMode m
  | .flx => s.flxMode m
  | .trk => s.trkMode m
  | .exm => s.exmMode m

/-- A readiness, pot readiness or wave arrival, which updates the view. -/
def updatesView : Instr → Bool
  | .readinessArrival _ => true
  | _ => false

/-- R169: a block has acted on a change of active bank and has posted what follows the first `n` of the arrivals that wait. The
test of the readiness view waits for the readiness arrivals among these from now on; of equal arrivals the oldest is taken first,
so it waits for them all. (Assumption 10, DEDUCED.) -/
def Lmc.awaitCaused (l : Lmc) (posted : List Instr) (n : Nat) : Lmc :=
  let caused := (posted.drop n).filter updatesView
  { l with awaited := l.awaited.filter (fun a => a ∉ caused) ++ posted.filter (fun a => a ∈ caused) }

/-- R169: the test of the readiness view waits for a block to take a change of active bank. -/
def Lmc.awaits (l : Lmc) (b : BankBlock) : Bool :=
  decide (.activeBankArrival b .b0 ∈ l.awaited) || decide (.activeBankArrival b .b1 ∈ l.awaited)

/-- R155, R169: ZNC or POT has taken a new line mode. Where a change of active bank still waits for it, it has evaluated its
setpoints on the new bank here already (R66, R99), so the test waits for what it posted. (Assumption 10, DEDUCED.) -/
def State.modeTaken (b : BankBlock) (n : Nat) (s : State) : State :=
  if s.lmc.awaits b then s.setLmc (s.lmc.awaitCaused s.posted n) else s

/-- R155, R169: a block takes a new line mode; only ZNC and POT evaluate setpoints that LMC's test waits for. -/
def State.takeModeAs (b : ModeBlock) (m : LineMode) (s : State) : State :=
  match b with
  | .znc => (s.takeMode .znc m).modeTaken .znc s.posted.length
  | .pot => (s.takeMode .pot m).modeTaken .pot s.posted.length
  | .flx | .trk | .exm => s.takeMode b m

/-- R155, R169. -/
def execLineModeArrival (b : ModeBlock) (m : LineMode) (s : State) : Host.Outcome State Fault Refusal :=
  .next ((s.taken (.lineModeArrival b m)).takeModeAs b m)

/-- R167: a block takes a change of active bank (R66, R103 and R111, R61, R12). -/
def State.takeBank (b : BankBlock) (s : State) : State :=
  match b with
  | .znc => s.evaluateZones s.lmc.mode
  | .pot => s.potBank
  | .flx => s.evalSupplyEmpty
  | .trk => s.evalReady

/-- R169: ZNC or POT has taken a change of active bank: the test waits for it no more, but for what it has caused. -/
def State.bankActed (c : Instr) (n : Nat) (s : State) : State :=
  s.setLmc (Lmc.awaitCaused { s.lmc with awaited := s.lmc.awaited.erase c } s.posted n)

/-- R167, R169: ZNC or POT has taken a change of active bank. Where it is one that the test of the readiness view waits for,
the test waits for what it caused, and is made at once where there is nothing left to wait for. -/
def State.bankTaken (c : Instr) (n : Nat) (s : State) : State :=
  if c ∈ s.lmc.awaited then (s.bankActed c n).testReadiness else s

/-- R167, R169: a block takes a change of active bank; only ZNC and POT have LMC's test wait for them. -/
def State.takeBankAs (b : BankBlock) (c : Instr) (s : State) : State :=
  match b with
  | .znc | .pot => (s.takeBank b).bankTaken c s.posted.length
  | .flx | .trk => s.takeBank b

/-- R167, R169. -/
def execActiveBankArrival (b : BankBlock) (bank : BankId) (s : State) : Host.Outcome State Fault Refusal :=
  .next ((s.taken (.activeBankArrival b bank)).takeBankAs b (.activeBankArrival b bank))

/-- R154, R157, R169: the view is updated, and tested. -/
def execReadinessArrival (r : Readiness) (s : State) : Host.Outcome State Fault Refusal :=
  let s := s.taken (.readinessArrival r)
  .next (s.setLmc { s.lmc with
    view := s.lmc.view.noted r, awaited := s.lmc.awaited.erase (.readinessArrival r) }).testReadiness

/-- R159: the entry into SETBACK, or the timer's restart where an alarm is unacknowledged. -/
def State.setbackOr (cause : ModeCause) (s : State) : State :=
  if s.aim.unackTotal ≠ 0 then s.setLmc { s.lmc with setbackPending := false, idleTimer := s.lmc.idleStart }
  else s.changeMode .setback .none cause

/-- R154, R159: a feeder arrival updates the view and, where it leaves FEEDING, ends a pending setback entry, which only IDLE
has. (Assumption 27, DEDUCED.) -/
def execFeederArrival (st : FeederState) (s : State) : Host.Outcome State Fault Refusal :=
  let s := s.taken (.feederArrival st)
  let s := s.setLmc { s.lmc with view := { s.lmc.view with feeding := st == .feeding } }
  .next (if s.lmc.mode = .idle ∧ s.lmc.setbackPending = true ∧ st ≠ .feeding then s.setbackOr .feederStopped
    else s.testReadiness)

/-- R168. -/
def execGatedArrival (n : Nat) (s : State) : Host.Outcome State Fault Refusal :=
  let s := s.taken (.gatedArrival n)
  .next (if s.lmc.mode = .changeover ∧ s.lmc.phase = .drainOld ∧ n = 0 then s.enterRetarget else s)

/-- R158. -/
def execTableEmptyArrival (s : State) : Host.Outcome State Fault Refusal :=
  let s := s.taken .tableEmptyArrival
  .next (if s.lmc.mode = .drain then s.changeMode .idle .none .tableEmpty else s)

/-- R161, R163: SAFE is demanded, with the cause an entry carries. -/
def State.demandSafe (cause : ModeCause) (s : State) : State :=
  match s.lmc.mode with
  | .safe => s
  | .maintenance => s.setLmc { s.lmc with safeHeld := true }
  | .standby | .warmup | .production | .changeover | .drain | .idle | .setback => s.changeMode .safe .none cause

/-- R161. -/
def execSafeDemand (i : AlarmId) (s : State) : Host.Outcome State Fault Refusal :=
  .next ((s.taken (.safeDemand i)).demandSafe (.safeDemand i))

/-- R159: the idle timer expires. -/
def State.idleExpired (s : State) : State :=
  if s.aim.unackTotal ≠ 0 then s.setLmc { s.lmc with idleTimer := s.lmc.idleStart }
  else if s.lmc.view.feeding then s.setLmc { s.lmc with setbackPending := true, idleTimer := .stopped }
  else s.changeMode .setback .none .idleTimeout

/-- R159; the idle timer runs in IDLE alone. -/
def execIdleTimerExpiry (s : State) : Host.Outcome State Fault Refusal :=
  .next (if s.lmc.mode = .idle ∧ s.lmc.idleTimer.isRunning = true then s.idleExpired else s)

/-- R160. -/
def execUpstreamAvailTransition (t : Transition) (s : State) : Host.Outcome State Fault Refusal :=
  let s := s.taken (.upstreamAvailTransition t)
  .next (if s.lmc.mode = .setback ∧ t.level = .closed ∧ s.lmc.wakeEnabled = true then s.enterWarmup .wake else s)

/-! ### Link supervision (R171) -/

/-- R171: the window timer restarts, and the condition ends if it holds. -/
def State.superviseFrame (s : State) : State :=
  let v := s.lmc.supervision
  let s' := s.setLmc { s.lmc with supervision := { v with timer := .start v.window, expired := false } }
  if v.expired then s'.endAlarm Alarm.supervisionExpired else s'

/-- R171. -/
def execFrameArrival (s : State) : Host.Outcome State Fault Refusal :=
  let s := s.taken .frameArrival
  .next (if s.lmc.supervision.running then s.superviseFrame else s)

/-- R171: the window has passed in silence. -/
def State.superviseExpiry (s : State) : State :=
  (s.setLmc { s.lmc with supervision := { s.lmc.supervision with timer := .stopped, expired := true } }).raiseAlarm
    Alarm.supervisionExpired

/-- R171; an expiry of a timer that does not run cannot occur (assumption 5, DESIGN CHOICE). -/
def execSupervisionWindowExpiry (s : State) : Host.Outcome State Fault Refusal :=
  .next (if s.lmc.supervision.timer.isRunning then s.superviseExpiry else s)

/-- R171: SUPERVISE. -/
def State.supervise (window : Nat) (s : State) : Served :=
  if window < 100 ∨ 5000 < window then s.refuse .invalid
  else
    (s.setLmc { s.lmc with
      supervision := { s.lmc.supervision with running := true, window := window, timer := .start window } }).done

/-! ### Mode requests (R156, R161 to R163) -/

/-- R156: WARMUP and START, for the modes that take them and the kind byte. -/
def State.warmupRequest (taken : LineMode → Bool) (kind : Byte) (s : State) : Served :=
  if taken s.lmc.mode = false then s.refuse .wrongMode
  else if s.lmc.activeBank.isValid = false then s.refuse .invalid
  else if s.trk.trackUnknown then s.refuse .busy
  else (s.enterWarmup (.request kind)).done

/-- R156: the modes that take WARMUP. -/
def takesWarmup : LineMode → Bool
  | .standby | .idle | .setback => true
  | _ => false

/-- R156: the modes that take START. -/
def takesStart : LineMode → Bool
  | .idle | .setback => true
  | _ => false

/-- R156: STOP; with an empty table DRAIN is passed through at once. -/
def State.stopRequest (s : State) : Served :=
  match s.lmc.mode with
  | .production =>
    let s := s.changeMode .drain .none (.request 0x0E)
    (if s.trk.table = [] then s.changeMode .idle .none .tableEmpty else s).done
  | .changeover => s.refuse .busy
  | .standby | .warmup | .drain | .idle | .setback | .safe | .maintenance => s.refuse .wrongMode

/-- R156: the modes that take STOP_HEAT. -/
def takesStopHeat : LineMode → Bool
  | .idle | .setback | .warmup => true
  | _ => false

/-- R156: STOP_HEAT. -/
def State.stopHeat (s : State) : Served :=
  if takesStopHeat s.lmc.mode then (s.changeMode .standby .none (.request 0x0F)).done else s.refuse .wrongMode

/-- R163: ENTER_MAINTENANCE. -/
def State.enterMaintenance (s : State) : Served :=
  if s.lmc.mode = .standby then (s.changeMode .maintenance .none (.request 0x10)).done else s.refuse .wrongMode

/-- R163: LEAVE_MAINTENANCE. -/
def State.leaveMaintenance (s : State) : Served :=
  if s.lmc.mode = .maintenance then
    let s' := s.changeMode (if s.lmc.safeHeld then .safe else .standby) .none (.request 0x11)
    (s'.setLmc { s'.lmc with safeHeld := false }).done
  else s.refuse .wrongMode

/-- R161, R163: FORCE_SAFE is answered OK in every mode. -/
def State.forceSafe (s : State) : Served := (s.demandSafe (.request 0x20)).done

/-- R162: RELEASE_SAFE. -/
def State.releaseSafe (s : State) : Served :=
  if s.lmc.mode ≠ .safe then s.refuse .wrongMode
  else if s.aim.records[Alarm.estopOpen].state ≠ .idle ∨ s.aim.records[Alarm.supervisionExpired].state ≠ .idle then
    s.refuse .busy
  else (s.changeMode .standby .none (.request 0x21)).done

/-! ### Bank requests that carry no item (R166, R167, R170) -/

/-- R167: SWAP_BANK. -/
def State.swapBank (s : State) : Served :=
  match s.lmc.mode with
  | .drain | .safe | .maintenance => s.refuse .wrongMode
  | .changeover => s.refuse .busy
  | .production => if (s.lmc.bank s.lmc.active.other).isValid then s.startChangeover.done else s.refuse .invalid
  | .standby | .idle | .setback | .warmup =>
    if (s.lmc.bank s.lmc.active.other).isValid then (s.swapBanks .immediate).done else s.refuse .invalid

/-- R170: CANCEL_SWAP. -/
def State.cancelSwap (s : State) : Served :=
  if s.lmc.mode ≠ .changeover then s.refuse .wrongMode
  else if s.lmc.phase = .drainOld then (s.changeMode .production .none (.request 0x0B)).done
  else s.refuse .tooLate

/-- R166: the first item that fails the validation, by its name (R180). -/
def BankItems.failing? (i : BankItems) (pumpSafe : Nat) : Option (List Byte) :=
  if i.maxLength < i.minLength then some [0x00, 0xA4, 6, 1]
  else if (i.potSetpoint : Int) - i.potBand < pumpSafe then some [0x00, 0xA4, 4, 0]
  else if i.hLo ≤ i.hDip then some [0x00, 0xA4, 17, 1]
  else if i.waveSpeed ≤ i.dipSpeed then some [0x00, 0xA4, 16, 1]
  else none

/-- A bank takes new contents. -/
def State.setBank (b : BankId) (x : Bank) (s : State) : State :=
  s.setLmc { s.lmc with banks := s.lmc.banks.setBank b x }

/-- R166: VALIDATE_BANK. -/
def State.validateBank (s : State) : Served :=
  let b := s.lmc.active.other
  match s.lmc.bank b with
  | .empty => s.refuse .invalid
  | .valid _ => s.done
  | .unchecked i =>
    match i.failing? s.pot.items.pumpSafe with
    | some name => ⟨.invalid, name, s⟩
    | none => (s.setBank b (.valid i)).done

end Sys2Proof.Machine
end

