-- ==== Sys2Proof/Machine/Encode.lean ====
section
/-! DEFINITION. What a reply carries: the encodings of R177, the status groups (R182), the board, exit, event and alarm records
(R183, R184, R185, R152), the retained record (R192), the frame check (R174) and the reply frames (R176). -/

namespace Sys2Proof.Machine

/-! ### Encodings (R177) -/

/-- R177: a number in a width of bytes, high byte first. -/
def bytesOf : Nat → Nat → List Byte
  | 0, _ => []
  | w + 1, n => BitVec.ofNat 8 (n / 256 ^ w) :: bytesOf w n

/-- R177: an optional number; absent is every byte 0xFF. -/
def optionalBytes (w : Nat) : Option Nat → List Byte
  | some n => bytesOf w n
  | none => List.replicate w 0xFF

/-- R177: an optional sequence number; absent is 0. -/
def optionalSeqBytes (q : Option Nat) : List Byte := bytesOf 2 (q.getD 0)

/-- R177: a stamp. -/
def stampBytes (t : RunClock) : List Byte := bytesOf 4 t.toNat

/-- R177: an optional stamp. -/
def optionalStampBytes : Option RunClock → List Byte
  | some t => 1 :: stampBytes t
  | none => 0 :: bytesOf 4 0

/-- R177: a flag. -/
def flagByte (b : Bool) : Byte := if b then 1 else 0

/-- R177: a set, member n in bit n. -/
def setByte (ms : List Bool) : Byte := BitVec.ofNat 8 ((ms.map fun b => if b then 1 else 0).foldr (fun b n => b + 2 * n) 0)

/-- R177: an identity. -/
def identityBytes : Option Identity → List Byte
  | some cs => BitVec.ofNat 8 cs.length :: cs
  | none => [0]

/-- R177: an optional enumeration; absent is 0xFF. -/
def optionalCode : Option Byte → Byte
  | some b => b
  | none => 0xFF

/-! ### Codes of the enumerations, by position in the list of values (R177) -/

def BankId.code (b : BankId) : Byte := BitVec.ofNat 8 b.toNat

def Fan.code : Fan → Byte
  | .a => 0 | .b => 1

def Tank.code : Tank → Byte
  | .t0 => 0 | .t1 => 1

def ReportedState.code : ReportedState → Byte
  | .initial => 0 | .good => 1 | .suspect => 2 | .faulted => 3 | .forced => 4

def ContactLevel.code : ContactLevel → Byte
  | .unknown => 0 | .opened => 1 | .closed => 2

def LineMode.code : LineMode → Byte
  | .standby => 0 | .warmup => 1 | .production => 2 | .changeover => 3 | .drain => 4 | .idle => 5 | .setback => 6
  | .safe => 7 | .maintenance => 8

def ChangeoverPhase.code : ChangeoverPhase → Byte
  | .none => 0 | .drainOld => 1 | .retarget => 2

def Bank.validityCode : Bank → Byte
  | .empty => 0 | .unchecked _ => 1 | .valid _ => 2

def ZoneState.code : ZoneState → Byte
  | .off => 0 | .heating => 1 | .ready => 2 | .setback => 3 | .setbackReady => 4 | .fault => 5

def PotState.code : PotState → Byte
  | .off => 0 | .cold => 1 | .heating => 2 | .ready => 3 | .setback => 4 | .hold => 5 | .fault => 6

def FeederState.code : FeederState → Byte
  | .off => 0 | .feeding => 1 | .locked => 2

def WaveState.code : WaveState → Byte
  | .off => 0 | .rising => 1 | .on => 2 | .dipping => 3 | .dipped => 4

def WaveTarget.code : WaveTarget → Byte
  | .off => 0 | .wave => 1 | .dip => 2

def LevelValidity.code : LevelValidity → Byte
  | .valid => 0 | .unknown => 1

def DuctState.code : DuctState → Byte
  | .normal => 0 | .changeover => 1 | .lost => 2

def CellOutcome.code : CellOutcome → Byte
  | .off => 0 | .sprayed => 1 | .inhibited => 2 | .held => 3 | .empty => 4

def Valve.code : Valve → Byte
  | .opened => 0 | .closed => 1

def WaveEffect.code : WaveEffect → Byte
  | .inactive => 0 | .active => 1 | .pending => 2

def Phase.code : Phase → Byte
  | .entering => 0 | .inTrack => 1 | .atExit => 2

def Region.code : Region → Byte
  | .entry => 0 | .flux => 1 | .ph1 => 2 | .ph2 => 3 | .ph3 => 4 | .wave => 5 | .cool => 6 | .outfeed => 7

def FluxStatus.code : FluxStatus → Byte
  | .notYet => 0 | .spraying => 1 | .ok => 2 | .deficient => 3

def GateDecision.code : GateDecision → Byte
  | .pending => 0 | .solder => 1 | .dry => 2

def DryReason.code : DryReason → Byte
  | .unrequested => 0 | .boardSize => 1 | .waveUnavailable => 2 | .fluxDeficient => 3 | .thermalUnknown => 4
  | .tooCold => 5 | .tooHot => 6 | .soakShort => 7

def WaveResult.code : WaveResult → Byte
  | .notYet => 0 | .waved => 1 | .partialWave => 2 | .interrupted => 3 | .dryClean => 4 | .dryContacted => 5

def ExitOutcome.code : ExitOutcome → Byte
  | .normal => 0 | .lost => 1 | .cleared => 2

def RecordState.code : RecordState → Byte
  | .idle => 0 | .activeUnack => 1 | .activeAck => 2 | .returnedUnack => 3

def AlarmClass.code : AlarmClass → Byte
  | .safety => 0 | .process => 1

def Severity.code : Severity → Byte
  | .warn => 0 | .alarm => 1

def RecordCause.code : RecordCause → Byte
  | .raise => 0 | .ended => 1 | .ackMachine => 2 | .ackSafety => 3

def Inhibit.code : Inhibit → Byte
  | .spray => 0 | .preheat => 1 | .wave => 2 | .feed => 3 | .entry => 4

def Eye.code : Eye → Byte
  | .entry => 0 | .exit => 1

def SwitchCause.code : SwitchCause → Byte
  | .exhausted => 0 | .selected => 1

def SwapDetail.code : SwapDetail → Byte
  | .immediate => 0 | .changeover => 1

def FanDetail.code : FanDetail → Byte
  | .recovered => 0 | .recoveredAfterLoss => 1 | .selected => 2

/-- R185: the causes of MODE_CHANGED. -/
def ModeCause.code : ModeCause → Byte
  | .request kind => kind
  | .readiness => 0x80 | .tableEmpty => 0x81 | .idleTimeout => 0x82 | .wake => 0x83 | .feederStopped => 0x84
  | .safeDemand _ => 0x85 | .allGated => 0x86

/-- R185: the alarm index of a SAFE demand; 0xFF for every other cause. -/
def ModeCause.alarmByte : ModeCause → Byte
  | .safeDemand i => BitVec.ofNat 8 i.val
  | .request _ | .readiness | .tableEmpty | .idleTimeout | .wake | .feederStopped | .allGated => 0xFF

/-- R176: the status codes. -/
def Status.code : Status → Byte
  | .ok => 0 | .unknownKind => 1 | .notPermitted => 2 | .wrongMode => 3 | .busy => 4 | .invalid => 5 | .empty => 6
  | .full => 7 | .bankActive => 8 | .bankInUse => 9 | .tooLate => 10 | .nothingToAck => 11 | .notFound => 12
  | .geometryInvalid => 13 | .frameBad => 14

/-! ### Board and exit records (R183, R184) -/

def Marks.members (m : Marks) : List Bool :=
  [m.unrequested, m.lengthOut, m.tankEmpty, m.sprayInhibited, m.lowPressure, m.thermalUncertain, m.stalled]

/-- R183: a board record, with the region of its leading edge. -/
def BoardRecord.encode (b : BoardRecord) (g : Geometry) (pos : Position) : List Byte :=
  bytesOf 1 b.slot ++ bytesOf 2 b.seq ++ identityBytes b.identity ++ [BankId.code b.bank] ++ bytesOf 3 b.lead.toNat ++
    optionalBytes 2 b.length ++ [b.phase.code, (g.region (b.travel pos)).code, b.fluxStatus.code] ++
    bytesOf 2 b.fluxDose ++ bytesOf 2 b.countedDose ++ bytesOf 2 b.estimate ++ bytesOf 2 b.soak ++ bytesOf 2 b.peak ++
    [b.decision.code, optionalCode (b.dryReason.map DryReason.code)] ++ optionalBytes 2 b.gateEst ++
    [b.waveResult.code, setByte b.marks.members]

/-- R184: an exit record. -/
def ExitRecord.encode (r : ExitRecord) : List Byte :=
  bytesOf 2 r.seq ++ identityBytes r.identity ++ [BankId.code r.bank] ++ optionalBytes 2 r.length ++ [r.fluxStatus.code] ++
    bytesOf 2 r.fluxDose ++ bytesOf 2 r.countedDose ++ optionalBytes 2 r.gateEst ++ bytesOf 2 r.soak ++
    [r.decision.code, optionalCode (r.dryReason.map DryReason.code), r.waveResult.code, setByte r.marks.members,
      r.outcome.code] ++ stampBytes r.stamp

/-! ### Events (R185) -/

/-- R185: the code of an event's kind. -/
def Event.kindCode : Event → Byte
  | .boardEntered .. => 0 | .boardUntracked .. => 1 | .boardGated .. => 2 | .boardExited .. => 3 | .fluxMark .. => 4
  | .tankSwitched .. => 5 | .alarmChanged .. => 6 | .inhibitChanged .. => 7 | .modeChanged .. => 8 | .bankSwapped .. => 9
  | .fanChangeover .. => 10

/-- R185: the subject of an event. -/
def Event.subject : Event → Nat
  | .boardEntered q _ _ _ | .boardGated q _ _ _ | .boardExited q _ | .fluxMark q _ _ => q
  | .boardUntracked _ | .modeChanged _ _ _ _ => 0
  | .tankSwitched k _ _ => (Tank.code k).toNat
  | .alarmChanged i _ _ _ _ => i.val
  | .inhibitChanged n _ _ => n.code.toNat
  | .bankSwapped b _ => b.toNat
  | .fanChangeover f _ => (Fan.code f).toNat

/-- R185: the detail of an event, before its unused bytes. -/
def Event.detail : Event → List Byte
  | .boardEntered _ slot b unreq => [BitVec.ofNat 8 slot, BankId.code b, flagByte unreq]
  | .boardUntracked e => [e.code]
  | .boardGated _ d r est => [d.code, optionalCode (r.map DryReason.code)] ++ bytesOf 2 est
  | .boardExited _ o => [o.code]
  | .fluxMark _ cell o => bytesOf 2 cell ++ [o.code]
  | .tankSwitched _ c residue => [c.code] ++ bytesOf 4 residue
  | .alarmChanged i before after cause n =>
    [before.code, after.code, cause.code, (alarmClass i).code, (alarmSeverity i).code, BitVec.ofNat 8 n]
  | .inhibitChanged _ st asserted => [WaveEffect.code st, flagByte asserted]
  | .modeChanged before after ph cause => [LineMode.code before, LineMode.code after, ph.code, cause.code, cause.alarmByte]
  | .bankSwapped _ d => [d.code]
  | .fanChangeover _ d => [d.code]

/-- R185: an event record of 14 bytes; the bytes of the detail that the kind does not use are 0. -/
def EventRecord.encode (r : EventRecord) : List Byte :=
  [r.event.kindCode] ++ stampBytes r.stamp ++ bytesOf 2 r.event.subject ++
    (r.event.detail ++ List.replicate (7 - r.event.detail.length) 0)

/-! ### Alarm records (R152) -/

/-- R152: an alarm record with its index. -/
def Aim.encodeRecord (a : Aim) (i : AlarmId) : List Byte :=
  let r := a.records[i]
  [BitVec.ofNat 8 i.val, r.state.code, (alarmClass i).code, (alarmSeverity i).code, flagByte (alarmLatching i)] ++
    optionalStampBytes r.first ++ optionalStampBytes r.last ++ bytesOf 1 r.count

/-- R182, R152: the alarm summary: the two counts, the five inhibits, the WAVE effect state and the five assertion
flags. (Assumption 20, DEDUCED.) -/
def Aim.summary (a : Aim) : List Byte :=
  bytesOf 1 (a.unackCount .alarm) ++ bytesOf 1 (a.unackCount .warn) ++
    [Inhibit.spray, .preheat, .wave, .feed, .entry].map (fun n => WaveEffect.code (inhibitState (a.inhibitActive n))) ++
    [WaveEffect.code a.waveEffect] ++ [Inhibit.spray, .preheat, .wave, .feed, .entry].map (fun n => flagByte (a.asserted.get n))

/-- R152: the body of READ_ALARMS from an index on: the summary, the five levels and up to 12 records. -/
def Aim.readAlarms (a : Aim) (first : Nat) : List Byte :=
  a.summary ++ a.levels.toList.map ContactLevel.code ++
    (((List.finRange 37).filter fun i => decide (first ≤ i.val)).take 12).flatMap a.encodeRecord

/-! ### Timers at a read (R182, assumption 3, DESIGN CHOICE) -/

/-- A time on a running timer at a read: what the ticks give, moved by less than a tenth of a second either way. -/
def atRead (duration left free : Nat) : Nat := (clampInt 0 duration ((left : Int) + (free % 199 : Nat) - 99)).toNat

/-- R182: the time remaining on an extraction timer; every byte 0xFF where it is stopped. -/
def remainingBytes (w duration free : Nat) : Timer → List Byte
  | .stopped => List.replicate w 0xFF
  | .running left => bytesOf w (atRead duration left free)
  | .expired => bytesOf w 0

/-- R135, R182: the elapsed time of a fan fault timer; 0 while it is stopped, and held at 5 s once it has run out.
(Assumption 21, DEDUCED.) R182 gives milliseconds for times remaining; the elapsed time takes the same unit, in 2 bytes
(assumption 36, DEDUCED). -/
def elapsedBytes (free : Nat) : Timer → List Byte
  | .stopped => bytesOf 2 0
  | .running left => bytesOf 2 (atRead Config.fanFaultMs (Config.fanFaultMs - left) free)
  | .expired => bytesOf 2 Config.fanFaultMs

/-- R182: the idle timer's time remaining, in seconds, or absent. -/
def idleBytes (timeoutMin free : Nat) : Timer → List Byte
  | .running left => bytesOf 2 (roundDiv (atRead (timeoutMin * Config.minuteMs) left free) 1000).toNat
  | .stopped | .expired => optionalBytes 2 none

/-! ### Status groups (R182) -/

/-- The group "clock and track". -/
def State.clockTrackGroup (s : State) : List Byte :=
  stampBytes s.clock ++ [flagByte s.trk.trackUnknown, flagByte s.trk.ready] ++ bytesOf 2 s.trk.measuredSpeed ++
    bytesOf 3 s.trk.position.toNat ++ bytesOf 1 s.trk.table.length ++ bytesOf 1 s.trk.exitLog.length ++
    bytesOf 1 s.trk.identities.length

/-- The group "mode": the fields of R154 named there for all three links. -/
def Lmc.modeGroup (l : Lmc) : List Byte :=
  [LineMode.code l.mode, l.phase.code, BankId.code l.active, l.banks.fst.validityCode, l.banks.snd.validityCode,
    flagByte l.setbackPending, flagByte l.supervision.running] ++ bytesOf 2 l.supervision.window

/-- One channel of the group "signals"; the machine link also reads the last code. -/
def ChannelRec.signal (l : Link) (c : ChannelRec) : List Byte :=
  bytesOf 2 c.read ++ [ReportedState.code c.reported] ++ (if l = .machine then bytesOf 2 c.lastCode.toNat else [])

/-- The group "signals". -/
def Saq.signalsGroup (q : Saq) (l : Link) : List Byte :=
  q.channels.toList.flatMap (ChannelRec.signal l) ++
    q.contacts.toList.flatMap fun c => [ContactLevel.code c.reported, flagByte c.forced.isSome]

/-- A zone in the group "process summary". -/
def ZoneRec.summary (r : ZoneRec) : List Byte := [ZoneState.code r.state] ++ bytesOf 2 r.temp

/-- The duct state, the duty fan and the outputs. -/
def Exm.summary (e : Exm) : List Byte :=
  [e.duct.code, Fan.code e.duty, flagByte e.outputs.fst, flagByte e.outputs.snd]

/-- The group "process summary". -/
def State.processGroup (s : State) : List Byte :=
  s.znc.zones.z1.summary ++ s.znc.zones.z2.summary ++ s.znc.zones.z3.summary ++ [PotState.code s.pot.heat.state] ++
    bytesOf 2 s.pot.heat.temp ++ [FeederState.code s.pot.feeder, WaveState.code s.pot.wave] ++ s.exm.summary

/-- The group "mode detail". -/
def Lmc.detailGroup (l : Lmc) (free : Nat) : List Byte :=
  [flagByte l.view.zones.z1, flagByte l.view.zones.z2, flagByte l.view.zones.z3, flagByte l.view.pot,
    WaveState.code l.view.wave, flagByte l.view.waveBankActive, flagByte l.view.feeding] ++
    idleBytes l.idleTimeout free l.idleTimer

/-- The group "flux". -/
def Flx.group (f : Flx) : List Byte :=
  optionalSeqBytes f.board ++ bytesOf 2 f.cell ++ [BitVec.ofNat 8 f.action.val, f.outcome.code, f.valve.code] ++
    bytesOf 4 f.amounts.fst ++ bytesOf 4 f.amounts.snd ++ [Tank.code f.activeTank] ++ bytesOf 1 f.pressureLow

/-- A zone in the group "zones" (R76). -/
def ZoneRec.detail (r : ZoneRec) : List Byte :=
  [ZoneState.code r.state] ++ bytesOf 2 r.setpoint ++ bytesOf 2 r.temp ++ [ReportedState.code r.tempState] ++
    bytesOf 1 r.computed ++ bytesOf 1 r.applied ++ bytesOf 2 r.integral ++ [flagByte r.overtemp]

/-- The pot record in the group "pot" (R120). -/
def PotRec.detail (r : PotRec) : List Byte :=
  [PotState.code r.state] ++ bytesOf 2 r.setpoint ++ bytesOf 2 r.temp ++ [ReportedState.code r.tempState] ++
    bytesOf 1 r.computed ++ bytesOf 1 r.applied ++ bytesOf 2 r.integral ++ [flagByte r.overtemp]

/-- An entry of the wave schedule. -/
def ScheduleEntry.encode (e : ScheduleEntry) : List Byte := bytesOf 2 e.seq ++ [BankId.code e.bank, e.decision.code]

/-- The group "pot" (R120). -/
def Pot.group (p : Pot) : List Byte :=
  p.heat.detail ++ bytesOf 2 p.level ++ [p.levelValidity.code, flagByte p.demand, flagByte p.settled,
    FeederState.code p.feeder] ++ bytesOf 2 p.ringSum ++
    [WaveState.code p.wave, p.target.code, BankId.code p.waveBank] ++ bytesOf 2 p.pumpSpeed ++
    bytesOf 1 p.schedule.length ++ p.schedule.flatMap ScheduleEntry.encode

/-- The group "extraction" (R135). The four timers take the free values 1 to 4 of the read. -/
def Exm.group (e : Exm) (free : Nat → Nat) : List Byte :=
  e.summary ++ bytesOf 1 e.lowCount ++ bytesOf 1 e.recoveryCount ++
    remainingBytes 2 Config.recoveryMs (free 1) e.recoveryTimer ++ elapsedBytes (free 2) e.fanTimers.fst ++
    elapsedBytes (free 3) e.fanTimers.snd ++ optionalStampBytes e.firstLoss ++ optionalStampBytes e.lastRecovery ++
    [flagByte e.ductLow, flagByte e.extractionLost, flagByte e.fanFaults.fst, flagByte e.fanFaults.snd,
      flagByte e.filterLoaded, flagByte e.filterBlocked] ++ bytesOf 2 e.fdpValue ++ [ReportedState.code e.fdpState] ++
    remainingBytes 3 e.filterInterval (free 4) e.filterTimer

/-- R182: the groups every link receives. -/
def State.commonGroups (l : Link) (s : State) : List Byte :=
  s.clockTrackGroup ++ s.lmc.modeGroup ++ s.saq.signalsGroup l ++ s.aim.summary ++ s.processGroup

/-- R182: the detail groups of the machine link. -/
def State.detailGroups (s : State) : List Byte :=
  let free (k : Nat) : Nat := Config.freeTime (s.freeCount + k)
  s.lmc.detailGroup (free 0) ++ s.flx.group ++
    (s.znc.zones.z1.detail ++ s.znc.zones.z2.detail ++ s.znc.zones.z3.detail) ++ s.pot.group ++ s.exm.group free

/-- R182: the body of READ_STATUS. -/
def State.statusBody (l : Link) (s : State) : List Byte :=
  s.commonGroups l ++ (if l = .machine then s.detailGroups else [])

/-! ### The retained record (R192) -/

/-- R192: the body of READ_RETAINED, 17 bytes. -/
def Rtr.encode (r : Rtr) : List Byte :=
  bytesOf 4 r.amounts.fst ++ bytesOf 4 r.amounts.snd ++ [Tank.code r.activeTank] ++ bytesOf 4 r.feedTotal ++
    [flagByte r.refillSeen.fst, flagByte r.refillSeen.snd, flagByte r.validity,
      setByte [r.causes.powerOn, r.causes.external, r.causes.commanded]]

/-! ### The frame check and the reply frames (R174, R176) -/

/-- R174: one bit of the register: the polynomial 0x1021, most significant bit first. -/
def crcShift (r : BitVec 16) : BitVec 16 := if r.msb then (r <<< 1) ^^^ 0x1021 else r <<< 1

/-- R174: one byte enters the register. -/
def crcByte (r : BitVec 16) (b : Byte) : BitVec 16 :=
  let r := r ^^^ ((b.zeroExtend 16) <<< 8)
  crcShift (crcShift (crcShift (crcShift (crcShift (crcShift (crcShift (crcShift r)))))))

/-- R174: the CRC-16 of a sequence of bytes, from 0xFFFF, with no final inversion. -/
def crc16 (bs : List Byte) : BitVec 16 := bs.foldl crcByte 0xFFFF

/-- R174: the two check characters, high byte first. -/
def checkBytes (bs : List Byte) : List Byte := bytesOf 2 (crc16 bs).toNat

/-- R173, R174: a frame around its content of kind and body: sync byte, length, content, check. -/
def frameOf (content : List Byte) : List Byte :=
  let counted := BitVec.ofNat 8 content.length :: content
  0xA5 :: counted ++ checkBytes counted

/-- R176: the part of a body that a segment carries. -/
def segmentPart (body : List Byte) (n : Nat) : List Byte := (body.drop (246 * n)).take 246

/-- R176: how many segments a body takes; an empty body takes one. -/
def segmentCount (body : List Byte) : Nat := max 1 ((body.length + 245) / 246)

/-- R176: the frames of a reply, in order. -/
def Reply.frames (r : Reply) : List (List Byte) :=
  (List.range (segmentCount r.body)).map fun n =>
    frameOf ([r.kind, r.status.code, BitVec.ofNat 8 n, BitVec.ofNat 8 (segmentCount r.body)] ++ segmentPart r.body n)

end Sys2Proof.Machine
end

