-- ==== Sys2Proof/Machine/Operands.lean ====
section
/-! DEFINITION. The operands of a request: the numbers of a body (R177), the items of WRITE_CONFIG and WRITE_BANK with their
names (R180), widths and ranges, and one reader per request body of R181. A reader answers none where the body's length or a
code in it does not fit (R175 step 3). -/

namespace Sys2Proof.Machine

/-! ### Numbers (R177) -/

/-- R177: an unsigned number, high byte first. -/
def natOf (bs : List Byte) : Nat := bs.foldl (fun n b => 256 * n + b.toNat) 0

/-- R177: a number of as many bytes, in two's complement where its range has negative values. -/
def numberOf (signed : Bool) (bs : List Byte) : Int :=
  let n := natOf bs
  if signed ∧ 2 * n ≥ 256 ^ bs.length then (n : Int) - (256 ^ bs.length : Nat) else n

/-- A body that is one unsigned number of a width. -/
def numberBody (width : Nat) (bs : List Byte) : Option Nat := if bs.length = width then some (natOf bs) else none

/-- An empty body. -/
def emptyBody (bs : List Byte) : Option Unit := if bs = [] then some () else none

/-- R177: a flag. -/
def flagOf (b : Byte) : Option Bool := if b = 0 then some false else if b = 1 then some true else none

/-! ### Machine configuration items (R180) -/

/-- The items of the geometry group, in the order of R5's table. -/
inductive GeometryItem | trim | pFlux | pNozzle | ph1 | ph2 | ph3 | pGate | pWave | wMargin | pExit | tolerance
deriving DecidableEq, Repr

/-- The items of a channel, in the order of R31's table. -/
inductive ChannelItem | gain | offset | low | high
deriving DecidableEq, Repr

/-- The machine configuration items. -/
inductive ConfigItem
  | geometry (g : GeometryItem)
  | idRequired
  | channel (c : Channel) (k : ChannelItem)
  | tankLow
  | fluxPressureMin
  | zoneKp (z : Zone)
  | zoneKi (z : Zone)
  | zoneMargin
  | potKp
  | potKi
  | potMargin
  | pumpSafe
  | potHold
  | holdSetpoint
  | alpha
  | tRef
  | dPump
  | levelMin
  | feedOn
  | feedOff
  | levelMax
  | budget
  | ductTrip
  | ductHyst
  | filterWarn
  | filterBlock
  | filterHyst
  | idleTimeout
  | wake
deriving DecidableEq, Repr

def GeometryItem.all : List GeometryItem :=
  [.trim, .pFlux, .pNozzle, .ph1, .ph2, .ph3, .pGate, .pWave, .wMargin, .pExit, .tolerance]

/-- The zone with a number, 1 to 3. -/
def Zone.ofNat? : Nat → Option Zone
  | 1 => some .z1 | 2 => some .z2 | 3 => some .z3 | _ => none

/-- The items of a rule without instances, by row. -/
def rowsOf : Nat → List ConfigItem
  | 5 => GeometryItem.all.map .geometry
  | 11 => [.idRequired]
  | 60 => [.tankLow]
  | 62 => [.fluxPressureMin]
  | 98 => [.potKp, .potKi, .potMargin, .pumpSafe, .potHold, .holdSetpoint]
  | 105 => [.alpha, .tRef, .dPump]
  | 107 => [.levelMin, .feedOn, .feedOff, .levelMax, .budget]
  | 123 => [.ductTrip, .ductHyst, .filterWarn, .filterBlock, .filterHyst]
  | 159 => [.idleTimeout, .wake]
  | _ => []

/-- R180: the machine configuration item that a rule number, a row and an instance name. -/
def configItem? (rule row inst : Nat) : Option ConfigItem :=
  match rule, row with
  | 31, _ => do
    let c ← Channel.ofNat? inst
    let k ← [ChannelItem.gain, .offset, .low, .high][row]?
    return .channel c k
  | 65, 0 => (Zone.ofNat? inst).map .zoneKp
  | 65, 1 => (Zone.ofNat? inst).map .zoneKi
  | 65, 2 => if inst = 0 then some .zoneMargin else none
  | rule, row => if inst = 0 then (rowsOf rule)[row]? else none

/-- The range of an item, from its rule's table. -/
def ConfigItem.range : ConfigItem → Int × Int
  | .geometry .trim => (0, 127)
  | .geometry .wMargin => (1, 1000)
  | .geometry .tolerance => (10, 200)
  | .geometry _ => (1, 16000)
  | .idRequired | .potHold | .wake => (0, 1)
  | .channel _ .gain => (0, 65535)
  | .channel _ .offset => (-32768, 32767)
  | .channel c .low | .channel c .high => (0, c.max)
  | .tankLow => (0, 50000000)
  | .fluxPressureMin => (0, 1000)
  | .zoneKp _ | .potKp => (0, 4095)
  | .zoneKi _ | .potKi => (0, 255)
  | .zoneMargin => (20, 500)
  | .potMargin => (20, 300)
  | .pumpSafe => (1900, 2600)
  | .holdSetpoint => (1900, 3200)
  | .alpha => (0, 255)
  | .tRef => (0, 4000)
  | .dPump => (0, 2000)
  | .levelMin | .feedOn | .feedOff | .levelMax => (0, 10000)
  | .budget => (10, 600)
  | .ductTrip => (50, 1900)
  | .ductHyst | .filterHyst => (10, 500)
  | .filterWarn | .filterBlock => (100, 2450)
  | .idleTimeout => (0, 240)

/-- R177: the fewest bytes that hold an item's range. -/
def ConfigItem.width : ConfigItem → Nat
  | .geometry .trim | .geometry .tolerance => 1
  | .geometry _ => 2
  | .idRequired | .potHold | .wake => 1
  | .channel _ _ => 2
  | .tankLow => 4
  | .fluxPressureMin => 2
  | .zoneKp _ | .potKp => 2
  | .zoneKi _ | .potKi => 1
  | .zoneMargin | .potMargin | .pumpSafe | .holdSetpoint => 2
  | .alpha => 1
  | .tRef | .dPump | .levelMin | .feedOn | .feedOff | .levelMax | .budget => 2
  | .ductTrip | .ductHyst | .filterWarn | .filterBlock | .filterHyst => 2
  | .idleTimeout => 1

/-- R177: the channel offset alone has negative values. -/
def ConfigItem.signed : ConfigItem → Bool
  | .channel _ .offset => true
  | _ => false

/-- R177: the items of two values are flags. -/
def ConfigItem.isFlag : ConfigItem → Bool
  | .idRequired | .potHold | .wake => true
  | _ => false

/-- Whether a value lies in an item's range. -/
def ConfigItem.inRange (i : ConfigItem) (v : Int) : Bool := decide (i.range.1 ≤ v) && decide (v ≤ i.range.2)

/-- R180: the body of WRITE_CONFIG; a flag of a value other than 0 and 1 does not fit. -/
def configBody : List Byte → Option (ConfigItem × Int)
  | r1 :: r0 :: row :: inst :: value => do
    let i ← configItem? (natOf [r1, r0]) row.toNat inst.toNat
    if value.length = i.width then
      let v := numberOf i.signed value
      if i.isFlag ∧ i.inRange v = false then none else some (i, v)
    else none
  | _ => none

/-! ### Bank items (R164, R180) -/

/-- The bank items that are numbers. -/
inductive BankNumber
  | zoneSetpoint (z : Zone)
  | zoneBand (z : Zone)
  | zoneSetback
  | potSetpoint
  | potBand
  | potSetback
  | minLength
  | maxLength
  | minGap
  | fluxMinimum
  | coupling (z : Zone)
  | couplingAmb
  | soakThreshold
  | soakMinimum
  | tMin
  | tMax
  | waveSpeed
  | dipSpeed
  | hLo
  | hDip
deriving DecidableEq, Repr

/-- R180: where a row names two items, the instance tells them apart. -/
def ofTwo {α : Type} (inst : Nat) (x y : α) : Option α := if inst = 0 then some x else if inst = 1 then some y else none

/-- An item of a row with one item. -/
def ofOne {α : Type} (inst : Nat) (x : α) : Option α := if inst = 0 then some x else none

/-- R180: the numeric bank item that a row of R164's table and an instance name. -/
def bankNumber? (row inst : Nat) : Option BankNumber :=
  match row with
  | 0 => (Zone.ofNat? inst).map .zoneSetpoint
  | 1 => (Zone.ofNat? inst).map .zoneBand
  | 2 => ofOne inst .zoneSetback
  | 3 => ofOne inst .potSetpoint
  | 4 => ofOne inst .potBand
  | 5 => ofOne inst .potSetback
  | 6 => ofTwo inst .minLength .maxLength
  | 7 => ofOne inst .minGap
  | 10 => ofOne inst .fluxMinimum
  | 11 => (Zone.ofNat? inst).map .coupling
  | 12 => ofOne inst .couplingAmb
  | 13 => ofOne inst .soakThreshold
  | 14 => ofOne inst .soakMinimum
  | 15 => ofTwo inst .tMin .tMax
  | 16 => ofTwo inst .waveSpeed .dipSpeed
  | 17 => ofTwo inst .hLo .hDip
  | _ => none

/-- R164: the range of a numeric bank item. -/
def BankNumber.range : BankNumber → Nat × Nat
  | .zoneSetpoint _ => (500, 3500)
  | .zoneBand _ | .potBand => (20, 200)
  | .zoneSetback => (0, 1500)
  | .potSetpoint => (2000, 3200)
  | .potSetback => (0, 1000)
  | .minLength | .maxLength => (120, 1200)
  | .minGap => (0, 4000)
  | .fluxMinimum | .soakMinimum => (0, 65535)
  | .coupling _ | .couplingAmb => (1, 4095)
  | .soakThreshold | .tMin | .tMax => (0, 4000)
  | .waveSpeed | .dipSpeed => (0, 1000)
  | .hLo | .hDip => (0, 3000)

/-- R177: the bands fit one byte, every other numeric bank item takes two. -/
def BankNumber.width : BankNumber → Nat
  | .zoneBand _ | .potBand => 1
  | _ => 2

def BankNumber.inRange (i : BankNumber) (v : Nat) : Bool := decide (i.range.1 ≤ v) && decide (v ≤ i.range.2)

/-- What WRITE_BANK writes: a number, a spray action with its four parts, or the whole spray map. -/
inductive BankWrite
  | number (i : BankNumber) (v : Nat)
  | action (n : Fin 8) (a : SprayAction)
  | map (runs : List Run)
deriving DecidableEq, Repr

/-- An action number. -/
def actionNumber? (n : Nat) : Option (Fin 8) := if h : n < 8 then some ⟨n, h⟩ else none

/-- R45, R180: a spray action of four bytes; a dose of 0 is out of range, and action 0 has spray OFF. -/
def actionBody (n : Fin 8) : List Byte → Option SprayAction
  | [sp, dose, counted, mark] => do
    let sp ← flagOf sp
    let counted ← flagOf counted
    let mark ← flagOf mark
    if dose = 0 ∨ (n = 0 ∧ sp = true) then none else some ⟨sp, dose.toNat, counted, mark⟩
  | _ => none

/-- R46, R180: the runs of a spray map, each of 1 to 255 cells and an action from 0 to 7. -/
def runsOf : List Byte → Option (List Run)
  | [] => some []
  | [_] => none
  | cells :: act :: rest => do
    let a ← actionNumber? act.toNat
    let rs ← runsOf rest
    if cells = 0 then none else some (⟨cells.toNat, a⟩ :: rs)

/-- R46, R180: a spray map, a run count from 1 to 32 and that many runs. -/
def mapBody : List Byte → Option (List Run)
  | n :: rest => if 1 ≤ n.toNat ∧ n.toNat ≤ 32 ∧ rest.length = 2 * n.toNat then runsOf rest else none
  | [] => none

/-- R164, R180: the write that a row, an instance and a value give, where the value is in its range. -/
def bankWrite? (row inst : Nat) (value : List Byte) : Option BankWrite :=
  match row with
  | 8 => do
    let n ← actionNumber? inst
    let a ← actionBody n value
    return .action n a
  | 9 => if inst = 0 then (mapBody value).map .map else none
  | row => do
    let i ← bankNumber? row inst
    if value.length = i.width ∧ i.inRange (natOf value) = true then some (.number i (natOf value)) else none

/-- R165 step 1, R175 step 3: the body of WRITE_BANK. A bank other than 0 or 1, an unknown item and a value out of range are
INVALID alike, whichever of the two rules refuses them. -/
def bankBody : List Byte → Option (BankId × BankWrite)
  | bank :: r1 :: r0 :: row :: inst :: value => do
    let b ← BankId.ofNat? bank.toNat
    let w ← if natOf [r1, r0] = 164 then bankWrite? row.toNat inst.toNat value else none
    return (b, w)
  | _ => none

/-! ### The other bodies (R181) -/

/-- The contact levels as R177 codes them; a level of FORCE_SIGNAL is OPEN or CLOSED. -/
def levelOf (b : Byte) : Option ContactLevel := if b = 1 then some .opened else if b = 2 then some .closed else none

/-- R179, R181: FORCE_SIGNAL with signal type ANALOG: the type, a channel number and a value of two bytes. -/
def forceChannelBody : List Byte → Option (Nat × Nat)
  | [ty, n, v1, v0] => if ty = 0 then some (n.toNat, natOf [v1, v0]) else none
  | _ => none

/-- R179, R181: FORCE_SIGNAL with signal type CONTACT: the type, a contact number and a level. -/
def forceContactBody : List Byte → Option (Nat × ContactLevel)
  | [ty, n, level] => if ty = 1 then (levelOf level).map (fun l => (n.toNat, l)) else none
  | _ => none

/-- R181: RELEASE_FORCE; with signal type ALL the number is ignored. -/
def releaseBody : List Byte → Option ReleaseTarget
  | [ty, n] =>
    if ty = 0 then some (.analog n.toNat) else if ty = 1 then some (.contact n.toNat) else if ty = 2 then some .all else none
  | _ => none

/-- R181: REFILL: a tank and an amount of four bytes. -/
def refillBody : List Byte → Option (Nat × Nat)
  | tank :: amount => if amount.length = 4 then some (tank.toNat, natOf amount) else none
  | [] => none

/-- R177, R187: a class set; a member beyond the five classes does not fit. -/
def maskBody : List Byte → Option Mask
  | [b] =>
    if b.toNat < 32 then
      some ⟨b.getLsbD 0, b.getLsbD 1, b.getLsbD 2, b.getLsbD 3, b.getLsbD 4⟩
    else none
  | _ => none

/-- R177: an inhibit by its code. -/
def inhibitOf (b : Byte) : Option Inhibit := [Inhibit.spray, .preheat, .wave, .feed, .entry][b.toNat]?

/-- R181: the body of ASSERT_INHIBIT and RELEASE_INHIBIT. -/
def inhibitBody : List Byte → Option Inhibit
  | [b] => inhibitOf b
  | _ => none

/-- R177, R179: an identity: a count and that many characters. The characters are judged by R24. -/
def identityBody : List Byte → Option Identity
  | n :: cs => if cs.length = n.toNat then some cs else none
  | [] => none

end Sys2Proof.Machine
end

