-- ==== Sys2Proof/Machine/Items.lean ====
section
/-! DEFINITION. Writing the items: WRITE_CONFIG (R5, R6, R11, R31, R60, R62, R65, R98, R105, R107, R123, R159), WRITE_BANK
(R164, R165) and SET_ZONES_ALL (R77). -/

namespace Sys2Proof.Machine

/-! ### Machine configuration -/

/-- R5: a geometry item takes a value. -/
def Geometry.write (g : Geometry) (i : GeometryItem) (v : Nat) : Geometry :=
  match i with
  | .trim => { g with trim := v }
  | .pFlux => { g with pFlux := v }
  | .pNozzle => { g with pNozzle := v }
  | .ph1 => { g with ph1 := v }
  | .ph2 => { g with ph2 := v }
  | .ph3 => { g with ph3 := v }
  | .pGate => { g with pGate := v }
  | .pWave => { g with pWave := v }
  | .wMargin => { g with wMargin := v }
  | .pExit => { g with pExit := v }
  | .tolerance => { g with tolerance := v }

/-- R6: the conditions of a geometry, over the integers. -/
def Geometry.valid (g : Geometry) : Bool :=
  decide (g.pFlux < g.pNozzle) && decide (g.pNozzle < g.ph1) && decide (g.ph1 < g.ph2) && decide (g.ph2 < g.ph3) &&
  decide (g.ph3 < g.pGate) && decide ((g.pGate : Int) < (g.pWave : Int) - (g.wMargin : Int)) &&
  decide ((g.pWave : Int) + (g.wMargin : Int) < (g.pExit : Int) - (g.tolerance : Int)) && decide (1240 ≤ g.pNozzle)

/-- R31: a channel item takes a value. -/
def ChannelItems.write (c : ChannelItems) (k : ChannelItem) (v : Int) : ChannelItems :=
  match k with
  | .gain => { c with gain := v.toNat }
  | .offset => { c with offset := v }
  | .low => { c with low := v.toNat }
  | .high => { c with high := v.toNat }

/-- R98, R105, R107: a pot item takes a value; other items leave the pot items alone. -/
def PotItems.write (p : PotItems) (i : ConfigItem) (v : Nat) : PotItems :=
  match i with
  | .potKp => { p with kp := v }
  | .potKi => { p with ki := v }
  | .potMargin => { p with margin := v }
  | .pumpSafe => { p with pumpSafe := v }
  | .potHold => { p with holdEnabled := v == 1 }
  | .holdSetpoint => { p with holdSetpoint := v }
  | .alpha => { p with alpha := v }
  | .tRef => { p with tRef := v }
  | .dPump => { p with dPump := v }
  | .levelMin => { p with levelMin := v }
  | .feedOn => { p with feedOn := v }
  | .feedOff => { p with feedOff := v }
  | .levelMax => { p with levelMax := v }
  | .budget => { p with budget := v }
  | .geometry _ | .idRequired | .channel _ _ | .tankLow | .fluxPressureMin | .zoneKp _ | .zoneKi _ | .zoneMargin | .ductTrip
  | .ductHyst | .filterWarn | .filterBlock | .filterHyst | .idleTimeout | .wake => p

/-- R107: the order of the level items. -/
def PotItems.levelsOrdered (p : PotItems) : Bool :=
  decide (p.levelMin < p.feedOn) && decide (p.feedOn < p.feedOff) && decide (p.feedOff < p.levelMax)

/-- R123: an extraction item takes a value; other items leave them alone. -/
def ExmItems.write (e : ExmItems) (i : ConfigItem) (v : Nat) : ExmItems :=
  match i with
  | .ductTrip => { e with ductTrip := v }
  | .ductHyst => { e with ductHyst := v }
  | .filterWarn => { e with filterWarn := v }
  | .filterBlock => { e with filterBlock := v }
  | .filterHyst => { e with filterHyst := v }
  | .geometry _ | .idRequired | .channel _ _ | .tankLow | .fluxPressureMin | .zoneKp _ | .zoneKi _ | .zoneMargin | .potKp
  | .potKi | .potMargin | .pumpSafe | .potHold | .holdSetpoint | .alpha | .tRef | .dPump | .levelMin | .feedOn | .feedOff
  | .levelMax | .budget | .idleTimeout | .wake => e

/-- R123: the conditions of the extraction items. -/
def ExmItems.valid (e : ExmItems) : Bool :=
  decide (e.ductTrip + e.ductHyst ≤ 2000) && decide (e.filterWarn < e.filterBlock) && decide (e.filterHyst < e.filterWarn)

/-- The condition that a write must not break beside its item's range (R6, R31, R107, R123), and the status that refuses it. -/
def State.configConflict (i : ConfigItem) (v : Int) (s : State) : Option Status :=
  match i with
  | .geometry .trim => none
  | .geometry g => if (s.trk.geometry.write g v.toNat).valid then none else some .geometryInvalid
  | .channel c k =>
    let x := s.saq.items[c.index].write k v
    match k with
    | .low | .high => if x.low < x.high then none else some .invalid
    | .gain | .offset => none
  | .levelMin | .feedOn | .feedOff | .levelMax =>
    if (s.pot.items.write i v.toNat).levelsOrdered then none else some .invalid
  | .ductTrip | .ductHyst | .filterWarn | .filterBlock | .filterHyst =>
    if (s.exm.items.write i v.toNat).valid then none else some .invalid
  | .idRequired | .tankLow | .fluxPressureMin | .zoneKp _ | .zoneKi _ | .zoneMargin | .potKp | .potKi | .potMargin | .pumpSafe
  | .potHold | .holdSetpoint | .alpha | .tRef | .dPump | .budget | .idleTimeout | .wake => none

/-- R11, R60, R98: an item is stored, with the evaluation its rule makes at the write. -/
def State.storeConfig (i : ConfigItem) (v : Int) (s : State) : State :=
  let n := v.toNat
  match i with
  | .geometry g => s.setTrk { s.trk with geometry := s.trk.geometry.write g n }
  | .idRequired => (s.setTrk { s.trk with idRequired := n == 1 }).evalReady
  | .channel c k => s.setSaq { s.saq with items := s.saq.items.set c.index (s.saq.items[c.index].write k v) }
  | .tankLow => (s.setFlx { s.flx with lowThreshold := n }).evalTankLow
  | .fluxPressureMin => s.setFlx { s.flx with pressureMin := n }
  | .zoneKp z => s.setZnc { s.znc with kp := s.znc.kp.set z n }
  | .zoneKi z => s.setZnc { s.znc with ki := s.znc.ki.set z n }
  | .zoneMargin => s.setZnc { s.znc with margin := n }
  | .potHold | .holdSetpoint => (s.setPot { s.pot with items := s.pot.items.write i n }).evaluatePot s.lmc.mode
  | .potKp | .potKi | .potMargin | .pumpSafe | .alpha | .tRef | .dPump | .levelMin | .feedOn | .feedOff | .levelMax
  | .budget => s.setPot { s.pot with items := s.pot.items.write i n }
  | .ductTrip | .ductHyst | .filterWarn | .filterBlock | .filterHyst =>
    s.setExm { s.exm with items := s.exm.items.write i n }
  | .idleTimeout => s.setLmc { s.lmc with idleTimeout := n }
  | .wake => s.setLmc { s.lmc with wakeEnabled := n == 1 }

/-- R5: whether an item belongs to the geometry group, whose writes need an empty table. -/
def ConfigItem.isGeometry : ConfigItem → Bool
  | .geometry _ => true
  | _ => false

/-- WRITE_CONFIG, checked in the order of the item's rule. R11, R60 and R62 give no order for ID_REQUIRED, the tank low threshold
and the flux pressure minimum: WRONG_MODE comes before INVALID there too (assumption 35, DESIGN CHOICE). -/
def State.writeConfig (i : ConfigItem) (v : Int) (s : State) : Served :=
  if s.lmc.mode.configures = false then s.refuse .wrongMode
  else if i.isGeometry ∧ s.trk.table ≠ [] then s.refuse .busy
  else if i.inRange v = false then s.refuse .invalid
  else
    match s.configConflict i v with
    | some st => s.refuse st
    | none => (s.storeConfig i v).done

/-! ### Banks -/

/-- R164: a numeric bank item takes a value. -/
def BankItems.writeNumber (b : BankItems) (i : BankNumber) (v : Nat) : BankItems :=
  match i with
  | .zoneSetpoint z => { b with zoneSetpoint := b.zoneSetpoint.set z v }
  | .zoneBand z => { b with zoneBand := b.zoneBand.set z v }
  | .zoneSetback => { b with zoneSetback := v }
  | .potSetpoint => { b with potSetpoint := v }
  | .potBand => { b with potBand := v }
  | .potSetback => { b with potSetback := v }
  | .minLength => { b with minLength := v }
  | .maxLength => { b with maxLength := v }
  | .minGap => { b with minGap := v }
  | .fluxMinimum => { b with fluxMinimum := v }
  | .coupling z => { b with coupling := b.coupling.set z v }
  | .couplingAmb => { b with couplingAmb := v }
  | .soakThreshold => { b with soakThreshold := v }
  | .soakMinimum => { b with soakMinimum := v }
  | .tMin => { b with tMin := v }
  | .tMax => { b with tMax := v }
  | .waveSpeed => { b with waveSpeed := v }
  | .dipSpeed => { b with dipSpeed := v }
  | .hLo => { b with hLo := v }
  | .hDip => { b with hDip := v }

/-- R164: a write to the items of a bank. -/
def BankItems.write (b : BankItems) : BankWrite → BankItems
  | .number i v => b.writeNumber i v
  | .action n a => { b with actions := b.actions.set n a }
  | .map runs => { b with map := runs }

/-- R165 step 3, R170: the alternate bank is the incoming bank of a changeover. -/
def State.incoming (s : State) : Bool := s.lmc.mode == .changeover && s.lmc.phase == .drainOld

/-- R165 step 4: a board record in the table carries a bank's number. -/
def Trk.carries (t : Trk) (b : BankId) : Bool := t.table.any (fun r => r.bank == b)

/-- R164, R165 step 5: a bank is written; an EMPTY bank first takes every starting value. -/
def State.storeBank (b : BankId) (f : BankItems → BankItems) (s : State) : Served :=
  (s.setBank b (.unchecked (f (s.lmc.bank b).items))).done

/-- R165: WRITE_BANK, steps 2 to 5. -/
def State.writeBank (b : BankId) (w : BankWrite) (s : State) : Served :=
  if b = s.lmc.active then s.refuse .bankActive
  else if s.incoming then s.refuse .busy
  else if s.trk.carries b then s.refuse .bankInUse
  else s.storeBank b (·.write w)

/-- R77: SET_ZONES_ALL. -/
def State.setZonesAll (v : Nat) (s : State) : Served :=
  let b := s.lmc.active.other
  if v < 500 ∨ 3500 < v then s.refuse .invalid
  else if s.incoming then s.refuse .busy
  else if s.trk.carries b then s.refuse .bankInUse
  else s.storeBank b fun i => { i with zoneSetpoint := ⟨v, v, v⟩ }

end Sys2Proof.Machine
end

