-- ==== Sys2Proof/Machine/Links.lean ====
section
/-! DEFINITION. The Link Interface's meanings: the end of a reply, and every request of R181 (chapter 10). -/

namespace Sys2Proof.Machine

/-! ### A kind that names no request (R175) -/

/-- R175 step 1. -/
def execUnknownKind (l : Link) (kind : Byte) (_body : List Byte) (s : State) : Host.Outcome State Fault Refusal :=
  let g := s.received l
  .next (if (s.link l).sending.isSome then g.owe l kind .busy else g.reply l kind .unknownKind [])

/-! ### The end of a reply (R178, R190) -/

/-- R190: a reply whose end is a COMMANDED reset. -/
def Reply.resets (l : Link) (r : Reply) : Bool := l == .machine && r.kind == 0x1D && r.status == .ok

/-- R178: the oldest owed reply is sent next, or the link is IDLE. -/
def LinkState.nextReply (k : LinkState) : LinkState :=
  match k.owed with
  | [] => { k with sending := none }
  | o :: os => { k with sending := some ⟨o.kind, o.status, []⟩, owed := os }

/-- R178. The end of the OK reply to RESET is the reset itself (R190), which COMMANDED_RESET takes: here it changes nothing. A link
that sends nothing has no reply that ends. (Assumptions 6 and 23.) -/
def execReplyEnd (l : Link) (s : State) : Host.Outcome State Fault Refusal :=
  .next (match (s.link l).sending with
    | none => s
    | some r => if r.resets l then s else s.setLink l (s.link l).nextReply)

/-! ### Reads -/

/-- R182: READ_STATUS; the machine link's reply takes five free values for its timers (assumption 3, DESIGN CHOICE). -/
def State.readStatus (l : Link) (s : State) : Served :=
  ⟨.ok, s.statusBody l, if l = .machine then s.useFree 5 else s⟩

/-- R182. -/
def execReadStatus (l : Link) (body : List Byte) (s : State) : Host.Outcome State Fault Refusal :=
  .next (s.serve l 0x01 [.machine, .safety, .trace] (emptyBody body) fun _ s => s.readStatus l)

/-- R18: the record that the exit log holds for a sequence number, oldest first. -/
def Trk.logged? (t : Trk) (seq : Nat) : Option ExitRecord :=
  t.exitLog.find? fun r => r.seq == seq

/-- R18: READ_BOARD searches the table and then the exit log, oldest first; NOT_FOUND where neither holds the sequence number. A
record that TAKE_EXIT_RECORD has removed is in neither. R184's remark that it is read back gives READ_BOARD no other status: by R175
step 4 and R179 a request's statuses and effect are those of its own rule, which is R18. (Assumption 34, DEDUCED.) -/
def State.readBoard (seq : Nat) (s : State) : Served :=
  match s.trk.board? seq with
  | some b => ⟨.ok, 0 :: b.encode s.trk.geometry s.trk.position, s⟩
  | none =>
    match s.trk.logged? seq with
    | some r => ⟨.ok, 1 :: r.encode, s⟩
    | none => s.refuse .notFound

/-- R18. -/
def execReadBoard (l : Link) (body : List Byte) (s : State) : Host.Outcome State Fault Refusal :=
  .next (s.serve l 0x02 [.machine, .trace] (numberBody 2 body) fun q s => s.readBoard q)

/-- R18, R183: the body of READ_TABLE. -/
def State.tableBody (s : State) : List Byte :=
  bytesOf 1 s.trk.table.length ++ s.trk.table.flatMap fun b => b.encode s.trk.geometry s.trk.position

/-- R18. -/
def execReadTable (l : Link) (body : List Byte) (s : State) : Host.Outcome State Fault Refusal :=
  .next (s.serve l 0x03 [.machine] (emptyBody body) fun _ s => ⟨.ok, s.tableBody, s⟩)

/-- R152: READ_ALARMS. -/
def State.readAlarms (first : Nat) (s : State) : Served :=
  if 36 < first then s.refuse .invalid else ⟨.ok, s.aim.readAlarms first, s⟩

/-- R152. -/
def execReadAlarms (l : Link) (body : List Byte) (s : State) : Host.Outcome State Fault Refusal :=
  .next (s.serve l 0x04 [.machine, .safety] (numberBody 1 body) fun n s => s.readAlarms n)

/-- R192. -/
def execReadRetained (l : Link) (body : List Byte) (s : State) : Host.Outcome State Fault Refusal :=
  .next (s.serve l 0x19 [.machine] (emptyBody body) fun _ s => ⟨.ok, s.rtr.encode, s⟩)

/-! ### Alarms and inhibits -/

/-- R141. -/
def execAckAlarm (l : Link) (body : List Byte) (s : State) : Host.Outcome State Fault Refusal :=
  .next (s.serve l 0x05 [.machine, .safety] (numberBody 1 body) fun n s => s.ackAlarm l n)

/-- R147. -/
def execAssertInhibit (l : Link) (body : List Byte) (s : State) : Host.Outcome State Fault Refusal :=
  .next (s.serve l 0x1E [.safety] (inhibitBody body) fun n s => s.assertInhibit n true)

/-- R147. -/
def execReleaseInhibit (l : Link) (body : List Byte) (s : State) : Host.Outcome State Fault Refusal :=
  .next (s.serve l 0x1F [.safety] (inhibitBody body) fun n s => s.assertInhibit n false)

/-! ### Configuration and banks -/

/-- R179, R180. -/
def execWriteConfig (l : Link) (body : List Byte) (s : State) : Host.Outcome State Fault Refusal :=
  .next (s.serve l 0x06 [.machine] (configBody body) fun a s => s.writeConfig a.1 a.2)

/-- R165. -/
def execWriteBank (l : Link) (body : List Byte) (s : State) : Host.Outcome State Fault Refusal :=
  .next (s.serve l 0x07 [.machine] (bankBody body) fun a s => s.writeBank a.1 a.2)

/-- R77. -/
def execSetZonesAll (l : Link) (body : List Byte) (s : State) : Host.Outcome State Fault Refusal :=
  .next (s.serve l 0x08 [.machine] (numberBody 2 body) fun v s => s.setZonesAll v)

/-- R166. -/
def execValidateBank (l : Link) (body : List Byte) (s : State) : Host.Outcome State Fault Refusal :=
  .next (s.serve l 0x09 [.machine] (emptyBody body) fun _ s => s.validateBank)

/-- R167. -/
def execSwapBank (l : Link) (body : List Byte) (s : State) : Host.Outcome State Fault Refusal :=
  .next (s.serve l 0x0A [.machine] (emptyBody body) fun _ s => s.swapBank)

/-- R170. -/
def execCancelSwap (l : Link) (body : List Byte) (s : State) : Host.Outcome State Fault Refusal :=
  .next (s.serve l 0x0B [.machine] (emptyBody body) fun _ s => s.cancelSwap)

/-! ### Modes -/

/-- R156. -/
def execWarmup (l : Link) (body : List Byte) (s : State) : Host.Outcome State Fault Refusal :=
  .next (s.serve l 0x0C [.machine] (emptyBody body) fun _ s => s.warmupRequest takesWarmup 0x0C)

/-- R156. -/
def execStart (l : Link) (body : List Byte) (s : State) : Host.Outcome State Fault Refusal :=
  .next (s.serve l 0x0D [.machine] (emptyBody body) fun _ s => s.warmupRequest takesStart 0x0D)

/-- R156. -/
def execStop (l : Link) (body : List Byte) (s : State) : Host.Outcome State Fault Refusal :=
  .next (s.serve l 0x0E [.machine] (emptyBody body) fun _ s => s.stopRequest)

/-- R156. -/
def execStopHeat (l : Link) (body : List Byte) (s : State) : Host.Outcome State Fault Refusal :=
  .next (s.serve l 0x0F [.machine] (emptyBody body) fun _ s => s.stopHeat)

/-- R163. -/
def execEnterMaintenance (l : Link) (body : List Byte) (s : State) : Host.Outcome State Fault Refusal :=
  .next (s.serve l 0x10 [.machine] (emptyBody body) fun _ s => s.enterMaintenance)

/-- R163. -/
def execLeaveMaintenance (l : Link) (body : List Byte) (s : State) : Host.Outcome State Fault Refusal :=
  .next (s.serve l 0x11 [.machine] (emptyBody body) fun _ s => s.leaveMaintenance)

/-- R161. -/
def execForceSafe (l : Link) (body : List Byte) (s : State) : Host.Outcome State Fault Refusal :=
  .next (s.serve l 0x20 [.safety] (emptyBody body) fun _ s => s.forceSafe)

/-- R162. -/
def execReleaseSafe (l : Link) (body : List Byte) (s : State) : Host.Outcome State Fault Refusal :=
  .next (s.serve l 0x21 [.safety] (emptyBody body) fun _ s => s.releaseSafe)

/-- R171. -/
def execSupervise (l : Link) (body : List Byte) (s : State) : Host.Outcome State Fault Refusal :=
  .next (s.serve l 0x22 [.safety] (numberBody 2 body) fun w s => s.supervise w)

/-! ### Forces, track, flux and extraction -/

/-- R41. -/
def execForceSignalChannel (l : Link) (body : List Byte) (s : State) : Host.Outcome State Fault Refusal :=
  .next (s.serve l 0x12 [.machine] (forceChannelBody body) fun a s =>
    s.forceSignalChannel a.1 a.2)

/-- R42. -/
def execForceSignalContact (l : Link) (body : List Byte) (s : State) : Host.Outcome State Fault Refusal :=
  .next (s.serve l 0x12 [.machine] (forceContactBody body) fun a s =>
    s.forceSignalContact a.1 a.2)

/-- R43. -/
def execReleaseForce (l : Link) (body : List Byte) (s : State) : Host.Outcome State Fault Refusal :=
  .next (s.serve l 0x13 [.machine] (releaseBody body) fun t s => s.releaseForce t)

/-- R25. -/
def execClearTrack (l : Link) (body : List Byte) (s : State) : Host.Outcome State Fault Refusal :=
  .next (s.serve l 0x14 [.machine] (emptyBody body) fun _ s => s.clearTrack)

/-- R58. -/
def execRefill (l : Link) (body : List Byte) (s : State) : Host.Outcome State Fault Refusal :=
  .next (s.serve l 0x15 [.machine] (refillBody body) fun a s => s.refill a.1 a.2)

/-- R59. -/
def execSelectTank (l : Link) (body : List Byte) (s : State) : Host.Outcome State Fault Refusal :=
  .next (s.serve l 0x16 [.machine] (numberBody 1 body) fun k s => s.selectTank k)

/-- R131. -/
def execSelectFan (l : Link) (body : List Byte) (s : State) : Host.Outcome State Fault Refusal :=
  .next (s.serve l 0x17 [.machine] (numberBody 1 body) fun f s => s.selectFan f)

/-- R130. -/
def execClearStamps (l : Link) (body : List Byte) (s : State) : Host.Outcome State Fault Refusal :=
  .next (s.serve l 0x18 [.machine] (emptyBody body) fun _ s => s.clearStamps)

/-! ### Identities and the exit log -/

/-- R24. -/
def execPushIdentity (l : Link) (body : List Byte) (s : State) : Host.Outcome State Fault Refusal :=
  .next (s.serve l 0x23 [.trace] (identityBody body) fun i s => s.pushIdentity i)

/-- R24. -/
def execFlushIdentities (l : Link) (body : List Byte) (s : State) : Host.Outcome State Fault Refusal :=
  .next (s.serve l 0x24 [.trace] (emptyBody body) fun _ s => s.flushIdentities)

/-- R22, R184: the oldest record of the exit log is removed, before the reply: the log holds the rest. The model notes it in
`removed`, the latest of its sequence number. (Assumption 34.) -/
def Trk.removeOldest (t : Trk) (r : ExitRecord) (rest : List ExitRecord) : Trk :=
  { t with exitLog := rest, removed := r :: t.removed.filter fun y => y.seq != r.seq }

/-- R22, R184: TAKE_EXIT_RECORD. -/
def State.takeExitRecord (s : State) : Served :=
  match s.trk.exitLog with
  | [] => s.refuse .empty
  | r :: rest => ⟨.ok, r.encode, (s.setTrk (s.trk.removeOldest r rest)).evalReady⟩

/-- R22. -/
def execTakeExitRecord (l : Link) (body : List Byte) (s : State) : Host.Outcome State Fault Refusal :=
  .next (s.serve l 0x25 [.trace] (emptyBody body) fun _ s => s.takeExitRecord)

/-! ### Events (R187) -/

/-- R187: READ_EVENTS removes up to 8 records and clears the gap flag. -/
def State.readEvents (l : Link) (s : State) : Served :=
  let k := s.link l
  let out := k.queue.take 8
  ⟨.ok, [flagByte k.gap, BitVec.ofNat 8 out.length] ++ out.flatMap EventRecord.encode,
    s.setLink l { k with queue := k.queue.drop 8, gap := false }⟩

/-- R187. -/
def execReadEvents (l : Link) (body : List Byte) (s : State) : Host.Outcome State Fault Refusal :=
  .next (s.serve l 0x1B [.machine, .safety, .trace] (emptyBody body) fun _ s => s.readEvents l)

/-- R187: SUBSCRIBE replaces the mask. -/
def State.subscribe (l : Link) (m : Mask) (s : State) : Served := (s.setLink l { s.link l with mask := m }).done

/-- R187. -/
def execSubscribe (l : Link) (body : List Byte) (s : State) : Host.Outcome State Fault Refusal :=
  .next (s.serve l 0x1C [.machine, .safety, .trace] (maskBody body) fun m s => s.subscribe l m)

/-! ### Reset causes and RESET (R190, R192) -/

/-- R192: CLEAR_RESET_CAUSES. -/
def State.clearResetCauses (s : State) : Served := (s.setRtr { s.rtr with causes := ⟨false, false, false⟩ }).done

/-- R192. -/
def execClearResetCauses (l : Link) (body : List Byte) (s : State) : Host.Outcome State Fault Refusal :=
  .next (s.serve l 0x1A [.machine] (emptyBody body) fun _ s => s.clearResetCauses)

/-- R190: RESET is answered OK, and the reset is taken at the end of that reply. -/
def execReset (l : Link) (body : List Byte) (s : State) : Host.Outcome State Fault Refusal :=
  .next (s.serve l 0x1D [.machine] (emptyBody body) fun _ s => s.done)

end Sys2Proof.Machine
end

