-- ==== Sys2Proof/Machine/Clock.lean ====
section
/-! DEFINITION. The run clock, the timers that pass with it, the retained record across resets, the three reset sources and the
output lines (chapter 11, R188). -/

namespace Sys2Proof.Machine

/-! ### The run clock (R189) -/

def Trk.tick (t : Trk) : Trk := { t with speedTimer := t.speedTimer.tick, stallTimer := t.stallTimer.tick }

def Saq.tick (q : Saq) : Saq :=
  { q with
    passTimer := q.passTimer.tick, priorityTimer := q.priorityTimer.tick, contactTimer := q.contactTimer.tick }

def Znc.tick (z : Znc) : Znc := { z with windowTimer := z.windowTimer.tick }

/-- R109: the feeding accumulator counts while the feeder is FEEDING; its return to 0 is FEEDING_SECOND's. -/
def Pot.tick (p : Pot) : Pot :=
  { p with
    windowTimer := p.windowTimer.tick, minuteTimer := p.minuteTimer.tick, settleTimer := p.settleTimer.tick,
    riseTimer := p.riseTimer.tick, pumpRunTimer := p.pumpRunTimer.tick,
    feedAccMs := if p.feeder = .feeding then satAdd 999 p.feedAccMs Config.tickMs else p.feedAccMs }

def Exm.tick (e : Exm) : Exm :=
  { e with
    recoveryTimer := e.recoveryTimer.tick, fanTimers := ⟨e.fanTimers.fst.tick, e.fanTimers.snd.tick⟩,
    filterTimer := e.filterTimer.tick }

def Lmc.tick (l : Lmc) : Lmc :=
  { l with idleTimer := l.idleTimer.tick, supervision := { l.supervision with timer := l.supervision.timer.tick } }

def LinkState.tick (k : LinkState) : LinkState := { k with receiver := { k.receiver with timer := k.receiver.timer.tick } }

/-- R189: 100 ms pass. The run clock advances, wrapping, and every running timer has 100 ms less left. -/
def State.tick (s : State) : State :=
  { s with
    clock := s.clock + 1, trk := s.trk.tick, saq := s.saq.tick, znc := s.znc.tick, pot := s.pot.tick, exm := s.exm.tick,
    lmc := s.lmc.tick, links := s.links.map LinkState.tick }

/-- R189. -/
def execRunClockTick (s : State) : Host.Outcome State Fault Refusal := .next s.tick

/-! ### Resets (R190, R191) -/

/-- The sources of reset (R190). -/
inductive ResetSource | powerOn | external | commanded
deriving DecidableEq, Repr

/-- R191: a source joins the reset-cause set. -/
def ResetCauses.add (c : ResetCauses) : ResetSource → ResetCauses
  | .powerOn => { c with powerOn := true }
  | .external => { c with external := true }
  | .commanded => { c with commanded := true }

/-- R191: the retained record after a reset. -/
def Rtr.afterReset (r : Rtr) : ResetSource → Rtr
  | .powerOn => .powerOn
  | .external => { r with causes := r.causes.add .external }
  | .commanded => { r with causes := r.causes.add .commanded }

/-- R63: FLX before its evaluation of the restored amounts. -/
def Flx.restored (r : Rtr) : Flx :=
  { Flx.reset with amounts := r.amounts, activeTank := r.activeTank, tankLow := false, supplyEmpty := false }

/-- R190, R191: every block takes its reset values, and FLX evaluates the amounts of the retained record (R60, R61). The model's
queue and its count of free values are no state of the part and stay. -/
def State.restart (r : Rtr) (s : State) : State :=
  ({ State.reset with
      flx := .restored r, rtr := r, resetPin := s.resetPin, pending := s.pending, posted := [],
      freeCount := s.freeCount : State }.evalTankLow).evalSupplyEmpty

/-- R190, R39: a reset from a source, with the contact pass that runs at it. FLX's raises are posted before the pass's transitions
(assumption 40, DESIGN CHOICE). -/
def State.resetFrom (src : ResetSource) (inputs : ContactInputs) (s : State) : State :=
  (s.restart (s.rtr.afterReset src)).contactPass inputs

/-- R190: a supply rise while the pin is low makes the hold part of the POWER_ON reset. -/
def ResetPin.afterPowerOn : ResetPin → ResetPin
  | .high => .high
  | .low | .lowSincePowerOn => .lowSincePowerOn

/-- R190: POWER_ON. -/
def execPowerOnReset (inputs : ContactInputs) (s : State) : Host.Outcome State Fault Refusal :=
  .next ((s.setResetPin s.resetPin.afterPowerOn).resetFrom .powerOn inputs)

/-- R190: the release of the pin. One held since a supply rise ends the POWER_ON reset and adds no cause. A pin that is high
is not released; EXTERNAL_RESET then is taken as a hold and its release in one (assumption 38, DESIGN CHOICE). -/
def execExternalReset (inputs : ContactInputs) (s : State) : Host.Outcome State Fault Refusal :=
  let s' := s.setResetPin .high
  .next (match s.resetPin with
    | .lowSincePowerOn => (s'.restart s'.rtr).contactPass inputs
    | .high | .low => s'.resetFrom .external inputs)

/-- R190: a reply to RESET is being sent, whose end is a COMMANDED reset. -/
def State.resetDue (s : State) : Bool :=
  match s.links.machine.sending with
  | some r => r.resets .machine
  | none => false

/-- R190: COMMANDED, at the end of the OK reply to RESET; without such a reply there is no such end. (Assumption 6,
DESIGN CHOICE.) -/
def execCommandedReset (inputs : ContactInputs) (s : State) : Host.Outcome State Fault Refusal :=
  .next (if s.resetDue then s.resetFrom .commanded inputs else s)

/-- R190: the reset pin is held low; the field outputs stand in their reset states until it is released. (Assumption
7, DEDUCED.) -/
def execResetPinHeldLow (s : State) : Host.Outcome State Fault Refusal :=
  .next (s.setResetPin (match s.resetPin with
    | .lowSincePowerOn => .lowSincePowerOn
    | .high | .low => .low))

/-! ### The output lines -/

/-- The output lines of the part; `attention` is true where the line is driven. -/
structure Outputs where
  zoneHeaters : PerZone Bool
  potHeater   : Bool
  valve       : Valve
  pumpSpeed   : Nat
  feeder      : Bool
  fans        : Pair Bool
  ready       : Bool
  attention   : PerLink Bool
deriving DecidableEq, Repr

/-- R190: the outputs at and after any reset. -/
def Outputs.atReset : Outputs :=
  { zoneHeaters := ⟨false, false, false⟩, potHeater := false, valve := .closed, pumpSpeed := 0, feeder := false,
    fans := ⟨true, false⟩, ready := false, attention := ⟨false, false, false⟩ }

/-- R188: the attention line is driven while the queue holds a record. -/
def LinkState.attention (k : LinkState) : Bool := !k.queue.isEmpty

/-- R190: the outputs: held in their reset states while the pin is low, else each follows its own block (R11, R47, R70, R102,
R108, R117, R122, R188). -/
def State.outputs (s : State) : Outputs :=
  if s.resetPin = .high then
    { zoneHeaters := s.znc.zones.map (·.output), potHeater := s.pot.heat.output, valve := s.flx.valve,
      pumpSpeed := s.pot.pumpSpeed, feeder := s.pot.feeder == .feeding, fans := s.exm.outputs, ready := s.trk.ready,
      attention := s.links.map LinkState.attention }
  else .atReset

end Sys2Proof.Machine
end

