-- ==== Sys2Proof/Machine/Receiver.lean ====
section
/-! DEFINITION. The receivers of the three links: a frame's characters, its check, and what its completion carries out (R173 to
R175, R178). -/

namespace Sys2Proof.Machine

/-! ### The request a frame makes -/

/-- R181: the request that a kind byte and a body make on a link, where the kind byte names one. The kind of FORCE_SIGNAL
stands for two rows of the table, told apart by the signal type. -/
def requestOf (l : Link) (kind : Nat) (body : List Byte) : Option Instr :=
  match kind with
  | 0x01 => some (.readStatus l body) | 0x02 => some (.readBoard l body) | 0x03 => some (.readTable l body)
  | 0x04 => some (.readAlarms l body) | 0x05 => some (.ackAlarm l body) | 0x06 => some (.writeConfig l body)
  | 0x07 => some (.writeBank l body) | 0x08 => some (.setZonesAll l body) | 0x09 => some (.validateBank l body)
  | 0x0A => some (.swapBank l body) | 0x0B => some (.cancelSwap l body) | 0x0C => some (.warmup l body)
  | 0x0D => some (.start l body) | 0x0E => some (.stop l body) | 0x0F => some (.stopHeat l body)
  | 0x10 => some (.enterMaintenance l body) | 0x11 => some (.leaveMaintenance l body)
  | 0x12 => some (if body.head? = some 1 then .forceSignalContact l body else .forceSignalChannel l body)
  | 0x13 => some (.releaseForce l body) | 0x14 => some (.clearTrack l body) | 0x15 => some (.refill l body)
  | 0x16 => some (.selectTank l body) | 0x17 => some (.selectFan l body) | 0x18 => some (.clearStamps l body)
  | 0x19 => some (.readRetained l body) | 0x1A => some (.clearResetCauses l body) | 0x1B => some (.readEvents l body)
  | 0x1C => some (.subscribe l body) | 0x1D => some (.reset l body) | 0x1E => some (.assertInhibit l body)
  | 0x1F => some (.releaseInhibit l body) | 0x20 => some (.forceSafe l body) | 0x21 => some (.releaseSafe l body)
  | 0x22 => some (.supervise l body) | 0x23 => some (.pushIdentity l body) | 0x24 => some (.flushIdentities l body)
  | 0x25 => some (.takeExitRecord l body)
  | _ => none

/-- R175: the request of a valid frame is carried out, in the step of the frame's last character; a kind byte that names no
request is answered so. -/
def State.carryOut (l : Link) (kind : Byte) (body : List Byte) (s : State) : Host.Outcome State Fault Refusal :=
  match requestOf l kind.toNat body with
  | some (.readStatus l body) => execReadStatus l body s
  | some (.readBoard l body) => execReadBoard l body s
  | some (.readTable l body) => execReadTable l body s
  | some (.readAlarms l body) => execReadAlarms l body s
  | some (.ackAlarm l body) => execAckAlarm l body s
  | some (.writeConfig l body) => execWriteConfig l body s
  | some (.writeBank l body) => execWriteBank l body s
  | some (.setZonesAll l body) => execSetZonesAll l body s
  | some (.validateBank l body) => execValidateBank l body s
  | some (.swapBank l body) => execSwapBank l body s
  | some (.cancelSwap l body) => execCancelSwap l body s
  | some (.warmup l body) => execWarmup l body s
  | some (.start l body) => execStart l body s
  | some (.stop l body) => execStop l body s
  | some (.stopHeat l body) => execStopHeat l body s
  | some (.enterMaintenance l body) => execEnterMaintenance l body s
  | some (.leaveMaintenance l body) => execLeaveMaintenance l body s
  | some (.forceSignalContact l body) => execForceSignalContact l body s
  | some (.forceSignalChannel l body) => execForceSignalChannel l body s
  | some (.releaseForce l body) => execReleaseForce l body s
  | some (.clearTrack l body) => execClearTrack l body s
  | some (.refill l body) => execRefill l body s
  | some (.selectTank l body) => execSelectTank l body s
  | some (.selectFan l body) => execSelectFan l body s
  | some (.clearStamps l body) => execClearStamps l body s
  | some (.readRetained l body) => execReadRetained l body s
  | some (.clearResetCauses l body) => execClearResetCauses l body s
  | some (.readEvents l body) => execReadEvents l body s
  | some (.subscribe l body) => execSubscribe l body s
  | some (.reset l body) => execReset l body s
  | some (.assertInhibit l body) => execAssertInhibit l body s
  | some (.releaseInhibit l body) => execReleaseInhibit l body s
  | some (.forceSafe l body) => execForceSafe l body s
  | some (.releaseSafe l body) => execReleaseSafe l body s
  | some (.supervise l body) => execSupervise l body s
  | some (.pushIdentity l body) => execPushIdentity l body s
  | some (.flushIdentities l body) => execFlushIdentities l body s
  | some (.takeExitRecord l body) => execTakeExitRecord l body s
  | _ => execUnknownKind l kind body s

/-! ### The receiver (R173, R174) -/

/-- R174, R178: a bad frame has ended; it is answered FRAME_BAD at once, or joins the owed replies. -/
def State.frameBad (l : Link) (kind : Option Byte) (s : State) : State :=
  let k := kind.getD 0x00
  if (s.link l).sending.isSome then s.owe l k .frameBad else s.reply l k .frameBad []

/-- R174: the check of the bytes of a complete frame, from the length byte to the check characters. -/
def frameGood (bs : List Byte) : Bool :=
  let n := bs.length - 2
  checkBytes (bs.take n) == bs.drop n

/-- R173 to R175: a complete frame is checked, and a valid one is taken. Its bytes are the length, the kind, the body and two
check characters. -/
def State.frameComplete (l : Link) (bs : List Byte) (s : State) : Host.Outcome State Fault Refusal :=
  if frameGood bs then s.carryOut l (bs.getD 1 0x00) ((bs.drop 2).take (bs.length - 4))
  else .next ((s.receiverToHunt l).frameBad l bs[1]?)

/-- R173: a character received with a good stop bit. -/
def State.receive (l : Link) (c : Byte) (s : State) : Host.Outcome State Fault Refusal :=
  let k := s.link l
  let rx := k.receiver
  match rx.state with
  | .hunt =>
    .next (if c = 0xA5 then
        s.setLink l { k with receiver := { state := .length, bytes := [], timer := .start Config.frameMs } }
      else s)
  | .length =>
    .next (if 1 ≤ c.toNat ∧ c.toNat ≤ 250 then
        s.setLink l { k with receiver := { rx with state := .body (c.toNat + 2), bytes := [c] } }
      else (s.receiverToHunt l).frameBad l none)
  | .body expected =>
    let bs := rx.bytes ++ [c]
    if bs.length = expected + 1 then s.frameComplete l bs
    else .next (s.setLink l { k with receiver := { rx with bytes := bs } })

/-- R173: a character received; one with a bad stop bit is discarded in every state. (Assumption 23, DEDUCED.) The last character
of a valid frame carries out the frame's request, as that request's own row does (assumption 2, DESIGN CHOICE). -/
def execSyncByte (l : Link) (c : Byte) (stopBitGood : Bool) (s : State) : Host.Outcome State Fault Refusal :=
  if stopBitGood then s.receive l c else .next s

/-- R173, R174; the frame timer runs in LENGTH and BODY alone. -/
def execFrameTimerExpiry (l : Link) (s : State) : Host.Outcome State Fault Refusal :=
  .next (if (s.link l).receiver.timer.isRunning then
      (s.receiverToHunt l).frameBad l (s.link l).receiver.bytes[1]?
    else s)

/-- R174. -/
def execBadFrame (l : Link) (kind : Option Byte) (s : State) : Host.Outcome State Fault Refusal :=
  .next ((s.receiverToHunt l).frameBad l kind)

/-- R178: a frame that completes while a reply is in progress; where none is, no such frame can complete. (Assumption 23,
DEDUCED.) -/
def execBusyFrame (l : Link) (kind : Byte) (bad : Bool) (s : State) : Host.Outcome State Fault Refusal :=
  .next (if (s.link l).sending.isSome then
      if bad then (s.receiverToHunt l).owe l kind .frameBad else (s.received l).owe l kind .busy
    else s)

end Sys2Proof.Machine
end

