-- ==== Sys2Proof/Machine/Dispatch.lean ====
section
/-! DEFINITION. One arm per command: each calls its meaning. -/

namespace Sys2Proof.Machine

def exec (i : Instr) (s : State) : Host.Outcome State Fault Refusal :=
  match i with
  | .encoderPulse entry exit => Sys2Proof.Machine.execEncoderPulse entry exit s
  | .speedWindowExpiry => Sys2Proof.Machine.execSpeedWindowExpiry s
  | .stallTimerExpiry => Sys2Proof.Machine.execStallTimerExpiry s
  | .nozzleReached seq length => Sys2Proof.Machine.execNozzleReached seq length s
  | .cellBoundary seq cell => Sys2Proof.Machine.execCellBoundary seq cell s
  | .nozzleCleared seq => Sys2Proof.Machine.execNozzleCleared seq s
  | .gateReached seq => Sys2Proof.Machine.execGateReached seq s
  | .waveEntered seq => Sys2Proof.Machine.execWaveEntered seq s
  | .waveLeft seq => Sys2Proof.Machine.execWaveLeft seq s
  | .passTimerExpiry => Sys2Proof.Machine.execPassTimerExpiry s
  | .priorityTimerExpiry => Sys2Proof.Machine.execPriorityTimerExpiry s
  | .conversionComplete code => Sys2Proof.Machine.execConversionComplete code s
  | .zoneSampleArrival z value rep => Sys2Proof.Machine.execZoneSampleArrival z value rep s
  | .thermalSampleArrival src value rep => Sys2Proof.Machine.execThermalSampleArrival src value rep s
  | .ptsSampleArrival value rep => Sys2Proof.Machine.execPtsSampleArrival value rep s
  | .plvSampleArrival value rep => Sys2Proof.Machine.execPlvSampleArrival value rep s
  | .wvhSampleArrival value rep => Sys2Proof.Machine.execWvhSampleArrival value rep s
  | .dspSampleArrival value rep => Sys2Proof.Machine.execDspSampleArrival value rep s
  | .fdpSampleArrival value rep => Sys2Proof.Machine.execFdpSampleArrival value rep s
  | .flpSampleArrival value rep => Sys2Proof.Machine.execFlpSampleArrival value rep s
  | .contactPass inputs => Sys2Proof.Machine.execContactPass inputs s
  | .safetyContactTransition c t => Sys2Proof.Machine.execSafetyContactTransition c t s
  | .fanRunTransition f t => Sys2Proof.Machine.execFanRunTransition f t s
  | .pumpRunTransition t => Sys2Proof.Machine.execPumpRunTransition t s
  | .wirePresentTransition t => Sys2Proof.Machine.execWirePresentTransition t s
  | .upstreamAvailTransition t => Sys2Proof.Machine.execUpstreamAvailTransition t s
  | .alarmRaise a => Sys2Proof.Machine.execAlarmRaise a s
  | .alarmEnd a => Sys2Proof.Machine.execAlarmEnd a s
  | .sprayInhibitChange active => Sys2Proof.Machine.execSprayInhibitChange active s
  | .preheatInhibitChange active => Sys2Proof.Machine.execPreheatInhibitChange active s
  | .waveInhibitChange effect => Sys2Proof.Machine.execWaveInhibitChange effect s
  | .feedInhibitChange active => Sys2Proof.Machine.execFeedInhibitChange active s
  | .entryInhibitChange active => Sys2Proof.Machine.execEntryInhibitChange active s
  | .solderOccupancyArrival occupied => Sys2Proof.Machine.execSolderOccupancyArrival occupied s
  | .pumpFaultAcknowledged => Sys2Proof.Machine.execPumpFaultAcknowledged s
  | .recordIdleArrival r => Sys2Proof.Machine.execRecordIdleArrival r s
  | .safeDemand a => Sys2Proof.Machine.execSafeDemand a s
  | .lineModeArrival b m => Sys2Proof.Machine.execLineModeArrival b m s
  | .activeBankArrival b bank => Sys2Proof.Machine.execActiveBankArrival b bank s
  | .readinessArrival r => Sys2Proof.Machine.execReadinessArrival r s
  | .feederArrival state => Sys2Proof.Machine.execFeederArrival state s
  | .gatedArrival pendingBoards => Sys2Proof.Machine.execGatedArrival pendingBoards s
  | .tableEmptyArrival => Sys2Proof.Machine.execTableEmptyArrival s
  | .frameArrival => Sys2Proof.Machine.execFrameArrival s
  | .zoneHeaterWindow => Sys2Proof.Machine.execZoneHeaterWindow s
  | .zoneHeaterOnEnd z => Sys2Proof.Machine.execZoneHeaterOnEnd z s
  | .potHeaterWindow => Sys2Proof.Machine.execPotHeaterWindow s
  | .potHeaterOnEnd => Sys2Proof.Machine.execPotHeaterOnEnd s
  | .settleTimerExpiry => Sys2Proof.Machine.execSettleTimerExpiry s
  | .feedingSecond => Sys2Proof.Machine.execFeedingSecond s
  | .minuteTimerExpiry => Sys2Proof.Machine.execMinuteTimerExpiry s
  | .riseTimerExpiry => Sys2Proof.Machine.execRiseTimerExpiry s
  | .pumpRunTimerExpiry => Sys2Proof.Machine.execPumpRunTimerExpiry s
  | .recoveryTimerExpiry => Sys2Proof.Machine.execRecoveryTimerExpiry s
  | .fanFaultTimerExpiry f => Sys2Proof.Machine.execFanFaultTimerExpiry f s
  | .filterCheckTimerExpiry => Sys2Proof.Machine.execFilterCheckTimerExpiry s
  | .idleTimerExpiry => Sys2Proof.Machine.execIdleTimerExpiry s
  | .supervisionWindowExpiry => Sys2Proof.Machine.execSupervisionWindowExpiry s
  | .frameTimerExpiry l => Sys2Proof.Machine.execFrameTimerExpiry l s
  | .badFrame l kind => Sys2Proof.Machine.execBadFrame l kind s
  | .busyFrame l kind bad => Sys2Proof.Machine.execBusyFrame l kind bad s
  | .unknownKind l kind body => Sys2Proof.Machine.execUnknownKind l kind body s
  | .replyEnd l => Sys2Proof.Machine.execReplyEnd l s
  | .readStatus l body => Sys2Proof.Machine.execReadStatus l body s
  | .readBoard l body => Sys2Proof.Machine.execReadBoard l body s
  | .readTable l body => Sys2Proof.Machine.execReadTable l body s
  | .readAlarms l body => Sys2Proof.Machine.execReadAlarms l body s
  | .ackAlarm l body => Sys2Proof.Machine.execAckAlarm l body s
  | .writeConfig l body => Sys2Proof.Machine.execWriteConfig l body s
  | .writeBank l body => Sys2Proof.Machine.execWriteBank l body s
  | .setZonesAll l body => Sys2Proof.Machine.execSetZonesAll l body s
  | .validateBank l body => Sys2Proof.Machine.execValidateBank l body s
  | .swapBank l body => Sys2Proof.Machine.execSwapBank l body s
  | .cancelSwap l body => Sys2Proof.Machine.execCancelSwap l body s
  | .warmup l body => Sys2Proof.Machine.execWarmup l body s
  | .start l body => Sys2Proof.Machine.execStart l body s
  | .stop l body => Sys2Proof.Machine.execStop l body s
  | .stopHeat l body => Sys2Proof.Machine.execStopHeat l body s
  | .enterMaintenance l body => Sys2Proof.Machine.execEnterMaintenance l body s
  | .leaveMaintenance l body => Sys2Proof.Machine.execLeaveMaintenance l body s
  | .forceSignalChannel l body => Sys2Proof.Machine.execForceSignalChannel l body s
  | .forceSignalContact l body => Sys2Proof.Machine.execForceSignalContact l body s
  | .releaseForce l body => Sys2Proof.Machine.execReleaseForce l body s
  | .clearTrack l body => Sys2Proof.Machine.execClearTrack l body s
  | .refill l body => Sys2Proof.Machine.execRefill l body s
  | .selectTank l body => Sys2Proof.Machine.execSelectTank l body s
  | .selectFan l body => Sys2Proof.Machine.execSelectFan l body s
  | .clearStamps l body => Sys2Proof.Machine.execClearStamps l body s
  | .readRetained l body => Sys2Proof.Machine.execReadRetained l body s
  | .clearResetCauses l body => Sys2Proof.Machine.execClearResetCauses l body s
  | .readEvents l body => Sys2Proof.Machine.execReadEvents l body s
  | .subscribe l body => Sys2Proof.Machine.execSubscribe l body s
  | .reset l body => Sys2Proof.Machine.execReset l body s
  | .assertInhibit l body => Sys2Proof.Machine.execAssertInhibit l body s
  | .releaseInhibit l body => Sys2Proof.Machine.execReleaseInhibit l body s
  | .forceSafe l body => Sys2Proof.Machine.execForceSafe l body s
  | .releaseSafe l body => Sys2Proof.Machine.execReleaseSafe l body s
  | .supervise l body => Sys2Proof.Machine.execSupervise l body s
  | .pushIdentity l body => Sys2Proof.Machine.execPushIdentity l body s
  | .flushIdentities l body => Sys2Proof.Machine.execFlushIdentities l body s
  | .takeExitRecord l body => Sys2Proof.Machine.execTakeExitRecord l body s
  | .powerOnReset inputs => Sys2Proof.Machine.execPowerOnReset inputs s
  | .externalReset inputs => Sys2Proof.Machine.execExternalReset inputs s
  | .commandedReset inputs => Sys2Proof.Machine.execCommandedReset inputs s
  | .syncByte l c stopBitGood => Sys2Proof.Machine.execSyncByte l c stopBitGood s
  | .runClockTick => Sys2Proof.Machine.execRunClockTick s
  | .resetPinHeldLow => Sys2Proof.Machine.execResetPinHeldLow s

end Sys2Proof.Machine
end

