-- ==== Sys2Proof/Machine/Step.lean ====
section
/-! DEFINITION. One step of the block: the command at the front of the queue, else the oldest arrival waiting between the blocks,
else idle (assumption 1, DESIGN CHOICE). -/

namespace Sys2Proof.Machine

/-- One step. A command from outside goes first; with none waiting, the oldest arrival posted between the blocks is taken; with
neither, the block idles. -/
def step (s : State) : Host.Outcome State Fault Refusal :=
  match s.pending with
  | c :: rest => exec c { s with pending := rest }
  | [] =>
    match s.posted with
    | c :: _ => exec c s
    | [] => .next s

/-- The command that a table word spells is put at the front of the queue; a word that spells none changes nothing. -/
def State.withFetchWord (s : State) (nbits w : Nat) : State :=
  match decodeTableWord nbits w with
  | some c => { s with pending := c :: s.pending }
  | none => s

end Sys2Proof.Machine
end

