-- ==== Sys2Proof/Safety.lean ====
section
/-! DEFINITION. What the statements speak of: which parts of the state a command leaves alone, the table of R181 as data, and
the properties that every step keeps. -/

namespace Sys2Proof.Machine

/-! ### Frames -/

/-- The parts of the state a command can write. -/
inductive Part | trk | saq | flx | znc | pot | exm | aim | lmc | links | rtr | posted
deriving DecidableEq, Repr

/-- Everything is as it was except the parts listed. The run clock, the reset pin, the queue and the count of free values are
in no list: only the tick, the resets, the pin and a read of the machine link's status change one of them. -/
structure SameBut (ps : List Part) (s t : State) : Prop where
  trk       : Part.trk ∉ ps → t.trk = s.trk
  saq       : Part.saq ∉ ps → t.saq = s.saq
  flx       : Part.flx ∉ ps → t.flx = s.flx
  znc       : Part.znc ∉ ps → t.znc = s.znc
  pot       : Part.pot ∉ ps → t.pot = s.pot
  exm       : Part.exm ∉ ps → t.exm = s.exm
  aim       : Part.aim ∉ ps → t.aim = s.aim
  lmc       : Part.lmc ∉ ps → t.lmc = s.lmc
  links     : Part.links ∉ ps → t.links = s.links
  rtr       : Part.rtr ∉ ps → t.rtr = s.rtr
  posted    : Part.posted ∉ ps → t.posted = s.posted
  clock     : t.clock = s.clock
  resetPin  : t.resetPin = s.resetPin
  pending   : t.pending = s.pending
  freeCount : t.freeCount = s.freeCount

/-- The parts that a command may write, whatever it finds; a request beside its own part writes its link's record, and posts. The
last character of a frame writes what the frame's request writes. -/
def touches : Instr → List Part
  | .encoderPulse _ _ => [.trk, .flx, .pot, .links, .posted]
  | .speedWindowExpiry => [.trk]
  | .stallTimerExpiry => [.trk, .flx, .posted]
  | .nozzleReached _ _ | .cellBoundary _ _ => [.trk, .flx, .rtr, .links, .posted]
  | .nozzleCleared _ | .sprayInhibitChange _ | .flpSampleArrival _ _ => [.trk, .flx, .posted]
  | .gateReached _ => [.trk, .pot, .links, .posted]
  | .waveEntered _ | .waveLeft _ | .ptsSampleArrival _ _ | .wvhSampleArrival _ _ | .waveInhibitChange _ =>
    [.trk, .pot, .posted]
  | .passTimerExpiry | .priorityTimerExpiry => [.saq]
  | .conversionComplete _ | .contactPass _ => [.saq, .posted]
  | .zoneSampleArrival _ _ _ | .preheatInhibitChange _ => [.znc, .posted]
  | .thermalSampleArrival _ _ _ | .entryInhibitChange _ => [.trk, .posted]
  | .plvSampleArrival _ _ | .pumpRunTransition _ | .wirePresentTransition _ | .feedInhibitChange _ | .pumpFaultAcknowledged
  | .recordIdleArrival _ | .settleTimerExpiry | .minuteTimerExpiry | .riseTimerExpiry | .pumpRunTimerExpiry => [.pot, .posted]
  | .dspSampleArrival _ _ => [.exm, .links, .posted]
  | .fdpSampleArrival _ _ | .fanRunTransition _ _ | .recoveryTimerExpiry | .fanFaultTimerExpiry _
  | .filterCheckTimerExpiry => [.exm, .posted]
  | .safetyContactTransition _ _ => [.aim, .posted]
  | .alarmRaise _ | .alarmEnd _ | .solderOccupancyArrival _ => [.aim, .links, .posted]
  | .upstreamAvailTransition _ | .safeDemand _ | .readinessArrival _ | .feederArrival _ | .gatedArrival _
  | .tableEmptyArrival | .idleTimerExpiry => [.lmc, .links, .posted]
  | .frameArrival | .supervisionWindowExpiry => [.lmc, .posted]
  | .lineModeArrival .znc _ => [.znc, .lmc, .posted]
  | .lineModeArrival .pot _ => [.trk, .pot, .lmc, .posted]
  | .activeBankArrival .znc _ => [.znc, .lmc, .links, .posted]
  | .activeBankArrival .pot _ => [.trk, .pot, .lmc, .links, .posted]
  | .lineModeArrival .flx _ => [.trk, .flx, .posted]
  | .activeBankArrival .flx _ => [.flx, .posted]
  | .lineModeArrival .trk _ | .activeBankArrival .trk _ => [.trk, .posted]
  | .lineModeArrival .exm _ => [.exm, .posted]
  | .zoneHeaterWindow | .zoneHeaterOnEnd _ => [.znc]
  | .potHeaterWindow | .potHeaterOnEnd => [.pot]
  | .feedingSecond => [.pot, .rtr, .posted]
  | .frameTimerExpiry _ | .badFrame _ _ | .replyEnd _ => [.links]
  | .busyFrame _ _ _ | .unknownKind _ _ _ => [.links, .posted]
  | .syncByte _ _ _ => [.trk, .saq, .flx, .znc, .pot, .exm, .aim, .lmc, .links, .rtr, .posted]
  | .readStatus _ _ | .readBoard _ _ | .readTable _ _ | .readAlarms _ _ | .readRetained _ _ | .readEvents _ _
  | .subscribe _ _ | .reset _ _ => [.links, .posted]
  | .ackAlarm _ _ | .assertInhibit _ _ | .releaseInhibit _ _ => [.aim, .links, .posted]
  | .writeConfig _ _ => [.trk, .saq, .flx, .znc, .pot, .exm, .lmc, .links, .posted]
  | .writeBank _ _ | .setZonesAll _ _ | .validateBank _ _ | .swapBank _ _ | .cancelSwap _ _ | .warmup _ _ | .start _ _
  | .stop _ _ | .stopHeat _ _ | .enterMaintenance _ _ | .forceSafe _ _ | .releaseSafe _ _ | .supervise _ _ =>
    [.lmc, .links, .posted]
  | .leaveMaintenance _ _ => [.saq, .lmc, .links, .posted]
  | .forceSignalChannel _ _ | .forceSignalContact _ _ | .releaseForce _ _ => [.saq, .links, .posted]
  | .clearTrack _ _ => [.trk, .flx, .pot, .links, .posted]
  | .refill _ _ | .selectTank _ _ => [.flx, .rtr, .links, .posted]
  | .selectFan _ _ | .clearStamps _ _ => [.exm, .links, .posted]
  | .clearResetCauses _ _ => [.rtr, .links, .posted]
  | .pushIdentity _ _ | .flushIdentities _ _ | .takeExitRecord _ _ => [.trk, .links, .posted]
  | .runClockTick | .powerOnReset _ | .externalReset _ | .commandedReset _ | .resetPinHeldLow =>
    [.trk, .saq, .flx, .znc, .pot, .exm, .aim, .lmc, .links, .rtr, .posted]

/-- The commands that may write the run clock, the reset pin or the count of free values; the last character of a frame may
carry out a READ_STATUS. -/
def timeOrReset : Instr → Bool
  | .runClockTick | .powerOnReset _ | .externalReset _ | .commandedReset _ | .resetPinHeldLow | .readStatus .machine _
  | .syncByte .machine _ _ => true
  | _ => false

/-! ### Runs of commands -/

/-- The commands of a list, one after another, from a state. -/
def execAll : List Instr → State → Host.Outcome State Fault Refusal
  | [], s => .next s
  | c :: cs, s =>
    match exec c s with
    | .next t => execAll cs t
    | .fault f => .fault f
    | .refused r => .refused r

/-! ### The table of R181, as data -/

/-- R181: the links that may send a kind. -/
def permitted (kind : Nat) : List Link :=
  if kind ∈ [0x01, 0x1B, 0x1C] then [.machine, .safety, .trace]
  else if kind = 0x02 then [.machine, .trace]
  else if kind ∈ [0x04, 0x05] then [.machine, .safety]
  else if kind ∈ [0x1E, 0x1F, 0x20, 0x21, 0x22] then [.safety]
  else if kind ∈ [0x23, 0x24, 0x25] then [.trace]
  else [.machine]

/-- R181: the length of a kind's request body where the table fixes it. -/
def bodyLength? (kind : Nat) : Option Nat :=
  if kind ∈ [0x06, 0x07, 0x12, 0x23] then none
  else if kind ∈ [0x04, 0x05, 0x16, 0x17, 0x1C, 0x1E, 0x1F] then some 1
  else if kind ∈ [0x02, 0x08, 0x13, 0x22] then some 2
  else if kind = 0x15 then some 5
  else some 0

/-! ### Properties that every step keeps -/

/-- R57, R191: the retained record holds the tank amounts and the active tank as FLX has them. -/
def TanksRetained (s : State) : Prop := s.rtr.amounts = s.flx.amounts ∧ s.rtr.activeTank = s.flx.activeTank

/-- R13: the table holds at most 16 records, table and log together at most 32, and READY is high only while there is a free
slot and that number is below 24. -/
def WithinCapacity (s : State) : Prop :=
  s.trk.table.length ≤ 16 ∧ s.trk.table.length + s.trk.exitLog.length ≤ 32 ∧
    (s.trk.ready = true → s.trk.table.length < 16 ∧ s.trk.table.length + s.trk.exitLog.length < 24)

/-- R122, R125 to R127: the outputs, counts, recovery timer and conditions that each duct state goes with. -/
def DuctSound (s : State) : Prop :=
  let e := s.exm
  e.outputs.fan e.duty = true ∧
  (e.duct = .changeover → e.outputs.fan e.duty.other = false) ∧
  (e.duct = .lost → e.outputs.fan e.duty.other = true) ∧
  (e.recoveryTimer.isRunning = true ↔ e.duct = .changeover) ∧
  (e.ductLow = true ↔ e.duct ≠ .normal) ∧
  (e.extractionLost = true ↔ e.duct = .lost) ∧
  (e.duct = .normal → e.recoveryCount = 0) ∧
  (e.duct ≠ .normal → e.lowCount = 0)

/-- R52: the valve is open only over a board in spray, in a cell that has been SPRAYED, with the SPRAY inhibit inactive and the
line mode one of PRODUCTION, CHANGEOVER and DRAIN, as FLX took them last (assumption 33). -/
def ValveSound (s : State) : Prop :=
  s.flx.valve = .opened → s.flx.board ≠ none ∧ s.flx.outcome = .sprayed ∧ s.flx.sprayInhibit = false ∧
    s.flx.mode.running = true

/-- R114, R115, R117: the wave is up or moving only while the pot is READY, and an OFF wave has the pump at 0 and the rise
timer stopped. -/
def WaveSound (s : State) : Prop :=
  (s.pot.heat.state ≠ .ready → s.pot.wave = .off) ∧
    (s.pot.wave = .off → s.pot.pumpSpeed = 0 ∧ s.pot.riseTimer = .stopped)

/-- R178, R186: a link's owed replies and event queue stay within their room, and replies are owed only while one is being sent. -/
def LinkSound (k : LinkState) : Prop :=
  k.owed.length ≤ 4 ∧ k.queue.length ≤ 16 ∧ (k.sending = none → k.owed = [])

/-- R178, R186, for the three links. -/
def LinksSound (s : State) : Prop := LinkSound s.links.machine ∧ LinkSound s.links.safety ∧ LinkSound s.links.trace

/-- R137: a record in IDLE has count 0 and no stamps; any other has a count from 1 to 255 and both stamps; and R140: one that
is not latching is never RETURNED_UNACK. -/
def RecordSound (latching : Bool) (r : AlarmRecord) : Prop :=
  (r.state = .idle → r.count = 0 ∧ r.first = none ∧ r.last = none) ∧
  (r.state ≠ .idle → 1 ≤ r.count ∧ r.count ≤ 255 ∧ r.first.isSome = true ∧ r.last.isSome = true) ∧
  (latching = false → r.state ≠ .returnedUnack)

/-- R137, R140, for every record. -/
def AlarmsSound (s : State) : Prop := ∀ i : AlarmId, RecordSound (alarmLatching i) s.aim.records[i]

/-- R148: the WAVE effect state is INACTIVE exactly while the cause set is empty, and PENDING only with deferred causes alone
and a SOLDER board on the wave. -/
def WaveEffectSound (s : State) : Prop :=
  (s.aim.waveEffect = .inactive ↔ s.aim.inhibitActive .wave = false) ∧
    (s.aim.waveEffect = .pending → s.aim.waveImmediate = false ∧ s.aim.solderOcc = true)

/-! ### Reading an item back -/

/-- The value of a geometry item. -/
def Geometry.read (g : Geometry) : GeometryItem → Nat
  | .trim => g.trim | .pFlux => g.pFlux | .pNozzle => g.pNozzle | .ph1 => g.ph1 | .ph2 => g.ph2 | .ph3 => g.ph3
  | .pGate => g.pGate | .pWave => g.pWave | .wMargin => g.wMargin | .pExit => g.pExit | .tolerance => g.tolerance

/-- The value of a channel item. -/
def ChannelItems.read (c : ChannelItems) : ChannelItem → Int
  | .gain => c.gain | .offset => c.offset | .low => c.low | .high => c.high

/-- The value of a machine configuration item, with flags as 0 and 1. -/
def State.configValue (s : State) : ConfigItem → Int
  | .geometry g => s.trk.geometry.read g
  | .idRequired => if s.trk.idRequired then 1 else 0
  | .channel c k => s.saq.items[c.index].read k
  | .tankLow => s.flx.lowThreshold
  | .fluxPressureMin => s.flx.pressureMin
  | .zoneKp z => s.znc.kp.get z
  | .zoneKi z => s.znc.ki.get z
  | .zoneMargin => s.znc.margin
  | .potKp => s.pot.items.kp
  | .potKi => s.pot.items.ki
  | .potMargin => s.pot.items.margin
  | .pumpSafe => s.pot.items.pumpSafe
  | .potHold => if s.pot.items.holdEnabled then 1 else 0
  | .holdSetpoint => s.pot.items.holdSetpoint
  | .alpha => s.pot.items.alpha
  | .tRef => s.pot.items.tRef
  | .dPump => s.pot.items.dPump
  | .levelMin => s.pot.items.levelMin
  | .feedOn => s.pot.items.feedOn
  | .feedOff => s.pot.items.feedOff
  | .levelMax => s.pot.items.levelMax
  | .budget => s.pot.items.budget
  | .ductTrip => s.exm.items.ductTrip
  | .ductHyst => s.exm.items.ductHyst
  | .filterWarn => s.exm.items.filterWarn
  | .filterBlock => s.exm.items.filterBlock
  | .filterHyst => s.exm.items.filterHyst
  | .idleTimeout => s.lmc.idleTimeout
  | .wake => if s.lmc.wakeEnabled then 1 else 0

/-- The value of a numeric bank item. -/
def BankItems.read (b : BankItems) : BankNumber → Nat
  | .zoneSetpoint z => b.zoneSetpoint.get z
  | .zoneBand z => b.zoneBand.get z
  | .zoneSetback => b.zoneSetback
  | .potSetpoint => b.potSetpoint
  | .potBand => b.potBand
  | .potSetback => b.potSetback
  | .minLength => b.minLength
  | .maxLength => b.maxLength
  | .minGap => b.minGap
  | .fluxMinimum => b.fluxMinimum
  | .coupling z => b.coupling.get z
  | .couplingAmb => b.couplingAmb
  | .soakThreshold => b.soakThreshold
  | .soakMinimum => b.soakMinimum
  | .tMin => b.tMin
  | .tMax => b.tMax
  | .waveSpeed => b.waveSpeed
  | .dipSpeed => b.dipSpeed
  | .hLo => b.hLo
  | .hDip => b.hDip

/-- R5, R6, R11, R31, R60, R62, R65, R98, R105, R107, R123, R159: every machine configuration item lies in its range, and the
conditions between items hold. -/
def ConfigSound (s : State) : Prop :=
  (∀ i : ConfigItem, i.inRange (s.configValue i) = true) ∧ s.trk.geometry.valid = true ∧
    (∀ c : Channel, s.saq.items[c.index].low < s.saq.items[c.index].high) ∧ s.pot.items.levelsOrdered = true ∧
    s.exm.items.valid = true

/-- R45, R46, R164: every item of a bank lies in its range, action 0 included, which never sprays. -/
structure BankItemsSound (b : BankItems) : Prop where
  zones     : ∀ z, 500 ≤ b.zoneSetpoint.get z ∧ b.zoneSetpoint.get z ≤ 3500 ∧ 20 ≤ b.zoneBand.get z ∧ b.zoneBand.get z ≤ 200
  coupling  : ∀ z, 1 ≤ b.coupling.get z ∧ b.coupling.get z ≤ 4095
  ambient   : 1 ≤ b.couplingAmb ∧ b.couplingAmb ≤ 4095
  setbacks  : b.zoneSetback ≤ 1500 ∧ b.potSetback ≤ 1000
  pot       : 2000 ≤ b.potSetpoint ∧ b.potSetpoint ≤ 3200 ∧ 20 ≤ b.potBand ∧ b.potBand ≤ 200
  lengths   : 120 ≤ b.minLength ∧ b.minLength ≤ 1200 ∧ 120 ≤ b.maxLength ∧ b.maxLength ≤ 1200 ∧ b.minGap ≤ 4000
  actions   : ∀ n : Fin 8, 1 ≤ b.actions[n].dose ∧ b.actions[n].dose ≤ 255
  noSpray   : b.actions[(0 : Fin 8)].spray = false
  map       : 1 ≤ b.map.length ∧ b.map.length ≤ 32 ∧ ∀ r ∈ b.map, 1 ≤ r.cells ∧ r.cells ≤ 255
  thermal   : b.fluxMinimum ≤ 65535 ∧ b.soakThreshold ≤ 4000 ∧ b.soakMinimum ≤ 65535 ∧ b.tMin ≤ 4000 ∧ b.tMax ≤ 4000
  wave      : b.waveSpeed ≤ 1000 ∧ b.dipSpeed ≤ 1000 ∧ b.hLo ≤ 3000 ∧ b.hDip ≤ 3000

/-- R164, for the two banks: an EMPTY one holds no items. -/
def BanksSound (s : State) : Prop := ∀ (b : BankId) (i : BankItems), (s.lmc.bank b).held? = some i → BankItemsSound i

end Sys2Proof.Machine
end

