-- ==== Sys2Proof/Certificates/Slice0/Obligations.lean ====
section
/-! DEFINITION. The statements about the CW418, for the provers. Each name says what it states. -/

open Sys2Proof Sys2Proof.Machine

/-! ### The block as a whole -/

/-- The model's choice (assumption 1): a step takes the command at the front of the queue and runs it with the rest of the queue.
-/
def Obligations.StepRunsFrontCommand : Prop :=
  ∀ (c : Instr) (rest : List Instr) (s : State), s.pending = c :: rest → step s = exec c { s with pending := rest }

/-- Every command of the table answers a next state from every state (the model's choice where the manual gives no such step,
assumptions 29 and 32). But for time, the resets, the pin, and READ_STATUS on the machine link or a character of a frame
that may carry it, it writes no part of the state outside its own list: the run clock, the reset pin, the queue and the count of
free values stay. -/
def Obligations.EveryCommandCompletesInItsParts : Prop :=
  ∀ (c : Instr) (s : State), ∃ t, exec c s = .next t ∧ (timeOrReset c = false → SameBut (touches c) s t)

/-- R189, and the model's choice (assumption 3): a tick advances the run clock, modulo 2^32, and takes 100 ms off every running
timer. The feeding accumulator grows while the feeder is FEEDING. Nothing else changes. -/
def Obligations.RunClockTickPassesATenth : Prop :=
  (∀ n, (Timer.running n).tick = .running (n - 100)) ∧ Timer.stopped.tick = .stopped ∧ Timer.expired.tick = .expired ∧
  ∀ s : State, ∃ t, exec .runClockTick s = .next t ∧
    t.clock = s.clock + 1 ∧
    t.trk = { s.trk with speedTimer := s.trk.speedTimer.tick, stallTimer := s.trk.stallTimer.tick } ∧
    t.saq = { s.saq with
      passTimer := s.saq.passTimer.tick, priorityTimer := s.saq.priorityTimer.tick,
      contactTimer := s.saq.contactTimer.tick } ∧
    t.znc = { s.znc with windowTimer := s.znc.windowTimer.tick } ∧
    t.pot = { s.pot with
      windowTimer := s.pot.windowTimer.tick, minuteTimer := s.pot.minuteTimer.tick, settleTimer := s.pot.settleTimer.tick,
      riseTimer := s.pot.riseTimer.tick, pumpRunTimer := s.pot.pumpRunTimer.tick,
      feedAccMs := if s.pot.feeder = .feeding then min 999 (s.pot.feedAccMs + 100) else s.pot.feedAccMs } ∧
    t.exm = { s.exm with
      recoveryTimer := s.exm.recoveryTimer.tick, fanTimers := ⟨s.exm.fanTimers.fst.tick, s.exm.fanTimers.snd.tick⟩,
      filterTimer := s.exm.filterTimer.tick } ∧
    t.lmc = { s.lmc with
      idleTimer := s.lmc.idleTimer.tick,
      supervision := { s.lmc.supervision with timer := s.lmc.supervision.timer.tick } } ∧
    (∀ l, t.link l = { s.link l with receiver := { (s.link l).receiver with timer := (s.link l).receiver.timer.tick } }) ∧
    t.flx = s.flx ∧ t.aim = s.aim ∧ t.rtr = s.rtr ∧ t.resetPin = s.resetPin ∧ t.pending = s.pending ∧
    t.posted = s.posted ∧ t.freeCount = s.freeCount

/-! ### Links -/

/-- Assumptions 1 and 2, the model's choice: with an empty queue a step takes the oldest arrival waiting between the blocks, and
with none it idles. As a valid frame is taken its link's receiver hunts, and a frame arrival is handed on under supervision (R171),
before the request's own checks and effect. -/
def Obligations.PostingsAndRequestsAreTaken : Prop :=
  (∀ s : State, s.pending = [] →
    (∀ (c : Instr) (rest : List Instr), s.posted = c :: rest → step s = exec c s) ∧ (s.posted = [] → step s = .next s)) ∧
  (∀ (s : State) (l : Link),
    SameBut [.links, .posted] s (s.received l) ∧
    (∀ k, k ≠ l → (s.received l).link k = s.link k) ∧
    (s.received l).link l = { s.link l with receiver := .reset } ∧
    (s.received l).posted =
      s.posted ++ (if l = .safety ∧ s.lmc.supervision.running = true then [.frameArrival] else []))

/-- R175, R178, R181: a valid frame that completes while a reply is in progress is owed BUSY, or dropped where four replies are
owed. Otherwise its link is checked, and then its body's length where R181 fixes it; a request refused changes nothing else. -/
def Obligations.RequestsAreCheckedInOrder : Prop :=
  ∀ (s : State) (l : Link) (kind : Byte) (body : List Byte) (c : Instr), requestOf l kind.toNat body = some c →
    ((s.link l).sending ≠ none →
      ∃ t, exec c s = .next t ∧ SameBut [.links, .posted] s t ∧ t.posted = (s.received l).posted ∧
        (∀ k, k ≠ l → t.link k = s.link k) ∧
        t.link l = { (s.received l).link l with
          owed := if (s.link l).owed.length < 4 then (s.link l).owed ++ [⟨kind, .busy⟩] else (s.link l).owed }) ∧
    ((s.link l).sending = none → l ∉ permitted kind.toNat →
      exec c s = .next ((s.received l).reply l kind .notPermitted [])) ∧
    (∀ n, (s.link l).sending = none → l ∈ permitted kind.toNat → bodyLength? kind.toNat = some n → body.length ≠ n →
      exec c s = .next ((s.received l).reply l kind .invalid []))

/-- R173 to R175, R178: how a character moves a receiver, and what a frame whose check fails comes to. The last character of a valid
frame does, in its own step, what the command of the frame's request does, or of its unknown kind (the model's choice, assumption
2): the request is carried out at that moment, or, where a reply is in progress, the frame is what BUSY_FRAME says. -/
def Obligations.CharactersMoveTheReceiver : Prop :=
  ∀ (s : State) (l : Link) (c : Byte),
    exec (.syncByte l c false) s = .next s ∧
    ((s.link l).receiver.state = .hunt →
      exec (.syncByte l c true) s = .next (if c = 0xA5 then
        s.setLink l { s.link l with receiver := { state := .length, bytes := [], timer := .running 50 } } else s)) ∧
    ((s.link l).receiver.state = .length →
      (1 ≤ c.toNat → c.toNat ≤ 250 → exec (.syncByte l c true) s = .next
        (s.setLink l { s.link l with
          receiver := { state := .body (c.toNat + 2), bytes := [c], timer := (s.link l).receiver.timer } })) ∧
      ((c.toNat = 0 ∨ 251 ≤ c.toNat) →
        exec (.syncByte l c true) s = exec (.badFrame l none) s)) ∧
    (∀ n, (s.link l).receiver.state = .body n → (s.link l).receiver.bytes.length < n →
      exec (.syncByte l c true) s = .next
        (s.setLink l { s.link l with
          receiver := { (s.link l).receiver with bytes := (s.link l).receiver.bytes ++ [c] } })) ∧
    (∀ n, (s.link l).receiver.state = .body n → (s.link l).receiver.bytes.length = n →
      frameGood ((s.link l).receiver.bytes ++ [c]) = false →
      exec (.syncByte l c true) s = exec (.badFrame l ((s.link l).receiver.bytes ++ [c])[1]?) s) ∧
    (∀ n, (s.link l).receiver.state = .body n → (s.link l).receiver.bytes.length = n →
      ∀ (len kind : Byte) (body : List Byte) (hi lo : Byte),
      (s.link l).receiver.bytes ++ [c] = len :: kind :: (body ++ [hi, lo]) →
      bytesOf 2 (crc16 (len :: kind :: body)).toNat = [hi, lo] →
      exec (.syncByte l c true) s = exec ((requestOf l kind.toNat body).getD (.unknownKind l kind body)) s ∧
      ((s.link l).sending ≠ none → exec (.syncByte l c true) s = exec (.busyFrame l kind false) s))

/-- R173 to R175, R178, R181: the characters of a whole frame, one after another from HUNT, do what the command of the request that
its kind byte and body make does, or of the unknown kind (the model's choice, assumption 2): on an IDLE link the request is carried
out and its reply begins, and while a reply is in progress the frame is owed BUSY, or dropped where four replies are owed. -/
def Obligations.FrameIsReceivedWhole : Prop :=
  ∀ (s : State) (l : Link) (kind : Byte) (body : List Byte), body.length ≤ 249 →
    (s.link l).receiver.state = .hunt →
    execAll ((frameOf (kind :: body)).map fun c => .syncByte l c true) s =
      exec ((requestOf l kind.toNat body).getD (.unknownKind l kind body)) s ∧
    ((s.link l).sending ≠ none → execAll ((frameOf (kind :: body)).map fun c => .syncByte l c true) s =
      .next ((s.setLink l { s.link l with
          receiver := .reset,
          owed := if (s.link l).owed.length < 4 then (s.link l).owed ++ [⟨kind, .busy⟩] else (s.link l).owed }).post
        (if l = .safety ∧ s.lmc.supervision.running = true then [.frameArrival] else [])))

/-- R174, R175, R178: frames that are no request, and the end of a reply. On an IDLE link a bad frame is answered FRAME_BAD and an
unknown kind UNKNOWN_KIND at once; while a reply is in progress a bad frame is owed FRAME_BAD, and a valid one, of an unknown kind
too, is owed BUSY. At the end of a reply the oldest owed one is sent, or the link is IDLE. By the model's choice nothing changes at
the end of the OK reply to RESET (assumption 6), at a REPLY_END where no reply is being sent and a BUSY_FRAME on an IDLE link
(assumption 23), and at the expiry of a frame timer that does not run (assumption 5). -/
def Obligations.OtherFramesAndReplyEnds : Prop :=
  ∀ (s : State) (l : Link),
    (∀ k : Option Byte, exec (.badFrame l k) s = .next
      (if (s.link l).sending = none then (s.receiverToHunt l).reply l (k.getD 0x00) .frameBad []
        else (s.receiverToHunt l).owe l (k.getD 0x00) .frameBad)) ∧
    (exec (.frameTimerExpiry l) s =
      if (s.link l).receiver.timer.isRunning then exec (.badFrame l (s.link l).receiver.bytes[1]?) s else .next s) ∧
    (∀ (kind : Byte) (bad : Bool), (s.link l).sending = none → exec (.busyFrame l kind bad) s = .next s) ∧
    (∀ kind : Byte, (s.link l).sending ≠ none →
      exec (.busyFrame l kind true) s = .next ((s.receiverToHunt l).owe l kind .frameBad) ∧
      exec (.busyFrame l kind false) s = .next ((s.received l).owe l kind .busy)) ∧
    (∀ (kind : Byte) (body : List Byte), exec (.unknownKind l kind body) s = .next
      (if (s.link l).sending = none then (s.received l).reply l kind .unknownKind []
        else (s.received l).owe l kind .busy)) ∧
    ((s.link l).sending = none → exec (.replyEnd l) s = .next s) ∧
    (∀ r : Reply, r.resets l = true ↔ l = .machine ∧ r.kind = 0x1D ∧ r.status = .ok) ∧
    (∀ r, (s.link l).sending = some r → r.resets l = true → exec (.replyEnd l) s = .next s) ∧
    (∀ r, (s.link l).sending = some r → r.resets l = false →
      ((s.link l).owed = [] → exec (.replyEnd l) s = .next (s.setLink l { s.link l with sending := none })) ∧
      (∀ o os, (s.link l).owed = o :: os → exec (.replyEnd l) s = .next
        (s.setLink l { s.link l with sending := some ⟨o.kind, o.status, []⟩, owed := os })))

/-! ### Reads -/

/-- R18, R152, R182, R184, R192: a read that fits is answered OK with the state as it stands, and changes nothing. READ_STATUS gives
the groups of R182, field by field, with the widths and the order of assumption 20 where the manual leaves them open, and the bytes
of a fan timer that is stopped or has run out as assumption 21 has them; the machine link's takes five free values for its timers
(assumption 3; the fan fault timers' unit is assumption 36). The fields of the records that the other reads give are stated by
RecordsAndRepliesHaveTheirSizes. READ_BOARD searches the table and then the exit log, oldest first; where neither holds the
sequence number it answers NOT_FOUND, also for a record that TAKE_EXIT_RECORD has removed: R184's remark that such a record is read
back does not change the status, which R175 and R179 leave to R18 (assumption 34, the model's inference). -/
def Obligations.ReadsAnswerAndChangeNothing : Prop :=
  (∀ (s : State) (l : Link), ∀ flag : Bool → Byte, flag = (fun b => if b then 1 else 0) →
    s.commonGroups l =
      -- clock and track
      bytesOf 4 s.clock.toNat ++ [flag s.trk.trackUnknown, flag s.trk.ready] ++ bytesOf 2 s.trk.measuredSpeed ++
      bytesOf 3 s.trk.position.toNat ++ bytesOf 1 s.trk.table.length ++ bytesOf 1 s.trk.exitLog.length ++
      bytesOf 1 s.trk.identities.length ++
      -- mode
      [LineMode.code s.lmc.mode, s.lmc.phase.code, BankId.code s.lmc.active, s.lmc.banks.fst.validityCode,
        s.lmc.banks.snd.validityCode, flag s.lmc.setbackPending, flag s.lmc.supervision.running] ++
      bytesOf 2 s.lmc.supervision.window ++
      -- signals
      (s.saq.channels.toList.flatMap fun c => bytesOf 2 (c.forced.getD c.value) ++ [ReportedState.code c.reported] ++
        (if l = .machine then bytesOf 2 c.lastCode.toNat else [])) ++
      (s.saq.contacts.toList.flatMap fun c => [ContactLevel.code (c.forced.getD c.accepted), flag c.forced.isSome]) ++
      -- alarm summary
      bytesOf 1 (s.aim.unackCount .alarm) ++ bytesOf 1 (s.aim.unackCount .warn) ++
      ([.spray, .preheat, .wave, .feed, .entry].map fun n => flag (s.aim.inhibitActive n)) ++
      [WaveEffect.code s.aim.waveEffect, flag s.aim.asserted.spray, flag s.aim.asserted.preheat, flag s.aim.asserted.wave,
        flag s.aim.asserted.feed, flag s.aim.asserted.entry] ++
      -- process summary
      ([Zone.z1, .z2, .z3].flatMap fun z =>
        ZoneState.code (s.znc.zones.get z).state :: bytesOf 2 (s.znc.zones.get z).temp) ++
      [PotState.code s.pot.heat.state] ++ bytesOf 2 s.pot.heat.temp ++
      [FeederState.code s.pot.feeder, WaveState.code s.pot.wave, s.exm.duct.code, Fan.code s.exm.duty,
        flag s.exm.outputs.fst, flag s.exm.outputs.snd]) ∧
  (∀ s : State, ∀ flag : Bool → Byte, flag = (fun b => if b then 1 else 0) →
    ∃ idle recovery fanA fanB filter : List Byte,
    s.detailGroups =
      -- mode detail
      [flag s.lmc.view.zones.z1, flag s.lmc.view.zones.z2, flag s.lmc.view.zones.z3, flag s.lmc.view.pot,
        WaveState.code s.lmc.view.wave, flag s.lmc.view.waveBankActive, flag s.lmc.view.feeding] ++ idle ++
      -- flux
      bytesOf 2 (s.flx.board.getD 0) ++ bytesOf 2 s.flx.cell ++
      [BitVec.ofNat 8 s.flx.action.val, s.flx.outcome.code, s.flx.valve.code] ++ bytesOf 4 s.flx.amounts.fst ++
      bytesOf 4 s.flx.amounts.snd ++ [Tank.code s.flx.activeTank] ++ bytesOf 1 s.flx.pressureLow ++
      -- zones
      ([Zone.z1, .z2, .z3].flatMap fun z => [ZoneState.code (s.znc.zones.get z).state] ++
        bytesOf 2 (s.znc.zones.get z).setpoint ++ bytesOf 2 (s.znc.zones.get z).temp ++
        [ReportedState.code (s.znc.zones.get z).tempState] ++ bytesOf 1 (s.znc.zones.get z).computed ++
        bytesOf 1 (s.znc.zones.get z).applied ++ bytesOf 2 (s.znc.zones.get z).integral ++
        [flag (s.znc.zones.get z).overtemp]) ++
      -- pot
      [PotState.code s.pot.heat.state] ++ bytesOf 2 s.pot.heat.setpoint ++ bytesOf 2 s.pot.heat.temp ++
      [ReportedState.code s.pot.heat.tempState] ++ bytesOf 1 s.pot.heat.computed ++ bytesOf 1 s.pot.heat.applied ++
      bytesOf 2 s.pot.heat.integral ++ [flag s.pot.heat.overtemp] ++ bytesOf 2 s.pot.level ++
      [s.pot.levelValidity.code, flag s.pot.demand, flag s.pot.settled, FeederState.code s.pot.feeder] ++
      bytesOf 2 s.pot.buckets.sum ++ [WaveState.code s.pot.wave, s.pot.target.code, BankId.code s.pot.waveBank] ++
      bytesOf 2 s.pot.pumpSpeed ++ bytesOf 1 s.pot.schedule.length ++
      (s.pot.schedule.flatMap fun e => bytesOf 2 e.seq ++ [BankId.code e.bank, e.decision.code]) ++
      -- extraction
      [s.exm.duct.code, Fan.code s.exm.duty, flag s.exm.outputs.fst, flag s.exm.outputs.snd] ++
      bytesOf 1 s.exm.lowCount ++ bytesOf 1 s.exm.recoveryCount ++ recovery ++ fanA ++ fanB ++
      optionalStampBytes s.exm.firstLoss ++ optionalStampBytes s.exm.lastRecovery ++
      [flag s.exm.ductLow, flag s.exm.extractionLost, flag s.exm.fanFaults.fst, flag s.exm.fanFaults.snd,
        flag s.exm.filterLoaded, flag s.exm.filterBlocked] ++ bytesOf 2 s.exm.fdpValue ++
      [ReportedState.code s.exm.fdpState] ++ filter ∧
    idle.length = 2 ∧ recovery.length = 2 ∧ fanA.length = 2 ∧ fanB.length = 2 ∧ filter.length = 3 ∧
    (s.lmc.idleTimer = .stopped → idle = [0xFF, 0xFF]) ∧ (s.exm.recoveryTimer = .stopped → recovery = [0xFF, 0xFF]) ∧
    (s.exm.filterTimer = .stopped → filter = [0xFF, 0xFF, 0xFF]) ∧
    (∀ left, s.exm.recoveryTimer = .running left → left ≤ 10000 →
      ∃ ms, recovery = bytesOf 2 ms ∧ ms ≤ left + 99 ∧ left ≤ ms + 99) ∧
    (∀ left, s.exm.filterTimer = .running left → left ≤ s.exm.filterInterval →
      ∃ ms, filter = bytesOf 3 ms ∧ ms ≤ left + 99 ∧ left ≤ ms + 99) ∧
    (∀ left, s.lmc.idleTimer = .running left → left ≤ s.lmc.idleTimeout * 60000 →
      ∃ ms, idle = bytesOf 2 ((ms + 500) / 1000) ∧ ms ≤ left + 99 ∧ left ≤ ms + 99) ∧
    (∀ f bs, (f = .a ∧ bs = fanA) ∨ (f = .b ∧ bs = fanB) →
      (s.exm.fanTimers.fan f = .stopped → bs = [0, 0]) ∧ (s.exm.fanTimers.fan f = .expired → bs = bytesOf 2 5000) ∧
      (∀ left, s.exm.fanTimers.fan f = .running left → left ≤ 5000 →
        ∃ ms, bs = bytesOf 2 ms ∧ ms ≤ 5000 - left + 99 ∧ 5000 - left ≤ ms + 99))) ∧
  ∀ s : State,
    (∀ l, (s.link l).sending = none → l ≠ .machine →
      exec (.readStatus l []) s = .next ((s.received l).reply l 0x01 .ok (s.commonGroups l))) ∧
    (((s.link .machine).sending = none →
      exec (.readStatus .machine []) s = .next
        (((s.received .machine).useFree 5).reply .machine 0x01 .ok
          (s.commonGroups .machine ++ s.detailGroups))) ∧
      ((s.link .machine).sending = none → exec (.readTable .machine []) s = .next
        ((s.received .machine).reply .machine 0x03 .ok
          (bytesOf 1 s.trk.table.length ++
            s.trk.table.flatMap fun b => b.encode s.trk.geometry s.trk.position))) ∧
      ((s.link .machine).sending = none → exec (.readRetained .machine []) s = .next
        ((s.received .machine).reply .machine 0x19 .ok s.rtr.encode))) ∧
    (∀ (l : Link) (n : Byte), l ≠ .trace → (s.link l).sending = none →
      (n.toNat ≤ 36 → exec (.readAlarms l [n]) s = .next
        ((s.received l).reply l 0x04 .ok (s.aim.readAlarms n.toNat))) ∧
      (37 ≤ n.toNat → exec (.readAlarms l [n]) s = .next
        ((s.received l).reply l 0x04 .invalid []))) ∧
    (∀ (l : Link) (hi lo : Byte), l ≠ .safety → (s.link l).sending = none → ∀ q, q = 256 * hi.toNat + lo.toNat →
      (∀ b, s.trk.board? q = some b → exec (.readBoard l [hi, lo]) s = .next
        ((s.received l).reply l 0x02 .ok (0x00 :: b.encode s.trk.geometry s.trk.position))) ∧
      (s.trk.board? q = none →
        (∀ r, s.trk.exitLog.find? (fun r => r.seq == q) = some r →
          exec (.readBoard l [hi, lo]) s = .next ((s.received l).reply l 0x02 .ok (0x01 :: r.encode))) ∧
        (s.trk.exitLog.find? (fun r => r.seq == q) = none →
          exec (.readBoard l [hi, lo]) s = .next ((s.received l).reply l 0x02 .notFound []))))

/-- R7, R152, R174, R176, R177, R183 to R185, R192: the codes of the enumerations; the fields, in their order, and the sizes of a
board record, an exit record, an event record of each kind, the retained record and the body of READ_ALARMS (the order of the alarm
summary: assumption 20); and the frames of a reply: the n-th holds the kind, the status, n, the count and the n-th part of the body,
inside a sync byte, a length and a check, and the parts make the body whole, in order. -/
def Obligations.RecordsAndRepliesHaveTheirSizes : Prop :=
  (∀ n w, (bytesOf w n).length = w ∧ natOf (bytesOf w n) = n % 256 ^ w) ∧
  -- the codes of the enumerations
  ([Phase.entering, .inTrack, .atExit].map Phase.code = [0, 1, 2] ∧
    [FluxStatus.notYet, .spraying, .ok, .deficient].map FluxStatus.code = [0, 1, 2, 3] ∧
    [GateDecision.pending, .solder, .dry].map GateDecision.code = [0, 1, 2] ∧
    [DryReason.unrequested, .boardSize, .waveUnavailable, .fluxDeficient, .thermalUnknown, .tooCold, .tooHot, .soakShort].map
      DryReason.code = [0, 1, 2, 3, 4, 5, 6, 7] ∧
    [WaveResult.notYet, .waved, .partialWave, .interrupted, .dryClean, .dryContacted].map WaveResult.code =
      [0, 1, 2, 3, 4, 5] ∧
    [ExitOutcome.normal, .lost, .cleared].map ExitOutcome.code = [0, 1, 2] ∧
    [CellOutcome.off, .sprayed, .inhibited, .held, .empty].map CellOutcome.code = [0, 1, 2, 3, 4] ∧
    [RecordState.idle, .activeUnack, .activeAck, .returnedUnack].map RecordState.code = [0, 1, 2, 3] ∧
    [AlarmClass.safety, .process].map AlarmClass.code = [0, 1] ∧ [Severity.warn, .alarm].map Severity.code = [0, 1] ∧
    [RecordCause.raise, .ended, .ackMachine, .ackSafety].map RecordCause.code = [0, 1, 2, 3] ∧
    [Inhibit.spray, .preheat, .wave, .feed, .entry].map Inhibit.code = [0, 1, 2, 3, 4] ∧
    [WaveEffect.inactive, .active, .pending].map WaveEffect.code = [0, 1, 2] ∧
    [ContactLevel.unknown, .opened, .closed].map ContactLevel.code = [0, 1, 2] ∧
    [ReportedState.initial, .good, .suspect, .faulted, .forced].map ReportedState.code = [0, 1, 2, 3, 4] ∧
    [LineMode.standby, .warmup, .production, .changeover, .drain, .idle, .setback, .safe, .maintenance].map LineMode.code =
      [0, 1, 2, 3, 4, 5, 6, 7, 8] ∧
    [ChangeoverPhase.none, .drainOld, .retarget].map ChangeoverPhase.code = [0, 1, 2] ∧
    [ZoneState.off, .heating, .ready, .setback, .setbackReady, .fault].map ZoneState.code = [0, 1, 2, 3, 4, 5] ∧
    [PotState.off, .cold, .heating, .ready, .setback, .hold, .fault].map PotState.code = [0, 1, 2, 3, 4, 5, 6] ∧
    [FeederState.off, .feeding, .locked].map FeederState.code = [0, 1, 2] ∧
    [WaveState.off, .rising, .on, .dipping, .dipped].map WaveState.code = [0, 1, 2, 3, 4] ∧
    [WaveTarget.off, .wave, .dip].map WaveTarget.code = [0, 1, 2] ∧
    [LevelValidity.valid, .unknown].map LevelValidity.code = [0, 1] ∧ [Valve.opened, .closed].map Valve.code = [0, 1] ∧
    [DuctState.normal, .changeover, .lost].map DuctState.code = [0, 1, 2] ∧ [Fan.a, .b].map Fan.code = [0, 1] ∧
    [Tank.t0, .t1].map Tank.code = [0, 1] ∧ [BankId.b0, .b1].map BankId.code = [0, 1] ∧
    (∀ i, [Bank.empty, .unchecked i, .valid i].map Bank.validityCode = [0, 1, 2]) ∧
    [Status.ok, .unknownKind, .notPermitted, .wrongMode, .busy, .invalid, .empty, .full, .bankActive, .bankInUse, .tooLate,
      .nothingToAck, .notFound, .geometryInvalid, .frameBad].map Status.code =
      [0, 1, 2, 3, 4, 5, 6, 7, 8, 9, 10, 11, 12, 13, 14]) ∧
  -- the fields of the records, in order
  (let flag : Bool → Byte := fun b => if b then 1 else 0
    let optional : Option Nat → List Byte := fun o => (o.map (bytesOf 2)).getD [0xFF, 0xFF]
    let stamp : RunClock → List Byte := fun c => bytesOf 4 c.toNat
    let optionalStamp : Option RunClock → List Byte := fun o => (o.map fun c => 1 :: stamp c).getD [0, 0, 0, 0, 0]
    let identity : Option Identity → List Byte := fun o => (o.map fun cs => BitVec.ofNat 8 cs.length :: cs).getD [0]
    let reason : Option DryReason → Byte := fun o => (o.map DryReason.code).getD 0xFF
    let marks : Marks → Byte := fun m => flag m.unrequested + 2 * flag m.lengthOut + 4 * flag m.tankEmpty +
      8 * flag m.sprayInhibited + 16 * flag m.lowPressure + 32 * flag m.thermalUncertain + 64 * flag m.stalled
    (∀ (b : BoardRecord) (g : Geometry) (p : Position), b.encode g p =
      bytesOf 1 b.slot ++ bytesOf 2 b.seq ++ identity b.identity ++ [BankId.code b.bank] ++ bytesOf 3 b.lead.toNat ++
      optional b.length ++ [b.phase.code,
        if b.travel p < g.pFlux then 0 else if b.travel p < g.ph1 then 1 else if b.travel p < g.ph2 then 2
        else if b.travel p < g.ph3 then 3 else if b.travel p < g.pWave - g.wMargin then 4
        else if b.travel p ≤ g.pWave + g.wMargin then 5 else if b.travel p ≤ g.pExit then 6 else 7,
        b.fluxStatus.code] ++ bytesOf 2 b.fluxDose ++ bytesOf 2 b.countedDose ++ bytesOf 2 b.estimate ++ bytesOf 2 b.soak ++
      bytesOf 2 b.peak ++ [b.decision.code, reason b.dryReason] ++ optional b.gateEst ++ [b.waveResult.code, marks b.marks]) ∧
    (∀ r : ExitRecord, r.encode =
      bytesOf 2 r.seq ++ identity r.identity ++ [BankId.code r.bank] ++ optional r.length ++ [r.fluxStatus.code] ++
      bytesOf 2 r.fluxDose ++ bytesOf 2 r.countedDose ++ optional r.gateEst ++ bytesOf 2 r.soak ++
      [r.decision.code, reason r.dryReason, r.waveResult.code, marks r.marks, r.outcome.code] ++ stamp r.stamp) ∧
    (∀ r : Rtr, r.encode =
      bytesOf 4 r.amounts.fst ++ bytesOf 4 r.amounts.snd ++ [Tank.code r.activeTank] ++ bytesOf 4 r.feedTotal ++
      [flag r.refillSeen.fst, flag r.refillSeen.snd, flag r.validity,
        flag r.causes.powerOn + 2 * flag r.causes.external + 4 * flag r.causes.commanded]) ∧
    (∀ (at_ : RunClock),
      (∀ q slot bank u, EventRecord.encode ⟨at_, .boardEntered q slot bank u⟩ =
        0 :: (stamp at_ ++ bytesOf 2 q ++ (bytesOf 1 slot ++ [BankId.code bank, flag u, 0, 0, 0, 0]))) ∧
      (∀ e, EventRecord.encode ⟨at_, .boardUntracked e⟩ =
        1 :: (stamp at_ ++ [0, 0] ++ [if e = .entry then 0 else 1, 0, 0, 0, 0, 0, 0])) ∧
      (∀ q d r est, EventRecord.encode ⟨at_, .boardGated q d r est⟩ =
        2 :: (stamp at_ ++ bytesOf 2 q ++ ([d.code, reason r] ++ bytesOf 2 est ++ [0, 0, 0]))) ∧
      (∀ q o, EventRecord.encode ⟨at_, .boardExited q o⟩ =
        3 :: (stamp at_ ++ bytesOf 2 q ++ [o.code, 0, 0, 0, 0, 0, 0])) ∧
      (∀ q cell o, EventRecord.encode ⟨at_, .fluxMark q cell o⟩ =
        4 :: (stamp at_ ++ bytesOf 2 q ++ (bytesOf 2 cell ++ [o.code, 0, 0, 0, 0]))) ∧
      (∀ k c residue, EventRecord.encode ⟨at_, .tankSwitched k c residue⟩ =
        5 :: (stamp at_ ++ [0, Tank.code k] ++ ((if c = .exhausted then 0 else 1) :: (bytesOf 4 residue ++ [0, 0])))) ∧
      (∀ i before after cause n, EventRecord.encode ⟨at_, .alarmChanged i before after cause n⟩ =
        6 :: (stamp at_ ++ bytesOf 2 i.val ++ ([before.code, after.code, cause.code, (alarmClass i).code,
          (alarmSeverity i).code] ++ bytesOf 1 n ++ [0]))) ∧
      (∀ n e a, EventRecord.encode ⟨at_, .inhibitChanged n e a⟩ =
        7 :: (stamp at_ ++ [0, n.code] ++ [WaveEffect.code e, flag a, 0, 0, 0, 0, 0])) ∧
      (∀ before after ph cause, EventRecord.encode ⟨at_, .modeChanged before after ph cause⟩ =
        8 :: (stamp at_ ++ [0, 0] ++ [LineMode.code before, LineMode.code after, ph.code, cause.code, cause.alarmByte, 0, 0])) ∧
      (∀ b d, EventRecord.encode ⟨at_, .bankSwapped b d⟩ =
        9 :: (stamp at_ ++ [0, BankId.code b] ++ [if d = .immediate then 0 else 1, 0, 0, 0, 0, 0, 0])) ∧
      (∀ f d, EventRecord.encode ⟨at_, .fanChangeover f d⟩ =
        10 :: (stamp at_ ++ [0, Fan.code f] ++
          [if d = .recovered then 0 else if d = .recoveredAfterLoss then 1 else 2, 0, 0, 0, 0, 0, 0]))) ∧
    (∀ (k : Byte) (i : AlarmId), (ModeCause.request k).code = k ∧ (ModeCause.request k).alarmByte = 0xFF ∧
      [ModeCause.readiness, .tableEmpty, .idleTimeout, .wake, .feederStopped, .safeDemand i, .allGated].map ModeCause.code =
        [0x80, 0x81, 0x82, 0x83, 0x84, 0x85, 0x86] ∧
      [ModeCause.readiness, .tableEmpty, .idleTimeout, .wake, .feederStopped, .safeDemand i, .allGated].map
        ModeCause.alarmByte = [0xFF, 0xFF, 0xFF, 0xFF, 0xFF, BitVec.ofNat 8 i.val, 0xFF]) ∧
    (∀ (a : Aim) (n : Nat), a.readAlarms n =
      bytesOf 1 ((List.finRange 37).countP fun i => a.records[i].state = .activeUnack ∧ alarmSeverity i = .alarm) ++
      bytesOf 1 ((List.finRange 37).countP fun i => a.records[i].state = .activeUnack ∧ alarmSeverity i = .warn) ++
      ([Inhibit.spray, .preheat, .wave, .feed, .entry].map fun x => flag (a.inhibitActive x)) ++
      [WaveEffect.code a.waveEffect, flag a.asserted.spray, flag a.asserted.preheat, flag a.asserted.wave,
        flag a.asserted.feed, flag a.asserted.entry] ++
      a.levels.toList.map ContactLevel.code ++
      (((List.finRange 37).drop n).take 12).flatMap fun i =>
        [BitVec.ofNat 8 i.val, a.records[i].state.code, (alarmClass i).code, (alarmSeverity i).code, flag (alarmLatching i)] ++
        optionalStamp a.records[i].first ++ optionalStamp a.records[i].last ++ bytesOf 1 a.records[i].count)) ∧
  -- their sizes
  (∀ r : Rtr, r.encode.length = 17) ∧
  (∀ e : EventRecord, e.encode.length = 14) ∧
  (∀ (b : BoardRecord) (g : Geometry) (p : Position), (b.encode g p).length = 29 + (b.identity.getD []).length) ∧
  (∀ r : ExitRecord, r.encode.length = 24 + (r.identity.getD []).length) ∧
  -- the frames of a reply
  (∀ content : List Byte, frameOf content = 0xA5 :: BitVec.ofNat 8 content.length :: (content ++
    bytesOf 2 (crc16 (BitVec.ofNat 8 content.length :: content)).toNat)) ∧
  (∀ r : Reply, r.frames.length = segmentCount r.body ∧
    (∀ n, n < segmentCount r.body → r.frames[n]? = some (frameOf
      (r.kind :: r.status.code :: BitVec.ofNat 8 n :: BitVec.ofNat 8 (segmentCount r.body) :: segmentPart r.body n))) ∧
    (r.body.length ≤ 246 → segmentCount r.body = 1) ∧
    (246 < r.body.length → segmentCount r.body = (r.body.length + 245) / 246) ∧
    ((List.range (segmentCount r.body)).flatMap (segmentPart r.body)) = r.body ∧
    (∀ n, (segmentPart r.body n).length ≤ 246) ∧
    ∀ n, n + 1 < segmentCount r.body → (segmentPart r.body n).length = 246)

/-! ### Alarms and inhibits over the links -/

/-- R141, R144, R146: ACK_ALARM from the machine or the safety link, in the order of its checks. An acknowledgement that acts moves
the one record, posts ALARM_CHANGED with the link that acknowledged, and then has AIM take on the new record
(InhibitsFollowTheirCauses says which INHIBIT_CHANGED events and inhibit change arrivals follow); an entry into IDLE and an
acknowledged PUMP_FAULT are handed on. The order in which one change's arrivals join `posted` is the model's choice (assumptions 37
and 40). -/
def Obligations.AcknowledgementsFollowTheirChecks : Prop :=
  ∀ (s : State) (l : Link) (n : Byte), l ≠ .trace → (s.link l).sending = none →
    (37 ≤ n.toNat → exec (.ackAlarm l [n]) s = .next ((s.received l).reply l 0x05 .invalid [])) ∧
    (∀ i : AlarmId, i.val = n.toNat →
      (l = .machine → alarmClass i = .safety →
        exec (.ackAlarm l [n]) s = .next ((s.received l).reply l 0x05 .notPermitted [])) ∧
      (¬(l = .machine ∧ alarmClass i = .safety) →
        (s.aim.records[i].state = .idle ∨ s.aim.records[i].state = .activeAck →
          exec (.ackAlarm l [n]) s = .next ((s.received l).reply l 0x05 .nothingToAck [])) ∧
        (s.aim.records[i].state = .activeUnack ∨ s.aim.records[i].state = .returnedUnack →
          ∃ t, exec (.ackAlarm l [n]) s = .next t ∧ SameBut [.aim, .links, .posted] s t ∧
            t.aim.records[i] =
              (if s.aim.records[i].state = .activeUnack then { s.aim.records[i] with state := .activeAck }
                else { state := .idle, first := none, last := none, count := 0 }) ∧
            (∀ j : AlarmId, j ≠ i → t.aim.records[j] = s.aim.records[j]) ∧
            t.aim.asserted = s.aim.asserted ∧ t.aim.levels = s.aim.levels ∧ t.aim.solderOcc = s.aim.solderOcc ∧
            t.aim.waveEffect =
              waveNext s.aim.waveEffect t.aim.waveImmediate (t.aim.inhibitActive .wave) t.aim.solderOcc ∧
            (t.link l).sending = some ⟨0x05, .ok, []⟩ ∧
            (∀ r', r' = t.aim.records[i] → t = ((((s.received l).event
                (.alarmChanged i s.aim.records[i].state r'.state
                  (if l = .machine then .ackMachine else .ackSafety) r'.count)).aimBecomes
                  { s.aim with records := s.aim.records.set i r' }).post
                ((if s.aim.records[i].state = .returnedUnack ∧ i = Alarm.potLevelHigh then [.recordIdleArrival .levelHigh]
                  else if s.aim.records[i].state = .returnedUnack ∧ i = Alarm.feedRunaway then [.recordIdleArrival .runaway]
                  else []) ++
                (if s.aim.records[i].state = .activeUnack ∧ i = Alarm.pumpFault then [.pumpFaultAcknowledged] else []))).reply
                  l 0x05 .ok []) ∧
            (∀ k, (s.link k).mask.alarm = true → (s.link k).queue.length < 16 →
              (⟨s.clock, .alarmChanged i s.aim.records[i].state t.aim.records[i].state
                (if l = .machine then .ackMachine else .ackSafety) t.aim.records[i].count⟩ : EventRecord) ∈ (t.link k).queue) ∧
            (i = Alarm.pumpFault → s.aim.records[i].state = .activeUnack → Instr.pumpFaultAcknowledged ∈ t.posted) ∧
            (i = Alarm.potLevelHigh → s.aim.records[i].state = .returnedUnack →
              Instr.recordIdleArrival .levelHigh ∈ t.posted) ∧
            (i = Alarm.feedRunaway → s.aim.records[i].state = .returnedUnack →
              Instr.recordIdleArrival .runaway ∈ t.posted))))

/-- R146, R147: an assertion flag is set or cleared, whatever the mode and whether or not it had that value, and the request is
answered OK. A change of the flag is a change of that cause set alone, which AIM takes on (InhibitsFollowTheirCauses says which
INHIBIT_CHANGED events and inhibit change arrivals follow); a flag that has the value already changes nothing. The order of the
arrivals is the model's choice (assumption 37). -/
def Obligations.AssertionsSetOneFlag : Prop :=
  ∀ (s : State) (n : Inhibit),
    (∀ v c, c = (if v then .assertInhibit .safety [n.code] else .releaseInhibit .safety [n.code]) → (s.link .safety).sending = none →
      ∃ t, exec c s = .next t ∧
      t = (if s.aim.asserted.get n = v then s.received .safety
        else (s.received .safety).aimBecomes { s.aim with asserted := s.aim.asserted.set n v }).reply .safety
          (if v then 0x1E else 0x1F) .ok [] ∧
      SameBut [.aim, .links, .posted] s t ∧
      t.aim.asserted = s.aim.asserted.set n v ∧ t.aim.records = s.aim.records ∧ t.aim.levels = s.aim.levels ∧
      t.aim.solderOcc = s.aim.solderOcc ∧
      (s.aim.asserted.get n = v → t.aim = s.aim) ∧
      (s.aim.asserted.get n ≠ v → t.aim.waveEffect =
        waveNext s.aim.waveEffect t.aim.waveImmediate (t.aim.inhibitActive .wave) t.aim.solderOcc) ∧
      (t.link .safety).sending = some ⟨if v then 0x1E else 0x1F, .ok, []⟩) ∧
    (∀ b : Byte, 5 ≤ b.toNat →
      ((s.link .safety).sending = none → exec (.assertInhibit .safety [b]) s = .next
        ((s.received .safety).reply .safety 0x1E .invalid [])) ∧
      ((s.link .safety).sending = none → exec (.releaseInhibit .safety [b]) s = .next
        ((s.received .safety).reply .safety 0x1F .invalid [])))

/-! ### Configuration and banks -/

/-- R5, R6, R11, R31, R60, R98, R107, R123, R180: WRITE_CONFIG of an item named by its four bytes. It is refused by the line mode,
then for the geometry by the board table, then by the item's range, then by the condition the write would break (for ID_REQUIRED,
the tank low threshold and the flux pressure minimum, mode before range is the model's choice, assumption 35). Otherwise the item,
and no other item, takes the value, with the evaluation its rule makes at the write, and the request is answered OK. A body that
names no item is INVALID. -/
def Obligations.WriteConfigIsCheckedAndStored : Prop :=
  (∀ g : Geometry, g.valid = true ↔ g.pFlux < g.pNozzle ∧ g.pNozzle < g.ph1 ∧ g.ph1 < g.ph2 ∧ g.ph2 < g.ph3 ∧ g.ph3 < g.pGate ∧
    g.pGate + g.wMargin < g.pWave ∧ g.pWave + g.wMargin + g.tolerance < g.pExit ∧ 1240 ≤ g.pNozzle) ∧
  (∀ p : PotItems, p.levelsOrdered = true ↔ p.levelMin < p.feedOn ∧ p.feedOn < p.feedOff ∧ p.feedOff < p.levelMax) ∧
  (∀ e : ExmItems, e.valid = true ↔
    e.ductTrip + e.ductHyst ≤ 2000 ∧ e.filterWarn < e.filterBlock ∧ e.filterHyst < e.filterWarn) ∧
  (∀ (s : State) (i : ConfigItem) (v : Int), ∀ u, u = s.storeConfig i v →
    (i.inRange v = true → u.configValue i = v ∧ ∀ j, j ≠ i → u.configValue j = s.configValue j) ∧
    s.configConflict i v = (match i with
      | .geometry .trim => none
      | .geometry _ => if u.trk.geometry.valid = true then none else some .geometryInvalid
      | .channel c .low | .channel c .high => if u.saq.items[c.index].low < u.saq.items[c.index].high then none else some .invalid
      | .levelMin | .feedOn | .feedOff | .levelMax => if u.pot.items.levelsOrdered = true then none else some .invalid
      | .ductTrip | .ductHyst | .filterWarn | .filterBlock | .filterHyst =>
        if u.exm.items.valid = true then none else some .invalid
      | _ => none) ∧
    (i = .idRequired → u.trk = { s.trk with
      idRequired := v.toNat == 1,
      ready := u.trk.readyNow s.lmc.mode (s.aim.inhibitActive .entry) (s.lmc.bank s.lmc.active).items.minGap }) ∧
    (i = .tankLow → ∀ low : Bool, (low = true ↔ s.flx.amounts.tank s.flx.activeTank < v.toNat) →
      u = (s.setFlx { s.flx with lowThreshold := v.toNat, tankLow := low }).post
        (if low = s.flx.tankLow then [] else if low then [.alarmRaise 23] else [.alarmEnd 23])) ∧
    (i = .potHold ∨ i = .holdSetpoint → u = (s.setPot { s.pot with items := u.pot.items }).evaluatePot s.lmc.mode ∧
      u.pot.heat.setpoint = potEffective s.lmc.mode (s.lmc.bank s.lmc.active) u.pot.items)) ∧
  (∀ (s : State) (body : List Byte), configBody body = none → (s.link .machine).sending = none →
    exec (.writeConfig .machine body) s = .next
      ((s.received .machine).reply .machine 0x06 .invalid [])) ∧
  (∀ (r1 r0 row inst : Byte) (value : List Byte), ∀ rule, rule = 256 * r1.toNat + r0.toNat →
    (rule ∉ [5, 11, 31, 60, 62, 65, 98, 105, 107, 123, 159] ∨ configItem? rule row.toNat inst.toNat = none →
      configBody (r1 :: r0 :: row :: inst :: value) = none)) ∧
  ∀ (s : State) (body : List Byte) (i : ConfigItem) (v : Int), configBody body = some (i, v) →
    (s.link .machine).sending = none →
    (s.lmc.mode ≠ .standby → s.lmc.mode ≠ .maintenance → exec (.writeConfig .machine body) s = .next
      ((s.received .machine).reply .machine 0x06 .wrongMode [])) ∧
    ((s.lmc.mode = .standby ∨ s.lmc.mode = .maintenance) →
      ((∃ g, i = .geometry g) → s.trk.table ≠ [] → exec (.writeConfig .machine body) s = .next
        ((s.received .machine).reply .machine 0x06 .busy [])) ∧
      (((∃ g, i = .geometry g) → s.trk.table = []) →
        (i.inRange v = false → exec (.writeConfig .machine body) s = .next
          ((s.received .machine).reply .machine 0x06 .invalid [])) ∧
        (i.inRange v = true →
          (∀ st, s.configConflict i v = some st → exec (.writeConfig .machine body) s = .next
            ((s.received .machine).reply .machine 0x06 st [])) ∧
          (s.configConflict i v = none →
            ∃ u, u = (s.received .machine).storeConfig i v ∧
              exec (.writeConfig .machine body) s = .next (u.reply .machine 0x06 .ok []) ∧
              u.configValue i = v ∧ (∀ j, j ≠ i → u.configValue j = s.configValue j)))))

/-- R66, R77, R164, R165: WRITE_BANK and SET_ZONES_ALL. The active bank, the incoming bank and a bank that a board in the table
carries are refused, in that order; otherwise the bank takes the value, an EMPTY one after every starting value, and is UNCHECKED.
No command but a reset changes what the bank that is active at its start holds. A WRITE_BANK whose body names no bank or no item is
INVALID. -/
def Obligations.BankWritesAreCheckedAndStored : Prop :=
  ((∀ (b : BankItems) (i : BankNumber) (v : Nat),
    (b.write (.number i v)).read i = v ∧ ∀ j, j ≠ i → (b.write (.number i v)).read j = b.read j) ∧
  (∀ (bank r1 r0 row inst : Byte) (value : List Byte), 2 ≤ bank.toNat ∨ 256 * r1.toNat + r0.toNat ≠ 164 ∨ 18 ≤ row.toNat →
    bankBody (bank :: r1 :: r0 :: row :: inst :: value) = none) ∧
  ∀ s : State,
    (∀ body : List Byte, bankBody body = none → (s.link .machine).sending = none →
      exec (.writeBank .machine body) s = .next
      ((s.received .machine).reply .machine 0x07 .invalid [])) ∧
    (∀ (body : List Byte) (b : BankId) (w : BankWrite), bankBody body = some (b, w) →
      (s.link .machine).sending = none →
      (b = s.lmc.active → exec (.writeBank .machine body) s = .next
        ((s.received .machine).reply .machine 0x07 .bankActive [])) ∧
      (b ≠ s.lmc.active →
        (s.lmc.mode = .changeover ∧ s.lmc.phase = .drainOld → exec (.writeBank .machine body) s = .next
          ((s.received .machine).reply .machine 0x07 .busy [])) ∧
        (¬(s.lmc.mode = .changeover ∧ s.lmc.phase = .drainOld) →
          ((∃ r ∈ s.trk.table, r.bank = b) → exec (.writeBank .machine body) s = .next
            ((s.received .machine).reply .machine 0x07 .bankInUse [])) ∧
          ((∀ r ∈ s.trk.table, r.bank ≠ b) → exec (.writeBank .machine body) s = .next
            (((s.received .machine).setBank b
              (.unchecked ((s.lmc.bank b).items.write w))).reply .machine 0x07 .ok []))))) ∧
    (∀ hi lo : Byte, (s.link .machine).sending = none →
      (256 * hi.toNat + lo.toNat < 500 ∨ 3500 < 256 * hi.toNat + lo.toNat →
        exec (.setZonesAll .machine [hi, lo]) s = .next
          ((s.received .machine).reply .machine 0x08 .invalid [])) ∧
      (500 ≤ 256 * hi.toNat + lo.toNat → 256 * hi.toNat + lo.toNat ≤ 3500 →
        (s.lmc.mode = .changeover ∧ s.lmc.phase = .drainOld → exec (.setZonesAll .machine [hi, lo]) s = .next
          ((s.received .machine).reply .machine 0x08 .busy [])) ∧
        (¬(s.lmc.mode = .changeover ∧ s.lmc.phase = .drainOld) →
          ((∃ r ∈ s.trk.table, r.bank = s.lmc.active.other) → exec (.setZonesAll .machine [hi, lo]) s = .next
            ((s.received .machine).reply .machine 0x08 .bankInUse [])) ∧
          ((∀ r ∈ s.trk.table, r.bank ≠ s.lmc.active.other) → exec (.setZonesAll .machine [hi, lo]) s = .next
            (((s.received .machine).setBank s.lmc.active.other
              (.unchecked { (s.lmc.bank s.lmc.active.other).items with
                zoneSetpoint := ⟨256 * hi.toNat + lo.toNat, 256 * hi.toNat + lo.toNat, 256 * hi.toNat + lo.toNat⟩ })).reply
              .machine 0x08 .ok [])))))) ∧
  (∀ (c : Instr) (s t : State), (∀ i, c ≠ .powerOnReset i ∧ c ≠ .externalReset i ∧ c ≠ .commandedReset i) →
    exec c s = .next t → t.lmc.bank s.lmc.active = s.lmc.bank s.lmc.active)

/-- R166 to R170: VALIDATE_BANK judges the alternate bank by four conditions in order; SWAP_BANK and CANCEL_SWAP go by the line mode
and the validity. A swap outside production hands the new active bank on at once; in PRODUCTION the mode becomes CHANGEOVER in phase
DRAIN_OLD, and RETARGET at once where no board is PENDING. What the test of the readiness view awaits after a swap is assumption 10.
The order of the four bank arrivals, to which R167 gives none, is the model's choice (assumption 40). -/
def Obligations.BanksAreValidatedAndSwapped : Prop :=
  ∀ s : State,
    (∀ g, (s.link .machine).sending = none → g = s.received .machine →
      (s.lmc.bank s.lmc.active.other = .empty →
        exec (.validateBank .machine []) s = .next (g.reply .machine 0x09 .invalid [])) ∧
      (∀ i, s.lmc.bank s.lmc.active.other = .valid i →
        exec (.validateBank .machine []) s = .next (g.reply .machine 0x09 .ok [])) ∧
      (∀ i, s.lmc.bank s.lmc.active.other = .unchecked i → exec (.validateBank .machine []) s = .next
        (if i.maxLength < i.minLength then g.reply .machine 0x09 .invalid [0, 164, 6, 1]
        else if (i.potSetpoint : Int) - i.potBand < s.pot.items.pumpSafe then g.reply .machine 0x09 .invalid [0, 164, 4, 0]
        else if i.hLo ≤ i.hDip then g.reply .machine 0x09 .invalid [0, 164, 17, 1]
        else if i.waveSpeed ≤ i.dipSpeed then g.reply .machine 0x09 .invalid [0, 164, 16, 1]
        else (g.setBank s.lmc.active.other (.valid i)).reply .machine 0x09 .ok []))) ∧
    (∀ g, (s.link .machine).sending = none → g = s.received .machine →
      (s.lmc.mode ∈ [.drain, .safe, .maintenance] →
        exec (.swapBank .machine []) s = .next (g.reply .machine 0x0A .wrongMode [])) ∧
      (s.lmc.mode = .changeover → exec (.swapBank .machine []) s = .next (g.reply .machine 0x0A .busy [])) ∧
      (s.lmc.mode ∉ [.drain, .safe, .maintenance, .changeover] →
        ((∀ i, s.lmc.bank s.lmc.active.other ≠ .valid i) →
          exec (.swapBank .machine []) s = .next (g.reply .machine 0x0A .invalid [])) ∧
        (∀ i, s.lmc.bank s.lmc.active.other = .valid i →
          ∀ b, b = s.lmc.active.other → ∀ swapped : SwapDetail → State → State,
            swapped = (fun d u => ((u.setLmc { u.lmc with
              active := b, awaited := u.lmc.awaited ++ [.activeBankArrival .znc b, .activeBankArrival .pot b] }).event
                (.bankSwapped b d)).post
                  [.activeBankArrival .znc b, .activeBankArrival .pot b, .activeBankArrival .flx b,
                    .activeBankArrival .trk b]) →
          (s.lmc.mode = .production → ∀ h, h = g.changeMode .changeover .drainOld (.request 0x0A) →
            ((∃ r ∈ s.trk.table, r.decision = .pending) →
              exec (.swapBank .machine []) s = .next (h.reply .machine 0x0A .ok [])) ∧
            ((∀ r ∈ s.trk.table, r.decision ≠ .pending) → exec (.swapBank .machine []) s = .next
              ((swapped .changeover ((h.setLmc { h.lmc with phase := .retarget }).event
                (.modeChanged .changeover .changeover .retarget .allGated))).reply .machine 0x0A .ok []))) ∧
          (s.lmc.mode ≠ .production →
            exec (.swapBank .machine []) s = .next ((swapped .immediate g).reply .machine 0x0A .ok []))))) ∧
    (∀ g, (s.link .machine).sending = none → g = s.received .machine →
      (s.lmc.mode ≠ .changeover → exec (.cancelSwap .machine []) s = .next (g.reply .machine 0x0B .wrongMode [])) ∧
      (s.lmc.mode = .changeover →
        (s.lmc.phase = .drainOld → exec (.cancelSwap .machine []) s = .next
          ((g.changeMode .production .none (.request 0x0B)).reply .machine 0x0B .ok [])) ∧
        (s.lmc.phase ≠ .drainOld → exec (.cancelSwap .machine []) s = .next (g.reply .machine 0x0B .tooLate []))))

/-! ### Line modes -/

/-- R43, R155, R159: a change of the line mode. LMC's record takes the mode and the phase, the idle timer starts on entry into IDLE
and stops otherwise, MODE_CHANGED joins the subscribed queues, and the mode is handed to the five blocks. Leaving MAINTENANCE ends
every force first, so that a RELEASE transition for each contact whose reported level changes goes before these. The order ZNC, POT,
FLX, TRK, EXM, where R155 has the five carry none, and the order of the RELEASE transitions by contact number are the model's choice
(assumption 40). -/
def Obligations.AModeChangeIsHandedOn : Prop :=
  ∀ (s : State) (m : LineMode) (ph : ChangeoverPhase) (cause : ModeCause),
    SameBut [.saq, .lmc, .links, .posted] s (s.changeMode m ph cause) ∧
    (s.changeMode m ph cause).lmc =
      { s.lmc with
        mode := m, phase := ph, setbackPending := false,
        idleTimer := if m = .idle ∧ s.lmc.idleTimeout ≠ 0 then .running (s.lmc.idleTimeout * 60000) else .stopped } ∧
    (∀ l, (s.changeMode m ph cause).link l = (s.link l).copyEvent ⟨s.clock, .modeChanged s.lmc.mode m ph cause⟩) ∧
    (s.lmc.mode ≠ .maintenance → (s.changeMode m ph cause).saq = s.saq ∧
      (s.changeMode m ph cause).posted = s.posted ++
        [.lineModeArrival .znc m, .lineModeArrival .pot m, .lineModeArrival .flx m, .lineModeArrival .trk m,
          .lineModeArrival .exm m]) ∧
    (s.lmc.mode = .maintenance →
      (∀ c, (s.changeMode m ph cause).saq.channel c = { s.saq.channel c with forced := none }) ∧
      (∀ c, (s.changeMode m ph cause).saq.contact c = { s.saq.contact c with forced := none }) ∧
      (s.changeMode m ph cause).saq.items = s.saq.items ∧
      (s.changeMode m ph cause).posted = s.posted ++
        (Contact.all.flatMap fun c => if (s.saq.contact c).accepted = (s.saq.contact c).reported then []
          else [transitionArrival c ⟨(s.saq.contact c).accepted, (s.saq.contact c).reported, .release⟩]) ++
        [.lineModeArrival .znc m, .lineModeArrival .pot m, .lineModeArrival .flx m, .lineModeArrival .trk m,
          .lineModeArrival .exm m])

/-- R156: WARMUP and START, refused by the line mode, by an active bank that is not VALID, and by TRACK_UNKNOWN, in that order;
otherwise the mode becomes WARMUP, or at once PRODUCTION where the readiness view is ready already (R157) and the test awaits
nothing of a change of active bank (assumption 10). -/
def Obligations.WarmupAndStartAreChecked : Prop :=
  ∀ (s : State) (early : Bool),
    ∀ (c : Instr) (k : Byte), (c, k) = (if early then (.warmup .machine [], 0x0C) else (.start .machine [], 0x0D)) →
    (s.link .machine).sending = none → ∀ g, g = s.received .machine →
    (s.lmc.mode ∉ (if early then [.standby, .idle, .setback] else [.idle, .setback]) →
      exec c s = .next (g.reply .machine k .wrongMode [])) ∧
    (s.lmc.mode ∈ (if early then [.standby, .idle, .setback] else [.idle, .setback]) →
      ((∀ i, s.lmc.bank s.lmc.active ≠ .valid i) → exec c s = .next (g.reply .machine k .invalid [])) ∧
      (∀ i, s.lmc.bank s.lmc.active = .valid i →
        (s.trk.trackUnknown = true → exec c s = .next (g.reply .machine k .busy [])) ∧
        (s.trk.trackUnknown = false → exec c s = .next
          ((if s.lmc.view.ready = true ∧ s.lmc.awaited = [] then
              (g.changeMode .warmup .none (.request k)).changeMode .production .none .readiness
            else g.changeMode .warmup .none (.request k)).reply .machine k .ok []))))

/-- R43, R155, R156, R163: STOP, STOP_HEAT, ENTER_MAINTENANCE and LEAVE_MAINTENANCE, by the line mode that takes them. Leaving
MAINTENANCE ends the forces, posts the RELEASE transitions, and then hands on the new mode. That the RELEASE transitions go first is
R43's; their order by contact number and that of the five line mode arrivals, to which R155 gives none, are the model's choice
(assumption 40). -/
def Obligations.StopsAndMaintenanceGoByTheMode : Prop :=
  ∀ s : State,
    (∀ g, (s.link .machine).sending = none →
      g = s.received .machine → exec (.stop .machine []) s = .next
      (if s.lmc.mode = .production then
        (if s.trk.table = [] then (g.changeMode .drain .none (.request 0x0E)).changeMode .idle .none .tableEmpty
          else g.changeMode .drain .none (.request 0x0E)).reply .machine 0x0E .ok []
      else if s.lmc.mode = .changeover then g.reply .machine 0x0E .busy []
      else g.reply .machine 0x0E .wrongMode [])) ∧
    (∀ g, (s.link .machine).sending = none →
      g = s.received .machine → exec (.stopHeat .machine []) s = .next
      (if s.lmc.mode ∈ [.idle, .setback, .warmup] then
        (g.changeMode .standby .none (.request 0x0F)).reply .machine 0x0F .ok []
      else g.reply .machine 0x0F .wrongMode [])) ∧
    (∀ g, (s.link .machine).sending = none →
      g = s.received .machine → exec (.enterMaintenance .machine []) s = .next
      (if s.lmc.mode = .standby then (g.changeMode .maintenance .none (.request 0x10)).reply .machine 0x10 .ok []
      else g.reply .machine 0x10 .wrongMode [])) ∧
    ((s.link .machine).sending = none → s.lmc.mode ≠ .maintenance →
      exec (.leaveMaintenance .machine []) s = .next
      ((s.received .machine).reply .machine 0x11 .wrongMode [])) ∧
    ((s.link .machine).sending = none → s.lmc.mode = .maintenance →
      ∃ t, exec (.leaveMaintenance .machine []) s = .next t ∧
      SameBut [.saq, .lmc, .links, .posted] s t ∧
      t.lmc = { s.lmc with
        mode := if s.lmc.safeHeld then .safe else .standby, phase := .none, idleTimer := .stopped, setbackPending := false,
        safeHeld := false } ∧
      (∀ c, t.saq.channel c = { s.saq.channel c with forced := none }) ∧
      (∀ c, t.saq.contact c = { s.saq.contact c with forced := none }) ∧
      (∀ m, m = (if s.lmc.safeHeld then LineMode.safe else .standby) →
        t.posted = (s.received .machine).posted ++
          (Contact.all.flatMap fun c => if (s.saq.contact c).accepted = (s.saq.contact c).reported then []
            else [transitionArrival c ⟨(s.saq.contact c).accepted, (s.saq.contact c).reported, .release⟩]) ++
          [.lineModeArrival .znc m, .lineModeArrival .pot m, .lineModeArrival .flx m, .lineModeArrival .trk m,
            .lineModeArrival .exm m]) ∧
      (t.link .machine).sending = some ⟨0x11, .ok, []⟩)

/-- R161 to R163: a SAFE demand and FORCE_SAFE take every mode but MAINTENANCE to SAFE, change nothing in SAFE, and in MAINTENANCE
set SAFE held alone. RELEASE_SAFE is refused outside SAFE and while either record is not IDLE. What a change of the line mode posts,
and in what order, is AModeChangeIsHandedOn's (assumption 40). -/
def Obligations.SafeIsEnteredAndReleased : Prop :=
  ∀ s : State,
    (∀ i, ∀ g, g = s.taken (.safeDemand i) → exec (.safeDemand i) s = .next
      (if s.lmc.mode = .safe then g
      else if s.lmc.mode = .maintenance then g.setLmc { s.lmc with safeHeld := true }
      else g.changeMode .safe .none (.safeDemand i))) ∧
    ((∀ g, (s.link .safety).sending = none →
      g = s.received .safety → exec (.forceSafe .safety []) s = .next
        ((if s.lmc.mode = .safe then g
          else if s.lmc.mode = .maintenance then g.setLmc { s.lmc with safeHeld := true }
          else g.changeMode .safe .none (.request 0x20)).reply .safety 0x20 .ok [])) ∧
      (∀ g, (s.link .safety).sending = none →
        g = s.received .safety → exec (.releaseSafe .safety []) s = .next
        (if s.lmc.mode ≠ .safe then g.reply .safety 0x21 .wrongMode []
        else if s.aim.records[Alarm.estopOpen].state ≠ .idle ∨ s.aim.records[Alarm.supervisionExpired].state ≠ .idle then
          g.reply .safety 0x21 .busy []
        else (g.changeMode .standby .none (.request 0x21)).reply .safety 0x21 .ok [])))

/-- R171: SUPERVISE starts supervision with a window from 100 to 5,000 ms; a frame arrival restarts its timer and ends
SUPERVISION_EXPIRED where it holds; the expiry raises it and stops the timer. An expiry of a timer that does not run changes nothing
(assumption 5). -/
def Obligations.SupervisionIsKept : Prop :=
  ∀ s : State,
    (∀ hi lo : Byte, ∀ w, w = 256 * hi.toNat + lo.toNat →
      ∀ g, (s.link .safety).sending = none → g = s.received .safety →
      (w < 100 ∨ 5000 < w → exec (.supervise .safety [hi, lo]) s = .next (g.reply .safety 0x22 .invalid [])) ∧
      (100 ≤ w → w ≤ 5000 → exec (.supervise .safety [hi, lo]) s = .next
        ((g.setLmc { s.lmc with
          supervision := { running := true, window := w, timer := .running w,
                           expired := s.lmc.supervision.expired } }).reply .safety 0x22 .ok []))) ∧
    (∀ g, g = s.taken .frameArrival →
      (s.lmc.supervision.running = false → exec .frameArrival s = .next g) ∧
      (s.lmc.supervision.running = true → exec .frameArrival s = .next
        ((g.setLmc { s.lmc with
          supervision := { s.lmc.supervision with
            timer := .running s.lmc.supervision.window, expired := false } }).post
          (if s.lmc.supervision.expired then [.alarmEnd 36] else [])))) ∧
    (s.lmc.supervision.timer.isRunning = true → exec .supervisionWindowExpiry s = .next
      ((s.setLmc { s.lmc with
        supervision := { s.lmc.supervision with timer := .stopped, expired := true } }).post [.alarmRaise 36])) ∧
    (s.lmc.supervision.timer.isRunning = false → exec .supervisionWindowExpiry s = .next s)

/-- R157 to R160, R168, R169: the arrivals and the expiry LMC takes. A readiness arrival updates the view and is tested; an
upstream board wakes a line in SETBACK; the gated arrival that reports no PENDING board ends DRAIN_OLD; the empty table ends DRAIN.
The idle timer's expiry restarts it under an unacknowledged alarm, waits for the feeder, and otherwise enters SETBACK. After a
change of active bank the test waits for ZNC and POT to act on it and for what this causes, at a line mode arrival that reaches
them before the change itself too, and RETARGET ends only with the wave bank equal to the active bank. How the model knows what the
test awaits, and an expiry of a stopped timer, are the model's (assumptions 5, 10, 27). -/
def Obligations.LineModeArrivalsAreActedOn : Prop :=
  (∀ v : View,
    (v.ready = true ↔ v.zones.z1 = true ∧ v.zones.z2 = true ∧ v.zones.z3 = true ∧ v.pot = true ∧ v.wave = .on) ∧
    (∀ a, updatesView a = true ↔ ∃ r, a = .readinessArrival r) ∧
    (∀ z st, v.noted (.zone z st) = { v with zones := v.zones.set z (st == .ready) }) ∧
    (∀ st, v.noted (.pot st) = { v with pot := st == .ready }) ∧
    (∀ w eq, v.noted (.wave w eq) = { v with wave := w, waveBankActive := eq })) ∧
  (∀ s : State,
    (∀ r, exec (.readinessArrival r) s = .next ((s.taken (.readinessArrival r)).setLmc
      { s.lmc with
        view := s.lmc.view.noted r, awaited := s.lmc.awaited.erase (.readinessArrival r) }).testReadiness) ∧
    (∀ b c bank, b = .znc ∨ b = .pot → c = .activeBankArrival b bank → ∀ u, u = (s.taken c).takeBank b →
      (c ∉ s.lmc.awaited → exec c s = .next u) ∧
      (c ∈ s.lmc.awaited → ∀ caused : List Instr,
        caused = (u.posted.drop (s.taken c).posted.length).filter updatesView →
        exec c s = .next (u.setLmc { u.lmc with
          awaited := (s.lmc.awaited.erase c).filter (fun a => a ∉ caused) ++
            u.posted.filter (fun a => a ∈ caused) }).testReadiness)) ∧
    (∀ b b' m c, (b = ModeBlock.znc ∧ b' = BankBlock.znc) ∨ (b = .pot ∧ b' = .pot) → c = .lineModeArrival b m →
      ∀ u, u = (s.taken c).takeMode b m →
      ((∀ bank, .activeBankArrival b' bank ∉ s.lmc.awaited) → exec c s = .next u) ∧
      ((∃ bank, .activeBankArrival b' bank ∈ s.lmc.awaited) → ∀ caused : List Instr,
        caused = (u.posted.drop (s.taken c).posted.length).filter updatesView →
        exec c s = .next (u.setLmc { u.lmc with
          awaited := s.lmc.awaited.filter (fun a => a ∉ caused) ++ u.posted.filter (fun a => a ∈ caused) }))) ∧
    ((s.lmc.mode = .warmup → s.lmc.view.ready = true → s.lmc.awaited = [] →
        s.testReadiness = s.changeMode .production .none .readiness) ∧
      (s.lmc.mode = .changeover → s.lmc.phase = .retarget → s.lmc.view.ready = true → s.lmc.view.waveBankActive = true →
        s.lmc.awaited = [] → s.testReadiness = s.changeMode .production .none .readiness) ∧
      (s.lmc.view.ready = false → s.testReadiness = s) ∧ (s.lmc.awaited ≠ [] → s.testReadiness = s) ∧
      (s.lmc.mode = .changeover → s.lmc.view.waveBankActive = false → s.testReadiness = s) ∧
      (s.lmc.mode ≠ .warmup → ¬(s.lmc.mode = .changeover ∧ s.lmc.phase = .retarget) → s.testReadiness = s)) ∧
    (∀ tr, ∀ g, g = s.taken (.upstreamAvailTransition tr) → exec (.upstreamAvailTransition tr) s = .next
      (if s.lmc.mode = .setback ∧ tr.level = .closed ∧ s.lmc.wakeEnabled = true then
        (g.changeMode .warmup .none .wake).testReadiness else g)) ∧
    (∀ n, ∀ g, g = s.taken (.gatedArrival n) → exec (.gatedArrival n) s = .next
      (if s.lmc.mode = .changeover ∧ s.lmc.phase = .drainOld ∧ n = 0 then
        (((g.setLmc { s.lmc with phase := .retarget }).event
          (.modeChanged .changeover .changeover .retarget .allGated)).swapBanks .changeover) else g)) ∧
    exec .tableEmptyArrival s = .next
      (if s.lmc.mode = .drain then (s.taken .tableEmptyArrival).changeMode .idle .none .tableEmpty
        else s.taken .tableEmptyArrival)) ∧
  (∀ s : State,
    (s.lmc.mode = .idle → s.lmc.idleTimer.isRunning = true → exec .idleTimerExpiry s = .next
      (if s.aim.unackCount .alarm + s.aim.unackCount .warn ≠ 0 then
        s.setLmc { s.lmc with
          idleTimer := if s.lmc.idleTimeout = 0 then .stopped else .running (s.lmc.idleTimeout * 60000) }
      else if s.lmc.view.feeding = true then s.setLmc { s.lmc with setbackPending := true, idleTimer := .stopped }
      else s.changeMode .setback .none .idleTimeout)) ∧
    (¬(s.lmc.mode = .idle ∧ s.lmc.idleTimer.isRunning = true) → exec .idleTimerExpiry s = .next s) ∧
    (∀ st, ∀ g, g = (s.taken (.feederArrival st)).setLmc
        { s.lmc with view := { s.lmc.view with feeding := st == .feeding } } →
      exec (.feederArrival st) s = .next
        (if s.lmc.mode = .idle ∧ s.lmc.setbackPending = true ∧ st ≠ .feeding then
          (if s.aim.unackCount .alarm + s.aim.unackCount .warn ≠ 0 then
            g.setLmc { g.lmc with
              setbackPending := false,
              idleTimer := if s.lmc.idleTimeout = 0 then .stopped else .running (s.lmc.idleTimeout * 60000) }
          else g.changeMode .setback .none .feederStopped)
        else g.testReadiness)))

/-- R66, R72, R76, R155, R167: a new line mode or active bank at ZNC: every zone's record takes the effective setpoint and band of
the active bank, keeps its temperature, and a setpoint of 0 turns it OFF with its heater unless it is in FAULT. A change into or
out of READY or SETBACK_READY hands LMC a readiness arrival. The PREHEAT inhibit is the one ZNC took last (assumption 33); where
LMC's test awaits a bank arrival of ZNC's, it awaits what ZNC hands on at either arrival, and can follow the bank arrival
(assumption 10). The readiness arrivals of the three zones are posted in the order of the zones, which is the model's choice
(assumption 40). -/
def Obligations.ZonesTakeTheirSetpoints : Prop :=
  (∀ (m : LineMode) (i : BankItems) (z : Zone),
    zoneEffective m .empty z = 0 ∧
    (m ∈ [.warmup, .production, .changeover, .drain, .idle] → zoneEffective m (.valid i) z = i.zoneSetpoint.get z) ∧
    (m = .setback → zoneEffective m (.valid i) z = i.zoneSetpoint.get z - i.zoneSetback) ∧
    (m ∈ [.standby, .safe, .maintenance] → zoneEffective m (.valid i) z = 0)) ∧
  ∀ (s : State) (c : Instr) (m : LineMode),
    (c = .lineModeArrival .znc m ∨ (∃ b, c = .activeBankArrival .znc b) ∧ m = s.lmc.mode) →
    ∃ t, exec c s = .next t ∧ SameBut [.znc, .lmc, .links, .posted] s t ∧ t.znc = { s.znc with zones := t.znc.zones } ∧
      (c = .lineModeArrival .znc m → SameBut [.znc, .lmc, .posted] s t ∧ t.lmc = { s.lmc with awaited := t.lmc.awaited }) ∧
      ((c = .lineModeArrival .znc m ∧ ∀ b, .activeBankArrival .znc b ∉ s.lmc.awaited) ∨
        ((∃ b, c = .activeBankArrival .znc b) ∧ c ∉ s.lmc.awaited) → SameBut [.znc, .posted] s t) ∧
      (∃ tested : List Instr, (c = .lineModeArrival .znc m ∨ c ∉ s.lmc.awaited → tested = []) ∧
        t.posted = s.posted.erase c ++ ([Zone.z1, .z2, .z3].flatMap fun z =>
          if (s.znc.zones.get z).state ≠ (t.znc.zones.get z).state ∧
              (isQualified (s.znc.zones.get z).state = true ∨ isQualified (t.znc.zones.get z).state = true) then
            [.readinessArrival (.zone z (t.znc.zones.get z).state)] else []) ++ tested) ∧
      ∀ z r', r' = t.znc.zones.get z → ∀ r, r = s.znc.zones.get z →
        r'.setpoint = zoneEffective m (s.lmc.bank s.lmc.active) z ∧ r'.band = (s.lmc.bank s.lmc.active).zoneBand z ∧
        r'.temp = r.temp ∧ r'.tempState = r.tempState ∧ r'.overtemp = r.overtemp ∧
        (r.state = .fault → r' = { r with
          setpoint := r'.setpoint, band := r'.band, armed := r.armed && decide (r.setpoint = r'.setpoint) }) ∧
        (r.state ≠ .fault → r'.setpoint = 0 →
          r'.state = .off ∧ r'.integral = 0 ∧ r'.computed = 0 ∧ r'.applied = 0 ∧ r'.output = false ∧ r'.armed = false ∧
          r'.readyCount = 0 ∧ r'.outCount = 0) ∧
        (r.state ≠ .fault → r'.setpoint ≠ 0 →
          r'.computed = r.computed ∧ r'.applied = r.applied ∧ r'.output = r.output ∧
          r'.integral = (if r.state = .off then 0 else r.integral) ∧
          (r.state = .off ∨ r.setpoint ≠ r'.setpoint ∨ r.band ≠ r'.band →
            r'.state = (if m = .setback ∧ s.znc.preheatInhibit = false then .setback else .heating) ∧
            r'.armed = false ∧ r'.readyCount = 0 ∧ r'.outCount = 0) ∧
          (r.state ≠ .off → r.setpoint = r'.setpoint → r.band = r'.band →
            r'.armed = r.armed ∧ r'.readyCount = r.readyCount ∧ r'.outCount = r.outCount ∧
            r'.state = (if isQualified r.state = true then (if m = .setback then .setbackReady else .ready)
              else if m = .setback ∧ s.znc.preheatInhibit = false then .setback else .heating)))

/-! ### Signals -/

/-- R41 to R43, R175, R179: FORCE_SIGNAL and RELEASE_FORCE in MAINTENANCE alone. A FORCE_SIGNAL body whose signal type is neither
ANALOG nor CONTACT, or whose length does not follow from its type, is INVALID in every line mode, whichever of the two rows of the
table it is put to. A forced channel posts nothing; a contact whose reported level changes posts one transition; RELEASE_FORCE of
ALL ends every force, with a RELEASE transition for each contact whose reported level changes. A level code other than those of OPEN
and CLOSED, UNKNOWN's included, is INVALID in every line mode (assumption 22). The RELEASE transitions of ALL are posted by contact
number, which is the model's choice (assumption 40). -/
def Obligations.ForcesAreSetAndReleased : Prop :=
  (∀ body : List Byte, ∀ c, requestOf .machine 0x12 body = some c ↔
    c = if body.head? = some 1 then .forceSignalContact .machine body else .forceSignalChannel .machine body) ∧
  ∀ s : State,
    (∀ body : List Byte, (s.link .machine).sending = none →
      ((∀ n hi lo : Byte, body ≠ [0, n, hi, lo]) →
        exec (.forceSignalChannel .machine body) s = .next ((s.received .machine).reply .machine 0x12 .invalid [])) ∧
      ((∀ n v : Byte, body ≠ [1, n, v]) →
        exec (.forceSignalContact .machine body) s = .next ((s.received .machine).reply .machine 0x12 .invalid []))) ∧
    (∀ n hi lo : Byte, ∀ g, (s.link .machine).sending = none →
      g = s.received .machine →
      (s.lmc.mode ≠ .maintenance →
        exec (.forceSignalChannel .machine [0, n, hi, lo]) s = .next (g.reply .machine 0x12 .wrongMode [])) ∧
      (s.lmc.mode = .maintenance →
        (10 ≤ n.toNat →
          exec (.forceSignalChannel .machine [0, n, hi, lo]) s = .next (g.reply .machine 0x12 .invalid [])) ∧
        (∀ c : Channel, c.index.val = n.toNat →
          (c.max < 256 * hi.toNat + lo.toNat →
            exec (.forceSignalChannel .machine [0, n, hi, lo]) s = .next (g.reply .machine 0x12 .invalid [])) ∧
          (256 * hi.toNat + lo.toNat ≤ c.max →
            exec (.forceSignalChannel .machine [0, n, hi, lo]) s = .next
              ((g.setSaq { s.saq with
                channels := s.saq.channels.set c.index
                  { s.saq.channel c with forced := some (256 * hi.toNat + lo.toNat) } }).reply .machine 0x12 .ok []))))) ∧
    (∀ n v : Byte, ∀ g, (s.link .machine).sending = none →
      g = s.received .machine →
      (v ≠ 1 → v ≠ 2 → exec (.forceSignalContact .machine [1, n, v]) s = .next (g.reply .machine 0x12 .invalid [])) ∧
      (∀ level, levelOf v = some level →
        (s.lmc.mode ≠ .maintenance →
          exec (.forceSignalContact .machine [1, n, v]) s = .next (g.reply .machine 0x12 .wrongMode [])) ∧
        (s.lmc.mode = .maintenance →
          (10 ≤ n.toNat → exec (.forceSignalContact .machine [1, n, v]) s = .next (g.reply .machine 0x12 .invalid [])) ∧
          (∀ c : Contact, c.index.val = n.toNat →
            exec (.forceSignalContact .machine [1, n, v]) s = .next
              (((g.setSaq { s.saq with
                contacts := s.saq.contacts.set c.index { s.saq.contact c with forced := some level } }).post
                (if level = (s.saq.contact c).reported then []
                  else [transitionArrival c ⟨level, (s.saq.contact c).reported, .force⟩])).reply .machine 0x12 .ok []))))) ∧
    (∀ ty n : Byte, ∀ g, (s.link .machine).sending = none →
      g = s.received .machine →
      (3 ≤ ty.toNat → exec (.releaseForce .machine [ty, n]) s = .next (g.reply .machine 0x13 .invalid [])) ∧
      (ty.toNat ≤ 2 → s.lmc.mode ≠ .maintenance →
        exec (.releaseForce .machine [ty, n]) s = .next (g.reply .machine 0x13 .wrongMode [])) ∧
      (s.lmc.mode = .maintenance →
        (ty.toNat ≤ 1 → 10 ≤ n.toNat →
          exec (.releaseForce .machine [ty, n]) s = .next (g.reply .machine 0x13 .invalid [])) ∧
        (ty = 0 → ∀ c : Channel, c.index.val = n.toNat →
          exec (.releaseForce .machine [ty, n]) s = .next
            ((g.setSaq { s.saq with
              channels := s.saq.channels.set c.index { s.saq.channel c with forced := none } }).reply .machine 0x13 .ok [])) ∧
        (ty = 1 → ∀ c : Contact, c.index.val = n.toNat →
          exec (.releaseForce .machine [ty, n]) s = .next
            (((g.setSaq { s.saq with
              contacts := s.saq.contacts.set c.index { s.saq.contact c with forced := none } }).post
              (if (s.saq.contact c).accepted = (s.saq.contact c).reported then []
                else [transitionArrival c ⟨(s.saq.contact c).accepted, (s.saq.contact c).reported, .release⟩])).reply
              .machine 0x13 .ok [])) ∧
        (ty = 2 → ∃ t, exec (.releaseForce .machine [ty, n]) s = .next t ∧ SameBut [.saq, .links, .posted] s t ∧
          (∀ c, t.saq.channel c = { s.saq.channel c with forced := none }) ∧
          (∀ c, t.saq.contact c = { s.saq.contact c with forced := none }) ∧
          t.saq.items = s.saq.items ∧
          t.posted = g.posted ++ (Contact.all.flatMap fun c =>
            if (s.saq.contact c).accepted = (s.saq.contact c).reported then []
            else [transitionArrival c ⟨(s.saq.contact c).accepted, (s.saq.contact c).reported, .release⟩]) ∧
          (t.link .machine).sending = some ⟨0x13, .ok, []⟩)))

/-- R29, R30, R32 to R35: the converter and its samples. A priority expiry requests the pair WVH, DSP, which an idle converter
starts at once; a pass expiry queues the eight regular channels, whose conversions follow the pair (assumption 8); a completed
conversion starts the next in that order. Its value is clamped to the channel's range, to 0 below it and to the maximum above it,
and a good or a BAD sample moves the channel's state. ZNC's arrival is posted before TEG's: the two carry no order, and this one is
the model's choice (assumption 40). -/
def Obligations.ConversionsAreMadeAndQualified : Prop :=
  (∀ s : State,
    exec .passTimerExpiry s = .next (s.setSaq { s.saq with
      passLeft := [.zs1, .zs2, .zs3, .amb, .pts, .plv, .fdp, .flp], passTimer := .running 250 }) ∧
    (∀ c, s.saq.converting = some c → exec .priorityTimerExpiry s = .next (s.setSaq { s.saq with
      pairLeft := [.wvh, .dsp], priorityTimer := .running 50 })) ∧
    (s.saq.converting = none → exec .priorityTimerExpiry s = .next (s.setSaq { s.saq with
      converting := some .wvh, pairLeft := [.dsp], priorityTimer := .running 50 })) ∧
    (∀ code, s.saq.converting = none → exec (.conversionComplete code) s = .next s) ∧
    (∀ c code, s.saq.converting = some c →
      ∃ t, exec (.conversionComplete code) s = .next t ∧ SameBut [.saq, .posted] s t ∧
        t.saq.converting = (s.saq.pairLeft ++ s.saq.passLeft).head? ∧
        t.saq.pairLeft ++ t.saq.passLeft = (s.saq.pairLeft ++ s.saq.passLeft).tail ∧
        t.saq.channel c = (s.saq.channel c).convert s.saq.items[c.index] c.max code ∧
        (∀ d, d ≠ c → t.saq.channel d = s.saq.channel d) ∧ t.saq.items = s.saq.items ∧ t.saq.contacts = s.saq.contacts ∧
        t.posted = s.posted ++ sensorFaults c (s.saq.channel c).state (t.saq.channel c).state ++
          sampleArrivals c (t.saq.channel c).read (t.saq.channel c).reported)) ∧
  (∀ (c : ChannelRec) (i : ChannelItems) (max : Nat) (code : Code),
    let v := engineering i max code
    v ≤ max ∧
    (0 ≤ (((code.toNat * i.gain + 2048) / 4096 : Nat) : Int) + i.offset →
      (((code.toNat * i.gain + 2048) / 4096 : Nat) : Int) + i.offset ≤ max →
      (v : Int) = (((code.toNat * i.gain + 2048) / 4096 : Nat) : Int) + i.offset) ∧
    ((((code.toNat * i.gain + 2048) / 4096 : Nat) : Int) + i.offset < 0 → v = 0) ∧
    ((max : Int) < (((code.toNat * i.gain + 2048) / 4096 : Nat) : Int) + i.offset → v = max) ∧
    (c.convert i max code).forced = c.forced ∧ (c.convert i max code).lastCode = code ∧
    (i.low ≤ v → v ≤ i.high →
      (c.convert i max code).value = v ∧
      (c.convert i max code).state = (if c.state = .faulted ∧ c.goodRun + 1 < 3 then .faulted else .good) ∧
      (c.state = .faulted → c.goodRun + 1 < 3 →
        (c.convert i max code).goodRun = c.goodRun + 1 ∧ (c.convert i max code).badRun = c.badRun) ∧
      (c.state = .faulted → 3 ≤ c.goodRun + 1 →
        (c.convert i max code).goodRun = 0 ∧ (c.convert i max code).badRun = 0) ∧
      (c.state ≠ .faulted → (c.convert i max code).badRun = 0 ∧ (c.convert i max code).goodRun = c.goodRun)) ∧
    (v < i.low ∨ i.high < v →
      (c.convert i max code).value = c.value ∧ (c.convert i max code).hadGood = c.hadGood ∧
      (c.convert i max code).state =
        (match c.state with
        | .good => .suspect
        | .faulted => .faulted
        | .initial => if 3 ≤ c.badRun + 1 then .faulted else .initial
        | .suspect => if 3 ≤ c.badRun + 1 then .faulted else .suspect) ∧
      (c.state = .good → (c.convert i max code).badRun = 1 ∧ (c.convert i max code).goodRun = c.goodRun) ∧
      (c.state = .initial ∨ c.state = .suspect →
        (c.badRun + 1 < 3 → (c.convert i max code).badRun = c.badRun + 1 ∧ (c.convert i max code).goodRun = c.goodRun) ∧
        (3 ≤ c.badRun + 1 → (c.convert i max code).badRun = 3 ∧ (c.convert i max code).goodRun = 0)) ∧
      (c.state = .faulted → (c.convert i max code).goodRun = 0 ∧ (c.convert i max code).badRun = c.badRun)))

/-- R37 to R40: a contact pass accepts a first level at once and another after three differing samples in a row, and posts one
transition for each reported level that changes. -/
def Obligations.ContactPassesAcceptLevels : Prop :=
  ∀ (s : State) (inputs : ContactInputs),
    ∃ t, exec (.contactPass inputs) s = .next t ∧ SameBut [.saq, .posted] s t ∧
      t.saq.channels = s.saq.channels ∧ t.saq.items = s.saq.items ∧ t.saq.contactTimer = .running 10 ∧
      (∀ c : Contact, ∀ k, k = s.saq.contact c → ∀ l, l = (if inputs[c.index] then ContactLevel.closed else .opened) →
        (t.saq.contact c).forced = k.forced ∧
        (k.accepted = .unknown → (t.saq.contact c).accepted = l ∧ (t.saq.contact c).count = k.count) ∧
        (k.accepted = l → (t.saq.contact c).accepted = l ∧ (t.saq.contact c).count = 0) ∧
        (k.accepted ≠ .unknown → k.accepted ≠ l →
          (k.count < 2 → (t.saq.contact c).accepted = k.accepted ∧ (t.saq.contact c).count = k.count + 1) ∧
          (2 ≤ k.count → (t.saq.contact c).accepted = l ∧ (t.saq.contact c).count = 0))) ∧
      t.posted = s.posted ++ Contact.all.flatMap fun c =>
        if (t.saq.contact c).reported = (s.saq.contact c).reported then []
        else [transitionArrival c ⟨(t.saq.contact c).reported, (s.saq.contact c).reported, .scan⟩]

/-! ### Events, identities, the exit log -/

/-- R185 to R188, R190: an event joins the queue of every link whose mask has its class, or is dropped with the gap flag set where
the queue is full. READ_EVENTS returns and removes up to eight records, oldest first, with the gap flag, which it clears; SUBSCRIBE
replaces the mask. While the reset pin is high an attention line is driven while its queue holds a record, and the heaters, the
valve, the pump, the feeder, the fans and READY follow their own blocks (R11, R47, R70, R102, R108, R117, R122); while it is low
every output is at its reset state. -/
def Obligations.EventsAreQueuedReadAndShown : Prop :=
  (∀ m : Mask, [EventClass.board, .flux, .alarm, .mode, .supply].map m.has = [m.board, m.flux, m.alarm, m.mode, m.supply]) ∧
  ((∀ q slot b u, (Event.boardEntered q slot b u).cls = .board) ∧ (∀ e, (Event.boardUntracked e).cls = .board) ∧
    (∀ q d r x, (Event.boardGated q d r x).cls = .board) ∧ (∀ q o, (Event.boardExited q o).cls = .board) ∧
    (∀ q n o, (Event.fluxMark q n o).cls = .flux) ∧ (∀ k c x, (Event.tankSwitched k c x).cls = .supply) ∧
    (∀ i x y c n, (Event.alarmChanged i x y c n).cls = .alarm) ∧ (∀ n e a, (Event.inhibitChanged n e a).cls = .alarm) ∧
    (∀ x y ph c, (Event.modeChanged x y ph c).cls = .mode) ∧ (∀ b d, (Event.bankSwapped b d).cls = .mode) ∧
    (∀ f d, (Event.fanChangeover f d).cls = .supply)) ∧
  (∀ (s : State) (e : Event) (l : Link),
    (s.event e).link l =
      if (s.link l).mask.has e.cls then
        (if (s.link l).queue.length < 16 then { s.link l with queue := (s.link l).queue ++ [⟨s.clock, e⟩] }
          else { s.link l with gap := true })
      else s.link l) ∧
  (∀ (s : State) (l : Link),
    (∀ g, (s.link l).sending = none → g = s.received l → exec (.readEvents l []) s = .next
      ((g.setLink l { g.link l with queue := (s.link l).queue.drop 8, gap := false }).reply l 0x1B .ok
        ([flagByte (s.link l).gap, BitVec.ofNat 8 (min 8 (s.link l).queue.length)] ++
          ((s.link l).queue.take 8).flatMap EventRecord.encode))) ∧
    (∀ b : Byte, ∀ g, (s.link l).sending = none → g = s.received l →
      (b.toNat < 32 → exec (.subscribe l [b]) s = .next
        ((g.setLink l { g.link l with
          mask := ⟨b.getLsbD 0, b.getLsbD 1, b.getLsbD 2, b.getLsbD 3, b.getLsbD 4⟩ }).reply l 0x1C .ok [])) ∧
      (32 ≤ b.toNat → exec (.subscribe l [b]) s = .next (g.reply l 0x1C .invalid [])))) ∧
  (∀ s : State,
    (s.resetPin = .high →
      (∀ z, s.outputs.zoneHeaters.get z = (s.znc.zones.get z).output) ∧ s.outputs.potHeater = s.pot.heat.output ∧
      s.outputs.valve = s.flx.valve ∧ s.outputs.pumpSpeed = s.pot.pumpSpeed ∧
      (s.outputs.feeder = true ↔ s.pot.feeder = .feeding) ∧ (∀ f, s.outputs.fans.fan f = s.exm.outputs.fan f) ∧
      s.outputs.ready = s.trk.ready ∧ ∀ l, s.outputs.attention.get l = true ↔ (s.link l).queue ≠ []) ∧
    (s.resetPin ≠ .high → s.outputs =
      { zoneHeaters := ⟨false, false, false⟩, potHeater := false, valve := .closed, pumpSpeed := 0, feeder := false,
        fans := ⟨true, false⟩, ready := false, attention := ⟨false, false, false⟩ }))

/-- R22, R24, R179, R184: PUSH_IDENTITY of a fit identity joins a queue with room, and a body whose count byte is not the number of
characters that follow is INVALID; FLUSH_IDENTITIES empties it; TAKE_EXIT_RECORD removes
the oldest exit record from the log and returns it, and the model notes it, the latest of its number, where no command reads it
(assumption 34); where the log is empty it answers EMPTY. READY is re-evaluated where the queue or the log changed (R11). -/
def Obligations.IdentitiesAndExitRecordsAreTaken : Prop :=
  ∀ s : State,
    (∀ body : List Byte, (∀ (n : Byte) (cs : List Byte), cs.length = n.toNat → body ≠ n :: cs) →
      (s.link .trace).sending = none →
      exec (.pushIdentity .trace body) s = .next ((s.received .trace).reply .trace 0x23 .invalid [])) ∧
    (∀ cs : List Byte, cs.length < 256 → ∀ body, body = BitVec.ofNat 8 cs.length :: cs →
      ∀ g, (s.link .trace).sending = none → g = s.received .trace →
      (¬(1 ≤ cs.length ∧ cs.length ≤ 20 ∧ ∀ c ∈ cs, 0x20 ≤ c.toNat ∧ c.toNat ≤ 0x7E) →
        exec (.pushIdentity .trace body) s = .next (g.reply .trace 0x23 .invalid [])) ∧
      (1 ≤ cs.length → cs.length ≤ 20 → (∀ c ∈ cs, 0x20 ≤ c.toNat ∧ c.toNat ≤ 0x7E) →
        (8 ≤ s.trk.identities.length → exec (.pushIdentity .trace body) s = .next (g.reply .trace 0x23 .full [])) ∧
        (s.trk.identities.length < 8 → exec (.pushIdentity .trace body) s = .next
          ((g.setTrk { s.trk with identities := s.trk.identities ++ [cs] }).evalReady.reply .trace 0x23 .ok [])))) ∧
    (∀ g, (s.link .trace).sending = none →
      g = s.received .trace → exec (.flushIdentities .trace []) s = .next
      ((g.setTrk { s.trk with identities := [] }).evalReady.reply .trace 0x24 .ok [])) ∧
    (∀ g, (s.link .trace).sending = none → g = s.received .trace →
      (s.trk.exitLog = [] → exec (.takeExitRecord .trace []) s = .next (g.reply .trace 0x25 .empty [])) ∧
      (∀ r rest, s.trk.exitLog = r :: rest → exec (.takeExitRecord .trace []) s = .next
        ((g.setTrk { s.trk with
          exitLog := rest, removed := r :: s.trk.removed.filter (fun x => x.seq != r.seq) }).evalReady.reply
            .trace 0x25 .ok r.encode)))

/-! ### Resets and the retained record -/

/-- R27, R44, R63, R78, R121, R136, R153, R172, R173, R178, R186, R189 to R191: a reset puts every block at its reset values, named
one by one, the run clock at 0, and FLX at the amounts of the retained record, which POWER_ON clears and the others keep with their
cause added. SAQ's converter starts the first priority pair and its three timers run. The first contact pass runs at the reset, and
the arrivals that waited are lost (assumption 24). Reset values that the manual does not give are assumptions 4, 10, 18, 28, 33 and
34; the release of a pin held since the supply rose, or never held low, is assumptions 7 and 38. That FLUX_TANK_LOW's raise is
posted first, then FLUX_SUPPLY_EMPTY's, then the transitions of the pass is the model's choice (assumption 40). -/
def Obligations.ResetsRestoreEveryBlock : Prop :=
  ∀ (s : State) (inputs : ContactInputs) (c : Instr) (r : Rtr),
    (c = .powerOnReset inputs ∧ r = ⟨⟨0, 0⟩, .t0, 0, ⟨false, false⟩, false, ⟨true, false, false⟩⟩) ∨
    (c = .externalReset inputs ∧ s.resetPin ≠ .lowSincePowerOn ∧
      r = { s.rtr with causes := { s.rtr.causes with external := true } }) ∨
    (c = .externalReset inputs ∧ s.resetPin = .lowSincePowerOn ∧ r = s.rtr) ∨
    (c = .commandedReset inputs ∧ (∃ b, s.links.machine.sending = some ⟨0x1D, .ok, b⟩) ∧
      r = { s.rtr with causes := { s.rtr.causes with commanded := true } }) →
    ∃ t, exec c s = .next t ∧ t.rtr = r ∧ t.clock = 0 ∧
      (∀ eye : EyeFilter, eye = { accepted := .unknown, candidate := .clear, count := 0, first := 0 } →
        t.trk = {
          rawIndex := 0, position := 0, windowCount := 0, measuredSpeed := 0, speedTimer := .running 1000,
          stallTimer := .running 3000, stallPresent := false,
          geometry := {
            trim := 0, pFlux := 1300, pNozzle := 1600, ph1 := 2200, ph2 := 4200, ph3 := 6200, pGate := 7600, pWave := 8800,
            wMargin := 120, pExit := 11000, tolerance := 40 },
          idRequired := false, entryEye := eye, exitEye := eye, entryOcc := .none, exitOcc := .none, gapRef := none,
          nextSeq := 1, table := [], exitLog := [], removed := [], identities := [],
          mismatch := { entryBlocked := false, exitUntracked := false, boardLost := false }, trackUnknown := true,
          ready := false }) ∧
      (∀ z : ZoneRec, z = {
          state := .off, setpoint := 0, band := 20, temp := 0, tempState := .initial, integral := 0, computed := 0,
          applied := 0, readyCount := 0, outCount := 0, armed := false, overtemp := false, output := false } →
        t.znc = {
          preheatInhibit := false, zones := ⟨z, z, z⟩, windowTimer := .running 2000, kp := ⟨512, 512, 512⟩,
          ki := ⟨8, 8, 8⟩, margin := 150 }) ∧
      t.pot = {
        heat := {
          state := .off, setpoint := 0, band := 20, temp := 0, tempState := .initial, integral := 0, computed := 0,
          applied := 0, readyCount := 0, outCount := 0, armed := false, overtemp := false, output := false },
        windowTimer := .running 2000,
        items := {
          kp := 384, ki := 4, margin := 100, pumpSafe := 2200, holdEnabled := false, holdSetpoint := 2300, alpha := 0,
          tRef := 2500, dPump := 0, levelMin := 5000, feedOn := 6000, feedOff := 6300, levelMax := 7500, budget := 180 },
        level := 0, levelValidity := .unknown, demand := false, feeder := .off, feedAccMs := 0,
        buckets := [0, 0, 0, 0, 0, 0, 0, 0, 0, 0], minuteTimer := .running 60000, wave := .off, target := .off,
        waveBank := .b0, settleTimer := .running 5000, riseTimer := .stopped, riseCount := 0, dipCount := 0, pumpSpeed := 0,
        pumpRunTimer := .stopped, schedule := [], onWave := [], solderOcc := false, levelLow := false, levelHigh := false,
        runaway := false, wireOut := false, pumpCauses := ⟨false, false⟩, runawayIdle := true, levelHighIdle := true } ∧
      t.exm = {
        duct := .normal, duty := .a, outputs := ⟨true, false⟩, lowCount := 0, recoveryCount := 0, recoveryTimer := .stopped,
        fanTimers := ⟨.running 5000, .stopped⟩, firstLoss := none, lastRecovery := none, fdpValue := 0,
        fdpState := .initial, filterTimer := .running 600000, filterInterval := 600000, ductLow := false,
        extractionLost := false, fanFaults := ⟨false, false⟩, filterLoaded := false, filterBlocked := false,
        items := { ductTrip := 300, ductHyst := 60, filterWarn := 700, filterBlock := 1000, filterHyst := 50 } } ∧
      t.aim = {
        records := Vector.replicate 37 { state := .idle, first := none, last := none, count := 0 },
        asserted := { spray := false, preheat := false, wave := false, feed := false, entry := false },
        waveEffect := .inactive, solderOcc := false, levels := Vector.replicate 5 .unknown } ∧
      t.lmc = {
        mode := .standby, phase := .none, active := .b0, banks := ⟨.empty, .empty⟩, idleTimer := .stopped,
        setbackPending := false, safeHeld := false,
        view := { zones := ⟨false, false, false⟩, pot := false, wave := .off, waveBankActive := true, feeding := false },
        awaited := [], supervision := { running := false, window := 0, timer := .stopped, expired := false },
        idleTimeout := 30, wakeEnabled := false } ∧
      (∀ l, t.link l = {
        receiver := { state := .hunt, bytes := [], timer := .stopped }, sending := none, owed := [],
        queue := [], gap := false,
        mask := match l with
          | .machine => { board := true, flux := true, alarm := true, mode := true, supply := true }
          | .safety => { board := false, flux := false, alarm := true, mode := true, supply := false }
          | .trace => { board := true, flux := false, alarm := false, mode := false, supply := false } }) ∧
      t.saq.channels = Vector.replicate 10 {
        value := 0, state := .initial, badRun := 0, goodRun := 0, forced := none, lastCode := 0, hadGood := false } ∧
      t.saq.items = #v[⟨4000, 0, 0, 3900⟩, ⟨4000, 0, 0, 3900⟩, ⟨4000, 0, 0, 3900⟩, ⟨4000, 0, 0, 3900⟩,
        ⟨4000, 0, 0, 3900⟩, ⟨10000, 0, 100, 9900⟩, ⟨2500, 0, 0, 2450⟩, ⟨1000, 0, 0, 980⟩, ⟨3000, 0, 0, 2950⟩, ⟨2000, 0, 0, 1950⟩] ∧
      t.saq.converting = some .wvh ∧ t.saq.pairLeft = [.dsp] ∧
      t.saq.passLeft = [.zs1, .zs2, .zs3, .amb, .pts, .plv, .fdp, .flp] ∧ t.saq.passTimer = .running 250 ∧
      t.saq.priorityTimer = .running 50 ∧ t.saq.contactTimer = .running 10 ∧
      (∀ k : Contact, t.saq.contact k = { accepted := if inputs[k.index] then .closed else .opened, count := 0, forced := none }) ∧
      t.flx = {
        mode := .standby, sprayInhibit := false, board := none, cell := 0, action := 0, outcome := .off, valve := .closed,
        amounts := r.amounts, activeTank := r.activeTank, failedDraw := false, pressureLow := 0,
        tankLow := decide (r.amounts.tank r.activeTank < 1000000),
        supplyEmpty := decide (r.amounts.fst < 1) && decide (r.amounts.snd < 1), pressureCond := false,
        lowThreshold := 1000000, pressureMin := 120 } ∧
      t.posted = (if r.amounts.tank r.activeTank < 1000000 then [.alarmRaise Alarm.fluxTankLow] else []) ++
        (if r.amounts.fst < 1 ∧ r.amounts.snd < 1 then [.alarmRaise Alarm.fluxSupplyEmpty] else []) ++
        Contact.all.map (fun k =>
          transitionArrival k ⟨if inputs[k.index] then .closed else .opened, .unknown, .scan⟩) ∧
      t.pending = s.pending

/-- R190, R192: RESET and CLEAR_RESET_CAUSES are answered OK in every mode; RESET itself changes nothing, and the clear empties the
reset-cause set alone. The reset pin held low changes nothing but the pin, and a POWER_ON reset under a pin held low leaves it held
(assumption 7). COMMANDED_RESET without the OK reply to RESET, or REPLY_END of that reply, changes nothing (assumption 6). -/
def Obligations.ResetRequestsThePinAndTheReply : Prop :=
  (∀ s : State,
    ((s.link .machine).sending = none →
      exec (.reset .machine []) s = .next ((s.received .machine).reply .machine 0x1D .ok [])) ∧
    ((s.link .machine).sending = none → exec (.clearResetCauses .machine []) s = .next
      (((s.received .machine).setRtr
        { s.rtr with causes := ⟨false, false, false⟩ }).reply .machine 0x1A .ok []))) ∧
  (∀ s : State,
    exec .resetPinHeldLow s = .next (s.setResetPin (if s.resetPin = .lowSincePowerOn then .lowSincePowerOn else .low)) ∧
    (∀ inputs, (¬∃ b, s.links.machine.sending = some ⟨0x1D, .ok, b⟩) → exec (.commandedReset inputs) s = .next s) ∧
    (∀ b, s.links.machine.sending = some ⟨0x1D, .ok, b⟩ → exec (.replyEnd .machine) s = .next s) ∧
    (∀ inputs, ∃ t, exec (.powerOnReset inputs) s = .next t ∧
      t.resetPin = (if s.resetPin = .high then .high else .lowSincePowerOn)) ∧
    (∀ inputs, ∃ t, exec (.externalReset inputs) s = .next t ∧ t.resetPin = .high))

/-! ### Track -/

/-- R1 to R3: the encoder pulses. Each trim step drops one pulse of a block of 65,536; a discarded pulse moves the raw index alone;
every other pulse is a track count, at which the position and the window counter advance, the stall timer restarts, a stall ends,
both eyes sample their levels, and READY is evaluated on the state that results (R11). The speed window's expiry takes its counter.
-/
def Obligations.PulsesAreCountedButForTheTrim : Prop :=
  (∀ (trim : Nat) (i : PulseIndex), discards trim i = true ↔ i.toNat % 512 = 0 ∧ i.toNat < 512 * trim) ∧
  (∀ trim : Nat, trim ≤ 127 →
    ((List.range 65536).filter fun n => !discards trim (BitVec.ofNat 16 n)).length = 65536 - trim) ∧
  ∀ (s : State) (entry exit : EyeLevel),
    (discards s.trk.geometry.trim s.trk.rawIndex = true →
      exec (.encoderPulse entry exit) s = .next (s.setTrk { s.trk with rawIndex := s.trk.rawIndex + 1 })) ∧
    (discards s.trk.geometry.trim s.trk.rawIndex = false →
      ∃ t, exec (.encoderPulse entry exit) s = .next t ∧ SameBut [.trk, .flx, .pot, .links, .posted] s t ∧
        t.trk.rawIndex = s.trk.rawIndex + 1 ∧ t.trk.position = s.trk.position + 1 ∧
        t.trk.windowCount = s.trk.windowCount + 1 ∧ t.trk.stallTimer = .running 3000 ∧ t.trk.stallPresent = false ∧
        t.trk.measuredSpeed = s.trk.measuredSpeed ∧ t.trk.speedTimer = s.trk.speedTimer ∧
        t.trk.geometry = s.trk.geometry ∧ t.trk.idRequired = s.trk.idRequired ∧ t.trk.trackUnknown = s.trk.trackUnknown ∧
        t.trk.entryEye = (s.trk.entryEye.sample entry (s.trk.position + 1)).1 ∧
        t.trk.exitEye = (s.trk.exitEye.sample exit (s.trk.position + 1)).1 ∧
        t.trk.ready = t.trk.readyNow s.lmc.mode (s.aim.inhibitActive .entry)
          (s.lmc.bank s.lmc.active).items.minGap) ∧
    exec .speedWindowExpiry s = .next (s.setTrk { s.trk with
      measuredSpeed := s.trk.windowCount, windowCount := 0, speedTimer := .running 1000 })

/-- R8: what an eye filter makes of a sampled level, that a level seen at four counts in a row from count 0 is accepted with the
position of the first of them, and that every track count samples both eyes. -/
def Obligations.EyesAcceptAtTheFourthCount : Prop :=
  (∀ (f : EyeFilter) (l : EyeLevel) (p : Position),
    (f.accepted = EyeLevel.accepted l → f.sample l p = ({ f with count := 0 }, none)) ∧
    (f.accepted ≠ EyeLevel.accepted l → (f.count = 0 ∨ f.candidate ≠ l) →
      f.sample l p = ({ f with candidate := l, first := p, count := 1 }, none)) ∧
    (f.accepted ≠ EyeLevel.accepted l → f.candidate = l →
      (1 ≤ f.count → f.count ≤ 2 → f.sample l p = ({ f with count := f.count + 1 }, none)) ∧
      (f.count = 3 → (f.sample l p).1 = { f with accepted := EyeLevel.accepted l, count := 0 } ∧
        (f.accepted = .unknown → (f.sample l p).2 = some (.first l)) ∧
        (f.accepted = .clear → (f.sample l p).2 = some (.leading f.first)) ∧
        (f.accepted = .blocked → (f.sample l p).2 = some (.trailing f.first))))) ∧
  (∀ (f : EyeFilter) (l : EyeLevel) (p q r u : Position), f.accepted ≠ EyeLevel.accepted l → f.count = 0 →
    ((((f.sample l p).1.sample l q).1.sample l r).1.sample l u).1 =
      { accepted := EyeLevel.accepted l, candidate := l, count := 0, first := p }) ∧
  Trk.reset.entryEye.accepted = .unknown ∧ Trk.reset.entryEye.count = 0 ∧
  Trk.reset.exitEye.accepted = .unknown ∧ Trk.reset.exitEye.count = 0 ∧
  ∀ (s : State) (entry exit : EyeLevel), discards s.trk.geometry.trim s.trk.rawIndex = false →
    ∃ t, exec (.encoderPulse entry exit) s = .next t ∧
      t.trk.entryEye = (s.trk.entryEye.sample entry (s.trk.position + 1)).1 ∧
      t.trk.exitEye = (s.trk.exitEye.sample exit (s.trk.position + 1)).1

/-- R2, R9, R10, R13 to R17, R21, R80: the track count and the entry eye. A leading edge with an occupant is ignored. READY makes a
requested board, which takes the oldest identity; room in the table and the log makes an unrequested one; otherwise TRACK_OVERFLOW
is raised. A new record has the next sequence number, the lowest free slot, the active bank and the AMB reading as its estimate. A
trailing edge captures the length and the gap reference by the occupant, and an overrun leaves the board IN_TRACK without a length.
A count takes the entry eye, the exit eye, the position arrivals, the two overrun checks and READY, in the model's order
(assumption 11); R10 says which arrivals a travel reaches. That an entry overrun raises TRACK_MISMATCH before a held NOZZLE_REACHED
is posted, to which R10, R16 and R21 give no order, is the model's choice (assumption 40). -/
def Obligations.LeadingEdgesAdmitBoards : Prop :=
  (∀ (s : State) (entry exit : EyeLevel), discards s.trk.geometry.trim s.trk.rawIndex = false →
    ∀ s0, s0 = (s.setTrk { s.trk with
        rawIndex := s.trk.rawIndex + 1, position := s.trk.position + 1, windowCount := s.trk.windowCount + 1,
        stallTimer := .running 3000, stallPresent := false }).post (if s.trk.stallPresent then [.alarmEnd 33] else []) →
    ∀ x, x = s.trk.entryEye.sample entry (s.trk.position + 1) → ∀ s1, s1 = s0.setTrk { s0.trk with entryEye := x.1 } →
    ∀ s2, s2 = (match x.2 with
      | none => s1
      | some (.first l) => s1.setTrk { s1.trk with entryOcc := if l = EyeLevel.clear then .none else .ignored }
      | some (.leading p) => s1.entryLeading p
      | some (.trailing p) => s1.entryTrailing p) →
    ∀ y, y = s.trk.exitEye.sample exit (s.trk.position + 1) → ∀ s3, s3 = s2.setTrk { s2.trk with exitEye := y.1 } →
    ∀ s4, s4 = (match y.2 with
      | none => s3
      | some (.first l) => s3.setTrk { s3.trk with exitOcc := if l = EyeLevel.clear then .none else .ignored }
      | some (.leading p) => s3.exitLeading p
      | some (.trailing _) => s3.exitTrailing) →
    exec (.encoderPulse entry exit) s = .next (s4.postPositions s.trk.table).exitOverrun.entryOverrun.evalReady) ∧
  (∀ (s : State) (before : List BoardRecord), s.postPositions before = s.post (s.trk.table.flatMap fun b =>
    b.positionArrivals s.trk.geometry s.trk.position (decide (∃ r ∈ before, r.seq = b.seq ∧ r.phase = .entering)))) ∧
  (∀ (b : BoardRecord) (g : Geometry) (pos : Position) (wasEntering : Bool), ∀ x, x = (pos - b.lead).toNat →
    (b.positionArrivals g pos wasEntering).Nodup ∧
    ∀ a, a ∈ b.positionArrivals g pos wasEntering ↔
      (b.phase ≠ .entering ∧ (x = g.pNozzle ∨ (wasEntering = true ∧ g.pNozzle < x)) ∧ a = .nozzleReached b.seq b.length) ∨
      (∃ len n, b.length = some len ∧ 1 ≤ n ∧ 8 * n < len ∧ x = g.pNozzle + 8 * n ∧ a = .cellBoundary b.seq n) ∨
      (∃ len, b.length = some len ∧ x = g.pNozzle + len ∧ a = .nozzleCleared b.seq) ∨
      (x = g.pGate ∧ a = .gateReached b.seq) ∨ (x = g.pWave - g.wMargin ∧ a = .waveEntered b.seq) ∨
      (x = g.pWave + g.wMargin + 1 + b.length.getD 1240 ∧ a = .waveLeft b.seq)) ∧
  (∀ (s : State) (pos : Position), ∀ clear : Trk, clear = { s.trk with gapRef := some pos, entryOcc := .none } →
    (s.trk.entryOcc = .none → s.entryTrailing pos = s) ∧
    (s.trk.entryOcc = .ignored → s.entryTrailing pos = s.setTrk { s.trk with entryOcc := .none }) ∧
    (s.trk.entryOcc = .untracked → s.entryTrailing pos = (s.setTrk clear).post [.alarmEnd 35]) ∧
    (∀ q b, s.trk.entryOcc = .board q → s.trk.board? q = some b →
      (b.phase = .entering → s.entryTrailing pos = s.setTrk { clear with table := s.trk.table.map fun r =>
        if r.seq = q then { r with
          length := some (pos - r.lead).toNat, phase := .inTrack,
          marks := { r.marks with
            lengthOut := r.marks.lengthOut || decide ((pos - r.lead).toNat < (s.lmc.bank r.bank).items.minLength) ||
              decide ((s.lmc.bank r.bank).items.maxLength < (pos - r.lead).toNat) } } else r }) ∧
      (b.phase ≠ .entering → s.entryTrailing pos =
        (s.setTrk { clear with mismatch := { s.trk.mismatch with entryBlocked := false } }).post
          (if s.trk.mismatch = ⟨true, false, false⟩ then [.alarmEnd 34] else [])))) ∧
  (∀ s : State,
    (∀ q b, s.trk.entryOcc = .board q → s.trk.board? q = some b → b.phase = .entering →
      1240 < (s.trk.position - b.lead).toNat → s.trk.entryEye.count = 0 →
      s.entryOverrun = (s.setTrk { s.trk with
        mismatch := { s.trk.mismatch with entryBlocked := true },
        table := s.trk.table.map fun r =>
          if r.seq = q then { r with phase := .inTrack, marks := { r.marks with lengthOut := true } } else r }).post
            (if s.trk.geometry.pNozzle ≤ (s.trk.position - b.lead).toNat then [.alarmRaise 34, .nozzleReached q none]
              else [.alarmRaise 34])) ∧
    ((∀ q b, s.trk.entryOcc = .board q → s.trk.board? q = some b → b.phase = .entering →
      1240 < (s.trk.position - b.lead).toNat → s.trk.entryEye.count ≠ 0) → s.entryOverrun = s)) ∧
  ∀ (s : State) (pos : Position),
    (s.trk.entryOcc ≠ .none → s.entryLeading pos = s) ∧
    (s.trk.entryOcc = .none →
      ((s.trk.ready = true ∨ (s.trk.table.length < 16 ∧ s.trk.table.length + s.trk.exitLog.length < 32)) →
        ∃ b : BoardRecord,
          s.entryLeading pos = (s.setTrk { s.trk with
            table := s.trk.table ++ [b], nextSeq := if s.trk.nextSeq = 65535 then 1 else s.trk.nextSeq + 1,
            entryOcc := .board b.seq,
            identities := if s.trk.ready then s.trk.identities.tail else s.trk.identities,
            stallTimer := if s.trk.table = [] then .running 3000 else s.trk.stallTimer }).event
              (.boardEntered b.seq b.slot b.bank (!s.trk.ready)) ∧
          b.seq = s.trk.nextSeq ∧ b.lead = pos ∧ b.bank = s.lmc.active ∧
          b.identity = (if s.trk.ready then s.trk.identities.head? else none) ∧ b.length = none ∧ b.phase = .entering ∧
          b.fluxStatus = .notYet ∧ b.fluxDose = 0 ∧ b.countedDose = 0 ∧
          b.estimate = (if usable (s.saq.channel .amb).reported then (s.saq.channel .amb).read else 250) ∧
          b.peak = b.estimate ∧ b.soak = 0 ∧ b.decision = .pending ∧ b.dryReason = none ∧ b.gateEst = none ∧
          b.waveResult = .notYet ∧
          b.marks = { unrequested := !s.trk.ready, lengthOut := false, tankEmpty := false, sprayInhibited := false,
                      lowPressure := false, thermalUncertain := !usable (s.saq.channel .amb).reported,
                      stalled := false } ∧
          (s.trk.table.length < 16 → b.slot < 16 ∧ (∀ r ∈ s.trk.table, r.slot ≠ b.slot) ∧
            ∀ n, n < b.slot → ∃ r ∈ s.trk.table, r.slot = n)) ∧
      (s.trk.ready = false → ¬(s.trk.table.length < 16 ∧ s.trk.table.length + s.trk.exitLog.length < 32) →
        s.entryLeading pos = ((s.setTrk { s.trk with entryOcc := .untracked }).post [.alarmRaise 35]).event
          (.boardUntracked .entry)))

/-- R4, R19 to R23, R25, R56, R93, R158: leaving the table, the exit eye, and CLEAR_TRACK. A board's exit record, DEFICIENT if it
was being sprayed (for every outcome, assumption 15), goes to the end of the log, and the board leaves the spray, the wave and the
schedule; BOARD_EXITED is posted, a PENDING board's leaving is handed to LMC (assumption 19), and an empty table ends a stall and,
in DRAIN, is handed to LMC. The exit eye matches, loses and lets go of boards with the causes of TRACK_MISMATCH. CLEAR_TRACK takes
every board in order, leaves IGNORED at an eye it took a board from and any other occupant as it was, frees the gap reference and
TRACK_UNKNOWN, and is refused by the line mode and then while a board is on the wave. -/
def Obligations.BoardsLeaveThroughTheLog : Prop :=
  (∀ (s : State) (seq : Nat) (o : ExitOutcome) (b : BoardRecord), s.trk.board? seq = some b →
    ∀ t, t = s.leaveTable seq o →
    SameBut [.trk, .flx, .pot, .links, .posted] s t ∧
    t.trk.table.map (·.seq) = (s.trk.table.map (·.seq)).filter (· != seq) ∧
    t.trk.removed = s.trk.removed ∧ t.trk.exitLog = s.trk.exitLog ++
      [(if s.flx.board = some seq then { b with fluxStatus := .deficient } else b).exitRecord o s.clock] ∧
    t.flx = (if s.flx.board = some seq then { s.flx with board := none, valve := .closed } else s.flx) ∧
    t.pot.schedule = s.pot.schedule.filter (fun e => e.seq != seq) ∧
    t.pot.onWave = s.pot.onWave.filter (fun q => q != seq) ∧
    t.trk.entryOcc = (if s.trk.entryOcc = .board seq then .ignored else s.trk.entryOcc) ∧
    (∀ l, t.link l = (s.link l).copyEvent ⟨s.clock, .boardExited seq o⟩) ∧
    t.trk.mismatch = (if s.trk.entryOcc = .board seq then { s.trk.mismatch with entryBlocked := false }
      else s.trk.mismatch) ∧
    (s.trk.entryOcc = .board seq → s.trk.mismatch = ⟨true, false, false⟩ → Instr.alarmEnd 34 ∈ t.posted) ∧
    (b.decision = .pending → Instr.gatedArrival t.trk.pendingBoards ∈ t.posted) ∧
    (t.trk.table ≠ [] → t.trk.stallPresent = s.trk.stallPresent) ∧
    (t.trk.table = [] → t.trk.stallPresent = false ∧ (s.trk.stallPresent = true → Instr.alarmEnd 33 ∈ t.posted) ∧
      (s.lmc.mode = .drain → Instr.tableEmptyArrival ∈ t.posted))) ∧
  (∀ (g : Geometry) (x : Nat), g.inExitWindow x = true ↔ g.pExit - g.tolerance ≤ x ∧ x ≤ g.pExit + g.tolerance) ∧
  (∀ (s : State) (pos : Position), ∀ first, first = s.trk.table.find? (fun b => b.phase == .inTrack) →
    (s.trk.exitOcc ≠ .none → s.exitLeading pos = s) ∧
    (s.trk.exitOcc = .none →
      (∀ b, first = some b → s.trk.geometry.inExitWindow (pos - b.lead).toNat = true →
        s.exitLeading pos = (s.setTrk { s.trk with
          exitOcc := .board b.seq, mismatch := { s.trk.mismatch with boardLost := false },
          table := s.trk.table.map fun r => if r.seq = b.seq then { r with phase := .atExit } else r }).post
            (if s.trk.mismatch = ⟨false, false, true⟩ then [.alarmEnd 34] else [])) ∧
      ((∀ b, first = some b → s.trk.geometry.inExitWindow (pos - b.lead).toNat = false) →
        s.exitLeading pos = ((s.setTrk { s.trk with
          exitOcc := .untracked, mismatch := { s.trk.mismatch with exitUntracked := true } }).post [.alarmRaise 34]).event
            (.boardUntracked .exit)))) ∧
  (∀ s : State,
    (s.trk.exitOcc = .none → s.exitTrailing = s) ∧
    (s.trk.exitOcc = .ignored → s.exitTrailing = s.setTrk { s.trk with exitOcc := .none }) ∧
    (s.trk.exitOcc = .untracked → s.exitTrailing = (s.setTrk { s.trk with
      exitOcc := .none, mismatch := { s.trk.mismatch with exitUntracked := false } }).post
        (if s.trk.mismatch = ⟨false, true, false⟩ then [.alarmEnd 34] else [])) ∧
    (∀ q u, s.trk.exitOcc = .board q → u = s.leaveTable q .normal →
      s.exitTrailing = u.setTrk { u.trk with exitOcc := .none })) ∧
  (∀ s : State, s.exitOverrun = (s.loseBoards s.trk.table.length).exitHeld ∧
    (∀ u : State, u = s.loseBoards s.trk.table.length → ∀ b, u.trk.table.find? (fun b => b.phase == .inTrack) = some b →
      (u.trk.position - b.lead).toNat ≤ u.trk.geometry.pExit + u.trk.geometry.tolerance ∨
        (u.trk.exitEye.accepted = .clear ∧ 0 < u.trk.exitEye.count ∧ u.trk.exitEye.candidate = .blocked ∧
          u.trk.geometry.inExitWindow (u.trk.exitEye.first - b.lead).toNat = true)) ∧
    (∀ n b u, s.trk.table.find? (fun b => b.phase == .inTrack) = some b → u = s.leaveTable b.seq .lost →
      ∀ lost : Bool, (lost = true ↔ s.trk.geometry.pExit + s.trk.geometry.tolerance < (s.trk.position - b.lead).toNat ∧
        ¬(s.trk.exitEye.accepted = .clear ∧ 0 < s.trk.exitEye.count ∧ s.trk.exitEye.candidate = .blocked ∧
          s.trk.geometry.inExitWindow (s.trk.exitEye.first - b.lead).toNat = true)) →
      s.loseBoards (n + 1) = if lost = true then
        ((u.setTrk { u.trk with mismatch := { u.trk.mismatch with boardLost := true } }).post [.alarmRaise 34]).loseBoards n
        else s) ∧
    (∀ n, (∀ b ∈ s.trk.table, b.phase ≠ .inTrack) → s.loseBoards n = s) ∧
    (∀ q b u, s.trk.exitOcc = .board q → s.trk.board? q = some b → u = s.leaveTable q .lost →
      s.exitHeld = if s.trk.geometry.pExit + 1240 + s.trk.geometry.tolerance < (s.trk.position - b.lead).toNat then
        (u.setTrk { u.trk with
          exitOcc := .untracked, mismatch := { u.trk.mismatch with exitUntracked := true } }).post [.alarmRaise 34]
        else s) ∧
    ((∀ q, s.trk.exitOcc ≠ .board q) → s.exitHeld = s)) ∧
  ∀ s : State, ∀ g, (s.link .machine).sending = none → g = s.received .machine →
    (s.lmc.mode = .production ∨ s.lmc.mode = .changeover →
      exec (.clearTrack .machine []) s = .next (g.reply .machine 0x14 .wrongMode [])) ∧
    (s.lmc.mode ≠ .production → s.lmc.mode ≠ .changeover →
      (s.pot.onWave ≠ [] → exec (.clearTrack .machine []) s = .next (g.reply .machine 0x14 .busy [])) ∧
      (s.pot.onWave = [] → (s.trk.table.map (·.seq)).Nodup →
        ∃ t, exec (.clearTrack .machine []) s = .next t ∧ SameBut [.trk, .flx, .pot, .links, .posted] s t ∧
          t.trk.table = [] ∧
          t.trk.removed = s.trk.removed ∧ t.trk.exitLog = s.trk.exitLog ++ s.trk.table.map (fun b =>
            (if s.flx.board = some b.seq then { b with fluxStatus := .deficient } else b).exitRecord .cleared s.clock) ∧
          t.trk.gapRef = none ∧ t.trk.trackUnknown = false ∧ t.trk.mismatch.boardLost = false ∧
          (s.trk.mismatch = ⟨false, false, true⟩ → Instr.alarmEnd 34 ∈ t.posted) ∧
          (∀ q, t.trk.exitOcc ≠ .board q) ∧
          (∀ b ∈ s.trk.table, (s.trk.exitOcc = .board b.seq → t.trk.exitOcc = .ignored) ∧
            (s.trk.entryOcc = .board b.seq → t.trk.entryOcc = .ignored)) ∧
          ((∀ q, s.trk.exitOcc ≠ .board q) → t.trk.exitOcc = s.trk.exitOcc) ∧
          ((∀ b ∈ s.trk.table, s.trk.entryOcc ≠ .board b.seq) → t.trk.entryOcc = s.trk.entryOcc) ∧
          t.trk.identities = s.trk.identities ∧ t.trk.position = s.trk.position ∧ t.trk.rawIndex = s.trk.rawIndex ∧
          t.trk.nextSeq = s.trk.nextSeq ∧ t.trk.geometry = s.trk.geometry ∧
          (∀ b ∈ s.trk.table, ∀ e ∈ t.pot.schedule, e.seq ≠ b.seq) ∧
          t.trk.ready = t.trk.readyNow s.lmc.mode (s.aim.inhibitActive .entry)
            (s.lmc.bank s.lmc.active).items.minGap ∧
          (t.link .machine).sending = some ⟨0x14, .ok, []⟩))

/-- R4, R11, R55: the stall timer's expiry, and what TRK does at a new line mode, a change of active bank and a change of the
ENTRY inhibit. A stall begins over boards in the three running modes; it marks every board, raises CONVEYOR_STALL and shuts the
valve. READY is high exactly while its seven conditions hold. A stall already present and an expiry of a timer that does not run
change nothing (assumptions 5, 12). -/
def Obligations.StallAndReadyFollowTheirRules : Prop :=
  (∀ (t : Trk) (m : LineMode) (e : Bool) (gap : Nat), t.readyNow m e gap = true ↔
    m = .production ∧ e = false ∧ t.trackUnknown = false ∧ t.table.length < 16 ∧
      t.table.length + t.exitLog.length < 24 ∧ t.entryEye.accepted = .clear ∧
      (∀ g, t.gapRef = some g → gap ≤ (t.position - g).toNat) ∧ (t.idRequired = true → t.identities ≠ [])) ∧
  ∀ s : State, ∀ gap, gap = (s.lmc.bank s.lmc.active).items.minGap →
    (s.trk.stallTimer.isRunning = false → exec .stallTimerExpiry s = .next s) ∧
    (s.trk.stallTimer.isRunning = true →
      (s.trk.table ≠ [] ∧ s.lmc.mode ∈ [.production, .changeover, .drain] ∧ s.trk.stallPresent = false →
        exec .stallTimerExpiry s = .next (((s.setTrk { s.trk with
          stallTimer := .expired, stallPresent := true,
          table := s.trk.table.map fun b => { b with marks := { b.marks with stalled := true } } }).post
            [.alarmRaise 33]).setFlx { s.flx with valve := .closed })) ∧
      (¬(s.trk.table ≠ [] ∧ s.lmc.mode ∈ [.production, .changeover, .drain] ∧ s.trk.stallPresent = false) →
        exec .stallTimerExpiry s = .next (s.setTrk { s.trk with stallTimer := .expired }))) ∧
    (∀ m, ∃ t, exec (.lineModeArrival .trk m) s = .next t ∧ SameBut [.trk, .posted] s t ∧
      t.trk = { s.trk with
        stallTimer := .running 3000,
        stallPresent := if m ∈ [.production, .changeover, .drain] then s.trk.stallPresent else false,
        ready := s.trk.readyNow m (s.aim.inhibitActive .entry) gap } ∧
      t.posted = s.posted.erase (.lineModeArrival .trk m) ++
        (if m ∉ [.production, .changeover, .drain] ∧ s.trk.stallPresent = true then [.alarmEnd 33] else [])) ∧
    (∀ a, exec (.entryInhibitChange a) s = .next ((s.taken (.entryInhibitChange a)).setTrk
      { s.trk with ready := s.trk.readyNow s.lmc.mode a gap })) ∧
    (∀ b, exec (.activeBankArrival .trk b) s = .next ((s.taken (.activeBankArrival .trk b)).setTrk
      { s.trk with ready := s.trk.readyNow s.lmc.mode (s.aim.inhibitActive .entry) gap }))

/-! ### Flux -/

/-- R46: cell n of a board takes the action of the run that covers it, counted from cell 0 in list order, and action 0 beyond the
last run or where the bank has none; and a spray map that a write takes has 1 to 32 runs of 1 to 255 cells. -/
def Obligations.RunsCoverTheirCells : Prop :=
  (∀ (before : List Run) (r : Run) (after : List Run) (n : Nat), (before.map (·.cells)).sum ≤ n →
    n < (before.map (·.cells)).sum + r.cells → actionAt (before ++ r :: after) n = r.action) ∧
  (∀ (runs : List Run) (n : Nat), (runs.map (·.cells)).sum ≤ n → actionAt runs n = 0) ∧
  (∀ n, Bank.empty.actionAt n = 0 ∧ ∀ i, (Bank.valid i).actionAt n = actionAt i.map n) ∧
  (∀ (bs : List Byte) (runs : List Run), mapBody bs = some runs →
    1 ≤ runs.length ∧ runs.length ≤ 32 ∧ ∀ r ∈ runs, 1 ≤ r.cells ∧ r.cells ≤ 255)

/-- R50, R57: the draw of a dose: from the active tank, else, with its residue written off, from the other; a failed draw sets the
flag and is one raise of FLUX_SUPPLY_EMPTY (the model's choice, assumption 16). The retained record takes every deduction, write-off
and switch with FLX. -/
def Obligations.ADrawTakesItsDose : Prop :=
  ∀ (s : State) (d : Nat), ∀ k, k = s.flx.activeTank → ∀ t, t = (s.draw d).1 →
    SameBut [.flx, .rtr, .links, .posted] s t ∧
    t.flx.board = s.flx.board ∧ t.flx.cell = s.flx.cell ∧ t.flx.action = s.flx.action ∧ t.flx.outcome = s.flx.outcome ∧
    t.flx.valve = s.flx.valve ∧ t.flx.lowThreshold = s.flx.lowThreshold ∧ t.flx.mode = s.flx.mode ∧
    t.flx.sprayInhibit = s.flx.sprayInhibit ∧
    (d ≤ s.flx.amounts.tank k →
      (s.draw d).2 = true ∧ t.flx.amounts = s.flx.amounts.setTank k (s.flx.amounts.tank k - d) ∧
      t.flx.activeTank = k ∧ t.flx.failedDraw = false ∧ t.links = s.links) ∧
    (s.flx.amounts.tank k < d → 0 < s.flx.amounts.tank k.other →
      t.flx.activeTank = k.other ∧
      (∀ l, t.link l = (s.link l).copyEvent
        ⟨s.clock, .tankSwitched k.other .exhausted (s.flx.amounts.tank k)⟩) ∧
      (d ≤ s.flx.amounts.tank k.other →
        (s.draw d).2 = true ∧ t.flx.failedDraw = false ∧
        t.flx.amounts = (s.flx.amounts.setTank k 0).setTank k.other (s.flx.amounts.tank k.other - d)) ∧
      (s.flx.amounts.tank k.other < d →
        (s.draw d).2 = false ∧ t.flx.failedDraw = true ∧ t.flx.amounts = s.flx.amounts.setTank k 0 ∧
        Instr.alarmRaise Alarm.fluxSupplyEmpty ∈ t.posted)) ∧
    (s.flx.amounts.tank k < d → s.flx.amounts.tank k.other = 0 →
      (s.draw d).2 = false ∧
      t = (s.setFlx { s.flx with failedDraw := true, supplyEmpty := true }).post [.alarmRaise Alarm.fluxSupplyEmpty]) ∧
    (s.rtr.amounts = s.flx.amounts → s.rtr.activeTank = s.flx.activeTank →
      t.rtr = { s.rtr with amounts := t.flx.amounts, activeTank := t.flx.activeTank }) ∧
    ((s.draw d).2 = true →
      t.flx.tankLow = decide (t.flx.amounts.tank t.flx.activeTank < s.flx.lowThreshold) ∧
      t.flx.supplyEmpty = (decide (t.flx.amounts.fst < (s.lmc.bank s.lmc.active).supplyThreshold) &&
        decide (t.flx.amounts.snd < (s.lmc.bank s.lmc.active).supplyThreshold)))

/-- R57 to R61, R191: REFILL and SELECT_TANK, in the order of their checks, with the two supply conditions as they stand after. A
refill sets the amount in FLX and in the retained record and clears the failed-draw flag; both tanks refilled make the record valid.
-/
def Obligations.RefillsAndSelectionsSetTheTanks : Prop :=
  ∀ s : State, ∀ supply, supply = (s.lmc.bank s.lmc.active).supplyThreshold →
    (∀ n a3 a2 a1 a0 : Byte, ∀ body, body = [n, a3, a2, a1, a0] →
      ∀ v, v = 16777216 * a3.toNat + 65536 * a2.toNat + 256 * a1.toNat + a0.toNat →
      ∀ g, (s.link .machine).sending = none → g = s.received .machine →
      (2 ≤ n.toNat → exec (.refill .machine body) s = .next (g.reply .machine 0x15 .invalid [])) ∧
      (∀ k : Tank, k.code = n →
        (50000000 < v ∨ v < s.flx.amounts.tank k →
          exec (.refill .machine body) s = .next (g.reply .machine 0x15 .invalid [])) ∧
        (v ≤ 50000000 → s.flx.amounts.tank k ≤ v →
          ∃ t, exec (.refill .machine body) s = .next t ∧ SameBut [.flx, .rtr, .links, .posted] s t ∧
            t.flx = { s.flx with
              amounts := s.flx.amounts.setTank k v, failedDraw := false,
              tankLow := decide ((s.flx.amounts.setTank k v).tank s.flx.activeTank < s.flx.lowThreshold),
              supplyEmpty := decide ((s.flx.amounts.setTank k v).fst < supply) &&
                decide ((s.flx.amounts.setTank k v).snd < supply) } ∧
            t.rtr = { s.rtr with
              amounts := s.rtr.amounts.setTank k v, refillSeen := s.rtr.refillSeen.setTank k true,
              validity := s.rtr.validity || s.rtr.refillSeen.tank k.other } ∧
            t.links = (g.reply .machine 0x15 .ok []).links))) ∧
    (∀ n : Byte, ∀ g, (s.link .machine).sending = none → g = s.received .machine →
      (2 ≤ n.toNat → exec (.selectTank .machine [n]) s = .next (g.reply .machine 0x16 .invalid [])) ∧
      (∀ k : Tank, k.code = n →
        ((∃ b ∈ s.trk.table, b.fluxStatus = .spraying) →
          exec (.selectTank .machine [n]) s = .next (g.reply .machine 0x16 .busy [])) ∧
        ((∀ b ∈ s.trk.table, b.fluxStatus ≠ .spraying) →
          (k = s.flx.activeTank → exec (.selectTank .machine [n]) s = .next (g.reply .machine 0x16 .ok [])) ∧
          (k ≠ s.flx.activeTank →
            ∃ t, exec (.selectTank .machine [n]) s = .next t ∧ SameBut [.flx, .rtr, .links, .posted] s t ∧
              t.flx = { s.flx with
                activeTank := k, tankLow := decide (s.flx.amounts.tank k < s.flx.lowThreshold),
                supplyEmpty := s.flx.failedDraw ||
                  (decide (s.flx.amounts.fst < supply) && decide (s.flx.amounts.snd < supply)) } ∧
              t.rtr = { s.rtr with activeTank := k } ∧
              t.links = ((g.event (.tankSwitched k .selected 0)).reply .machine 0x16 .ok []).links))))

/-- R48, R49, R51, R53, R54: the nozzle commands. A cell's outcome is the first case that holds, on the line mode and the SPRAY
inhibit that FLX took last (assumption 33); the valve is open in a SPRAYED cell alone, the board takes its dose or its mark, and a
spray-ON cell marked YES posts FLUX_MARK. NOZZLE_REACHED starts a board with a length at cell 0, CELL_BOUNDARY goes on, and
NOZZLE_CLEARED closes the valve and judges the counted dose; each is discarded for another board. -/
def Obligations.CellsAreTreatedByTheFirstCase : Prop :=
  (∀ (s : State) (b : BoardRecord) (n : Nat), ∀ a, a = (s.lmc.bank b.bank).action ((s.lmc.bank b.bank).actionAt n) →
    ∀ t, t = s.applyCell b n → ∀ d, d = s.draw a.dose →
    SameBut [.trk, .flx, .rtr, .links, .posted] s t ∧
    t.flx.cell = n ∧ t.flx.action = (s.lmc.bank b.bank).actionAt n ∧ t.flx.board = s.flx.board ∧
    t.flx.outcome = (if a.spray = false then .off
      else if s.flx.mode ∉ [.production, .changeover, .drain] then .held
      else if s.flx.sprayInhibit = true then .inhibited
      else if d.2 = true then .sprayed else .empty) ∧
    t.flx.valve = (if t.flx.outcome = .sprayed then .opened else .closed) ∧
    (t.flx.outcome = .sprayed ∨ t.flx.outcome = .empty →
      t.flx.amounts = d.1.flx.amounts ∧ t.flx.activeTank = d.1.flx.activeTank ∧
      t.flx.failedDraw = d.1.flx.failedDraw ∧ t.rtr = d.1.rtr) ∧
    (t.flx.outcome ≠ .sprayed → t.flx.outcome ≠ .empty →
      t.flx.amounts = s.flx.amounts ∧ t.flx.activeTank = s.flx.activeTank ∧
      t.flx.failedDraw = s.flx.failedDraw ∧ t.rtr = s.rtr) ∧
    t.trk = { s.trk with table := s.trk.table.map fun r =>
      if r.seq = b.seq then
        match t.flx.outcome with
        | .off => r
        | .held | .inhibited => { r with marks := { r.marks with sprayInhibited := true } }
        | .empty => { r with marks := { r.marks with tankEmpty := true } }
        | .sprayed => { r with
            fluxDose := min 65535 (r.fluxDose + a.dose),
            countedDose := if a.counted then min 65535 (r.countedDose + a.dose) else r.countedDose }
      else r } ∧
    (∀ l k, k = (if t.flx.outcome = .sprayed ∨ t.flx.outcome = .empty then d.1.link l else s.link l) →
      t.link l = if a.spray = true ∧ a.mark = true then k.copyEvent ⟨s.clock, .fluxMark b.seq n t.flx.outcome⟩ else k)) ∧
  ∀ (s : State) (seq : Nat),
    (∀ len, s.trk.board? seq = none →
      exec (.nozzleReached seq len) s = .next (s.taken (.nozzleReached seq len))) ∧
    (∀ b, s.trk.board? seq = some b →
      exec (.nozzleReached seq none) s = .next ((s.taken (.nozzleReached seq none)).setTrk { s.trk with
        table := s.trk.table.map fun r => if r.seq = seq then { r with fluxStatus := .deficient } else r }) ∧
      ∀ len, exec (.nozzleReached seq (some len)) s = .next
        ((((s.taken (.nozzleReached seq (some len))).setTrk { s.trk with
          table := s.trk.table.map fun r => if r.seq = seq then { r with fluxStatus := .spraying } else r }).setFlx
            { s.flx with board := some seq }).applyCell b 0)) ∧
    (∀ n, s.flx.board ≠ some seq → exec (.cellBoundary seq n) s = .next (s.taken (.cellBoundary seq n))) ∧
    (∀ n b, s.flx.board = some seq → s.trk.board? seq = some b →
      exec (.cellBoundary seq n) s = .next ((s.taken (.cellBoundary seq n)).applyCell b n)) ∧
    (s.flx.board ≠ some seq → exec (.nozzleCleared seq) s = .next (s.taken (.nozzleCleared seq))) ∧
    (s.flx.board = some seq → exec (.nozzleCleared seq) s = .next
      (((s.taken (.nozzleCleared seq)).setTrk { s.trk with table := s.trk.table.map fun r =>
        if r.seq = seq then
          { r with fluxStatus := if (s.lmc.bank r.bank).items.fluxMinimum ≤ r.countedDose then .ok else .deficient }
        else r }).setFlx { s.flx with board := none, valve := .closed }))

/-- R54, R61, R62: what shuts an open valve within a cell, and the line mode and SPRAY inhibit that FLX keeps from there on
(assumption 33), FLX at a change of active bank, and the FLP samples, which count only over an open valve: the fourth low one in a
row raises FLUX_PRESSURE, and the board in spray is marked from there until a good one. -/
def Obligations.SprayIsCutAndPressureJudged : Prop :=
  ∀ s : State,
    (∀ (c : Instr) (o : CellOutcome) (f : Flx),
      (c = .sprayInhibitChange true ∧ o = .inhibited ∧ f = { s.flx with sprayInhibit := true }) ∨
        (∃ m, m ∉ [.production, .changeover, .drain] ∧ c = .lineModeArrival .flx m ∧ o = .held ∧
          f = { s.flx with mode := m }) →
      (s.flx.valve = .closed → exec c s = .next ((s.taken c).setFlx f)) ∧
      (s.flx.valve = .opened → exec c s = .next
        (((s.taken c).setFlx { f with valve := .closed, outcome := o }).setTrk { s.trk with
          table := s.trk.table.map fun r =>
            if s.flx.board = some r.seq then { r with marks := { r.marks with sprayInhibited := true } } else r }))) ∧
    exec (.sprayInhibitChange false) s =
      .next ((s.taken (.sprayInhibitChange false)).setFlx { s.flx with sprayInhibit := false }) ∧
    (∀ m, m ∈ [.production, .changeover, .drain] → exec (.lineModeArrival .flx m) s =
      .next ((s.taken (.lineModeArrival .flx m)).setFlx { s.flx with mode := m })) ∧
    (∀ b e, e = (s.flx.failedDraw ||
        (decide (s.flx.amounts.fst < (s.lmc.bank s.lmc.active).supplyThreshold) &&
          decide (s.flx.amounts.snd < (s.lmc.bank s.lmc.active).supplyThreshold))) →
      exec (.activeBankArrival .flx b) s = .next
        (((s.taken (.activeBankArrival .flx b)).setFlx { s.flx with supplyEmpty := e }).post
          (if e = s.flx.supplyEmpty then [] else if e then [.alarmRaise 24] else [.alarmEnd 24]))) ∧
    (∀ v rep, ∀ g, g = s.taken (.flpSampleArrival v rep) →
      (s.flx.valve = .closed ∨ usable rep = false → exec (.flpSampleArrival v rep) s = .next g) ∧
      (s.flx.valve = .opened → usable rep = true →
        (s.flx.pressureMin ≤ v → exec (.flpSampleArrival v rep) s = .next
          ((g.setFlx { s.flx with pressureLow := 0, pressureCond := false }).post
            (if s.flx.pressureCond then [.alarmEnd 25] else []))) ∧
        (v < s.flx.pressureMin →
          (s.flx.pressureLow ≤ 2 → exec (.flpSampleArrival v rep) s = .next
            (g.setFlx { s.flx with pressureLow := s.flx.pressureLow + 1 })) ∧
          (3 ≤ s.flx.pressureLow → exec (.flpSampleArrival v rep) s = .next
            (((g.setFlx (if s.flx.pressureLow = 3 then { s.flx with pressureLow := 4, pressureCond := true } else s.flx)).post
              (if s.flx.pressureLow = 3 then [.alarmRaise 25] else [])).setTrk { s.trk with
                table := s.trk.table.map fun r =>
                  if s.flx.board = some r.seq then { r with marks := { r.marks with lowPressure := true } } else r })))))

/-! ### Thermal estimate and wave gate -/

/-- R81 to R84: an update's step in integers, which never passes the sample and never stops short of it, then the soak count and the
peak; and a thermal sample's arrival, which updates, or marks where it cannot be used, every board it reaches and no other. The
midpoint of an odd length, and with it the boards a sample reaches, is rounded as assumption 13 says. -/
def Obligations.UpdatesMoveTowardTheSample : Prop :=
  (∀ tb ts c : Nat, tb ≤ 4000 → ts ≤ 4000 → c ≤ 4095 → ∀ e, e = updatedEstimate tb ts c →
    ∀ d : Int, d = (ts : Int) - tb → ∀ m : Nat, m = ((d * c).natAbs + 2048) / 4096 →
    (e : Int) = tb + (if 0 < d then ((max m 1 : Nat) : Int) else if d < 0 then -((max m 1 : Nat) : Int) else 0) ∧
    e ≤ 4000 ∧ min tb ts ≤ e ∧ e ≤ max tb ts ∧ (tb ≠ ts → e ≠ tb)) ∧
  (∀ (b : BoardRecord) (ts c threshold : Nat), ∀ e, e = updatedEstimate b.estimate ts c →
    b.updated ts c threshold =
      { b with estimate := e, soak := if threshold ≤ e then min 65535 (b.soak + 1) else b.soak, peak := max b.peak e }) ∧
  ∀ (s : State) (src : ThermalSource) (v : Nat) (rep : ReportedState),
    ∃ t, exec (.thermalSampleArrival src v rep) s = .next t ∧ SameBut [.trk, .posted] s t ∧
      t.posted = s.posted.erase (.thermalSampleArrival src v rep) ∧ t.trk = { s.trk with table := t.trk.table } ∧
      t.trk.table.length = s.trk.table.length ∧
      ∀ (n : Nat) (b : BoardRecord), s.trk.table[n]? = some b → ∃ b', t.trk.table[n]? = some b' ∧
        ∀ hit : Bool, (hit = true ↔ b.decision = .pending ∧ ∃ len, b.length = some len ∧
          sourceCovers src (s.trk.geometry.region (b.travel s.trk.position - len / 2)) = true) →
        (hit = false → b' = b) ∧
        (hit = true → usable rep = false → b' = { b with marks := { b.marks with thermalUncertain := true } }) ∧
        (hit = true → usable rep = true →
          (s.lmc.bank b.bank = .empty → b' = b) ∧
          ∀ i, (s.lmc.bank b.bank = .valid i ∨ s.lmc.bank b.bank = .unchecked i) →
            b' = b.updated v (i.couplingFor src) i.soakThreshold)

/-- R87, R89, R90, R92, R93: the wave gate. The reason is the first check that fails; a PENDING board takes the decision, its reason
and its estimate, joins the wave schedule, posts BOARD_GATED and hands LMC the number of boards still PENDING. A board is judged
once (assumption 19). -/
def Obligations.TheGateTakesTheFirstFailure : Prop :=
  (∀ (b : BoardRecord) (i : BankItems) (u : Bool) (fails : DryReason → Prop),
    fails = (fun r => match r with
      | .unrequested => b.marks.unrequested = true
      | .boardSize => b.marks.lengthOut = true
      | .waveUnavailable => u = true
      | .fluxDeficient => b.fluxStatus ≠ .ok
      | .thermalUnknown => b.marks.thermalUncertain = true
      | .tooCold => b.estimate < i.tMin
      | .tooHot => i.tMax < b.estimate
      | .soakShort => b.soak < i.soakMinimum) →
    ∀ order : List DryReason, order = [.unrequested, .boardSize, .waveUnavailable, .fluxDeficient, .thermalUnknown, .tooCold,
        .tooHot, .soakShort] →
      (gateReason b i u = none ↔ ∀ r, ¬fails r) ∧
      ∀ (n : Nat) (r : DryReason), order[n]? = some r →
        (gateReason b i u = some r ↔ fails r ∧ ∀ r' ∈ order.take n, ¬fails r')) ∧
  ∀ s : State,
    (s.waveUnavailable = true ↔ s.pot.heat.state ≠ .ready ∨ s.aim.waveEffect ≠ .inactive ∨ s.pot.wave = .off ∨
      s.lmc.mode ∉ [.production, .changeover, .drain]) ∧
    ∀ seq, ∀ g, g = s.taken (.gateReached seq) →
      (s.trk.board? seq = none → exec (.gateReached seq) s = .next g) ∧
      ∀ b, s.trk.board? seq = some b →
        (b.decision ≠ .pending → exec (.gateReached seq) s = .next g) ∧
        (b.decision = .pending →
          ∀ why, why = gateReason b (s.lmc.bank b.bank).items s.waveUnavailable →
          ∀ d, d = (if why = none then GateDecision.solder else .dry) →
          ∃ t, exec (.gateReached seq) s = .next t ∧ SameBut [.trk, .pot, .links, .posted] s t ∧
            (∃ b', t.trk.board? seq = some b' ∧ b' =
              { b with gateEst := some b.estimate, decision := d, dryReason := why, waveResult := b'.waveResult }) ∧
            (∀ q, q ≠ seq → (t.trk.board? q).map (fun r => { r with waveResult := .notYet }) =
              (s.trk.board? q).map (fun r => { r with waveResult := .notYet })) ∧
            t.pot.schedule = s.pot.schedule ++ [⟨seq, b.bank, d⟩] ∧ t.pot = (s.appendSchedule ⟨seq, b.bank, d⟩).pot ∧
            (∀ l, t.link l = (s.link l).copyEvent ⟨s.clock, .boardGated seq d why b.estimate⟩) ∧
            Instr.gatedArrival t.trk.pendingBoards ∈ t.posted)

/-! ### Heaters, zones and pot -/

/-- R69, R70, R102: the heater law stays within its ranges and freezes the integral while the output saturates in the direction of
the error; its divisions go to the nearest integer, ties away from zero. A window start applies the computed duty and turns the
output on for a positive on time; at the end of the on time the output goes off, but for a duty that fills the window (assumption
25). -/
def Obligations.HeatersFollowTheLawAndTheWindow : Prop :=
  (∀ (p : Int) (d : Nat), 0 < d →
    2 * (p - roundDiv p d * d).natAbs ≤ d ∧ (2 * (p - roundDiv p d * d).natAbs = d → p.natAbs ≤ (roundDiv p d).natAbs * d)) ∧
  (∀ kp ki sp t i : Nat, i ≤ 65280 → ∀ e : Int, e = (sp : Int) - t → ∀ cand, cand = clampInt 0 65280 (i + e * ki) →
    ∀ out, out = roundDiv (e * kp + cand) 256 → ∀ x, x = heaterLaw kp ki sp t i →
    x.duty ≤ 255 ∧ x.integral ≤ 65280 ∧
    ((255 < out ∧ 0 < e) ∨ (out < 0 ∧ e < 0) →
      x.integral = i ∧ (x.duty : Int) = clampInt 0 255 (roundDiv (e * kp + i) 256)) ∧
    (¬((255 < out ∧ 0 < e) ∨ (out < 0 ∧ e < 0)) → (x.integral : Int) = cand ∧ (x.duty : Int) = out)) ∧
  (∀ n, n ≤ 255 → 2 * ((onTimeMs n : Int) * 255 - n * 2000).natAbs ≤ 255 ∧ (onTimeMs n = 2000 ↔ n = 255) ∧
    (onTimeMs n = 0 ↔ n = 0)) ∧
  ∀ s : State,
    exec .zoneHeaterWindow s = .next (s.setZnc { s.znc with
      windowTimer := .running 2000,
      zones := s.znc.zones.map fun r => { r with applied := r.computed, output := decide (0 < onTimeMs r.computed) } }) ∧
    exec .potHeaterWindow s = .next (s.setPot { s.pot with
      windowTimer := .running 2000,
      heat := { s.pot.heat with
        applied := s.pot.heat.computed, output := decide (0 < onTimeMs s.pot.heat.computed) } }) ∧
    (∀ z, exec (.zoneHeaterOnEnd z) s = .next (if onTimeMs (s.znc.zones.get z).applied < 2000 then
      s.setZnc { s.znc with zones := s.znc.zones.set z { s.znc.zones.get z with output := false } } else s)) ∧
    exec .potHeaterOnEnd s = .next (if onTimeMs s.pot.heat.applied < 2000 then
      s.setPot { s.pot with heat := { s.pot.heat with output := false } } else s)

/-- R67 to R76: a zone's sample and the PREHEAT inhibit. A sample that cannot be used, and an overtemperature, put the zone in FAULT
with its heater off; a usable one runs the law and the counts of readiness. Overtemperature begins above the absolute limit, or
above the relative one once armed, and ends 50 below. The inhibit holds every zone that is not OFF or in FAULT in HEATING with no
duty, from the arrival that ZNC took last (assumption 33). The order in which arrivals are posted is the model's choice (assumption
40): a sample's readiness arrival before the raise or the end of ZONE_OVERTEMP, although R74 names the raise before the entry into
FAULT, and at a PREHEAT change the zones by number. -/
def Obligations.ZoneSamplesAreWorkedInOrder : Prop :=
  (∀ (limit : Int) (sp margin v : Nat) (armed holds : Bool), ∀ j, j = judgeOvertemp limit sp margin v armed holds →
    (j.armed = true ↔ armed = true ∨ (sp ≠ 0 ∧ v ≤ sp + margin)) ∧
    (holds = false → j.ended = false ∧ (j.raised = true ↔ j.holds = true) ∧
      (j.holds = true ↔ limit < v ∨ (j.armed = true ∧ sp + margin < v))) ∧
    (holds = true → j.raised = false ∧ (j.ended = true ↔ j.holds = false) ∧
      (j.holds = false ↔ (v : Int) ≤ limit - 50 ∧ (j.armed = true → (v : Int) ≤ (sp : Int) + margin - 50)))) ∧
  (∀ (s : State) (z : Zone) (v : Nat) (rep : ReportedState),
    ∃ t, exec (.zoneSampleArrival z v rep) s = .next t ∧ SameBut [.znc, .posted] s t ∧
      (∀ y, y ≠ z → t.znc.zones.get y = s.znc.zones.get y) ∧ t.znc = { s.znc with zones := t.znc.zones } ∧
      ∀ r, r = s.znc.zones.get z → ∀ r', r' = t.znc.zones.get z →
      ∀ j, j = judgeOvertemp 3800 r.setpoint s.znc.margin v r.armed r.overtemp →
        r'.temp = v ∧ r'.tempState = rep ∧ r'.setpoint = r.setpoint ∧ r'.band = r.band ∧
        t.posted = s.posted.erase (.zoneSampleArrival z v rep) ++
          (if r.state ≠ r'.state ∧ (isQualified r.state = true ∨ isQualified r'.state = true) then
            [.readinessArrival (.zone z r'.state)] else []) ++
          (if usable rep = true ∧ j.raised = true then [.alarmRaise (Alarm.zoneOvertemp z)] else []) ++
          (if usable rep = true ∧ j.ended = true then [.alarmEnd (Alarm.zoneOvertemp z)] else []) ∧
        (usable rep = false → r'.armed = r.armed ∧ r'.overtemp = r.overtemp) ∧
        (usable rep = true → r'.armed = j.armed ∧ r'.overtemp = j.holds) ∧
        (usable rep = false ∨ j.holds = true → r'.state = .fault ∧ r'.integral = 0 ∧ r'.computed = 0 ∧ r'.applied = 0 ∧
          r'.output = false ∧ r'.readyCount = 0 ∧ r'.outCount = 0) ∧
        (usable rep = true → j.holds = false →
          (r.setpoint = 0 → r'.state = .off) ∧
          (r.setpoint ≠ 0 → s.znc.preheatInhibit = true →
            r'.state = .heating ∧ r'.computed = 0 ∧ r'.applied = 0 ∧ r'.output = false ∧ r'.readyCount = 0 ∧
            r'.outCount = 0 ∧ r'.integral = if r.state = .fault then 0 else r.integral) ∧
          (r.setpoint ≠ 0 → s.znc.preheatInhibit = false →
            (∀ x, x = heaterLaw (s.znc.kp.get z) (s.znc.ki.get z) r.setpoint v
                (if r.state = .fault then 0 else r.integral) →
              r'.computed = x.duty ∧ r'.integral = x.integral) ∧ r'.applied = r.applied ∧ r'.output = r.output ∧
            (r.state ∈ [.heating, .setback, .fault] → ∀ n, n = (if r.state = .fault then 0 else r.readyCount) →
              (absDiff v r.setpoint ≤ r.band → 20 ≤ n + 1 →
                r'.state = (if s.lmc.mode = .setback then .setbackReady else .ready) ∧ r'.readyCount = 20 ∧
                r'.outCount = 0) ∧
              (absDiff v r.setpoint ≤ r.band → n + 1 < 20 → isQualified r'.state = false ∧ r'.readyCount = n + 1) ∧
              (r.band < absDiff v r.setpoint → isQualified r'.state = false ∧ r'.readyCount = 0)) ∧
            (r.state ∈ [.ready, .setbackReady] →
              (absDiff v r.setpoint ≤ r.band → r'.state = r.state ∧ r'.outCount = 0) ∧
              (r.band < absDiff v r.setpoint → r.outCount + 1 < 4 → r'.state = r.state ∧ r'.outCount = r.outCount + 1) ∧
              (r.band < absDiff v r.setpoint → 4 ≤ r.outCount + 1 →
                r'.state = (if s.lmc.mode = .setback then .setback else .heating) ∧ r'.readyCount = 0 ∧
                r'.outCount = 0))))) ∧
  ∀ (s : State) (active : Bool),
    ∃ t, exec (.preheatInhibitChange active) s = .next t ∧ SameBut [.znc, .posted] s t ∧
      t.znc = { s.znc with preheatInhibit := active, zones := t.znc.zones } ∧
      t.posted = s.posted.erase (.preheatInhibitChange active) ++ ([Zone.z1, .z2, .z3].flatMap fun z =>
        if (s.znc.zones.get z).state ≠ (t.znc.zones.get z).state ∧
            (isQualified (s.znc.zones.get z).state = true ∨ isQualified (t.znc.zones.get z).state = true) then
          [.readinessArrival (.zone z (t.znc.zones.get z).state)] else []) ∧
      ∀ z r, r = s.znc.zones.get z → t.znc.zones.get z =
        if active = true then
          (if r.state = .off ∨ r.state = .fault then r
            else { r with state := .heating, computed := 0, applied := 0, readyCount := 0, outCount := 0, output := false })
        else if r.state = .heating ∧ s.lmc.mode = .setback then { r with state := .setback } else r

/-- R99 to R104, R120: a PTS sample. It works the pot as a zone's sample works a zone, with COLD below the pump-safe temperature,
SETBACK or HOLD by the line mode, 120 samples to READY and 10 away from it. A change out of READY takes the wave and the feeder with
it. -/
def Obligations.PotSamplesAreWorkedInOrder : Prop :=
  ∀ (s : State) (v : Nat) (rep : ReportedState),
    ∃ t, exec (.ptsSampleArrival v rep) s = .next t ∧ SameBut [.trk, .pot, .posted] s t ∧
      ∀ r, r = s.pot.heat → ∀ r', r' = t.pot.heat →
      ∀ j, j = judgeOvertemp 3400 r.setpoint s.pot.items.margin v r.armed r.overtemp →
        r'.temp = v ∧ r'.tempState = rep ∧ r'.setpoint = r.setpoint ∧ r'.band = r.band ∧
        (usable rep = true → j.raised = true → Instr.alarmRaise Alarm.potOvertemp ∈ t.posted) ∧
        (usable rep = true → j.ended = true → Instr.alarmEnd Alarm.potOvertemp ∈ t.posted) ∧
        ((r.state = .ready ↔ r'.state = .ready) → t.pot = { s.pot with heat := r' } ∧ t.trk = s.trk) ∧
        (¬(r.state = .ready ↔ r'.state = .ready) → Instr.readinessArrival (.pot r'.state) ∈ t.posted ∧
          (r'.state ≠ .ready → t.pot.wave = .off ∧ t.pot.target = .off ∧ t.pot.feeder ≠ .feeding)) ∧
        (usable rep = false → r'.armed = r.armed ∧ r'.overtemp = r.overtemp) ∧
        (usable rep = true → r'.armed = j.armed ∧ r'.overtemp = j.holds) ∧
        (usable rep = false ∨ j.holds = true → r'.state = .fault ∧ r'.integral = 0 ∧ r'.computed = 0 ∧ r'.applied = 0 ∧
          r'.output = false ∧ r'.readyCount = 0 ∧ r'.outCount = 0) ∧
        (usable rep = true → j.holds = false →
          (r.setpoint = 0 → r'.state = .off) ∧
          (r.setpoint ≠ 0 →
            (∀ x, x = heaterLaw s.pot.items.kp s.pot.items.ki r.setpoint v (if r.state = .fault then 0 else r.integral) →
              r'.computed = x.duty ∧ r'.integral = x.integral) ∧ r'.applied = r.applied ∧ r'.output = r.output ∧
            (v < s.pot.items.pumpSafe → r'.state = .cold ∧ r'.readyCount = 0 ∧ r'.outCount = 0) ∧
            (s.pot.items.pumpSafe ≤ v →
              (s.lmc.mode = .setback → r'.state = .setback ∧ r'.readyCount = 0 ∧ r'.outCount = 0) ∧
              (s.lmc.mode = .standby → r'.state = .hold ∧ r'.readyCount = 0 ∧ r'.outCount = 0) ∧
              (s.lmc.mode ≠ .setback → s.lmc.mode ≠ .standby →
                (r.state ∈ [.heating, .cold, .fault] → ∀ n, n = (if r.state = .heating then r.readyCount else 0) →
                  (absDiff v r.setpoint ≤ r.band → 120 ≤ n + 1 →
                    r'.state = .ready ∧ r'.readyCount = 120 ∧ r'.outCount = 0) ∧
                  (absDiff v r.setpoint ≤ r.band → n + 1 < 120 → r'.state = .heating ∧ r'.readyCount = n + 1) ∧
                  (r.band < absDiff v r.setpoint → r'.state = .heating ∧ r'.readyCount = 0)) ∧
                (r.state = .ready →
                  (absDiff v r.setpoint ≤ r.band → r'.state = .ready ∧ r'.outCount = 0) ∧
                  (r.band < absDiff v r.setpoint → r.outCount + 1 < 10 →
                    r'.state = .ready ∧ r'.outCount = r.outCount + 1) ∧
                  (r.band < absDiff v r.setpoint → 10 ≤ r.outCount + 1 →
                    r'.state = .heating ∧ r'.readyCount = 0 ∧ r'.outCount = 0))))))

/-- R99, R103, R111, R114, R120: a new line mode or active bank at POT. The pot record takes the effective setpoint and the band
and moves by the case of R103 that holds; a new mode moves the wave to its target, and a new bank is followed by the wave bank once
no scheduled board carries the old one. Where LMC's test awaits a bank arrival of POT's, it awaits what POT hands on at either
arrival, and can follow the bank arrival (assumption 10). -/
def Obligations.ThePotTakesItsSetpoint : Prop :=
  (∀ (i : BankItems) (p : PotItems),
    (∀ m, m ∈ [.warmup, .production, .changeover, .drain, .idle] →
      potEffective m (.valid i) p = i.potSetpoint ∧ potEffective m .empty p = 0) ∧
    potEffective .setback (.valid i) p = i.potSetpoint - i.potSetback ∧ potEffective .setback .empty p = 0 ∧
    (∀ b, potEffective .standby b p = (if p.holdEnabled then p.holdSetpoint else 0) ∧ potEffective .safe b p = 0 ∧
      potEffective .maintenance b p = 0)) ∧
  ∀ (s : State) (c : Instr) (m : LineMode),
    (c = .lineModeArrival .pot m ∨ (∃ b, c = .activeBankArrival .pot b) ∧ m = s.lmc.mode) →
    ∃ t, exec c s = .next t ∧ SameBut [.trk, .pot, .lmc, .links, .posted] s t ∧
      (c = .lineModeArrival .pot m →
        SameBut [.trk, .pot, .lmc, .posted] s t ∧ t.lmc = { s.lmc with awaited := t.lmc.awaited }) ∧
      ((c = .lineModeArrival .pot m ∧ ∀ b, .activeBankArrival .pot b ∉ s.lmc.awaited) ∨
        ((∃ b, c = .activeBankArrival .pot b) ∧ c ∉ s.lmc.awaited) → SameBut [.trk, .pot, .posted] s t) ∧
      t.pot.items = s.pot.items ∧
      (c = .lineModeArrival .pot m →
        t.pot.target = waveTarget m s.aim.waveEffect t.pot.isReady (s.pot.schedule.head?.map (·.decision)) ∧
        t.pot.wave = waveMove s.pot.wave t.pot.target ∧ t.pot.waveBank = s.pot.waveBank) ∧
      (∀ b, c = .activeBankArrival .pot b →
        t.pot.waveBank = (if ∀ e ∈ s.pot.schedule, e.bank ≠ s.pot.waveBank then s.lmc.active else s.pot.waveBank) ∧
        Instr.readinessArrival (.wave t.pot.wave (decide (t.pot.waveBank = s.lmc.active))) ∈ t.posted) ∧
      ∀ r', r' = t.pot.heat → ∀ r, r = s.pot.heat → ∀ moved : Bool, (moved = true ↔ r.setpoint ≠ r'.setpoint) →
        r'.setpoint = potEffective m (s.lmc.bank s.lmc.active) s.pot.items ∧
        r'.band = (s.lmc.bank s.lmc.active).potBand ∧
        r'.temp = r.temp ∧ r'.tempState = r.tempState ∧ r'.overtemp = r.overtemp ∧
        (r.state = .fault → r'.state = .fault ∧ r'.integral = r.integral ∧ r'.armed = (r.armed && !moved)) ∧
        (r.state ≠ .fault → r'.setpoint = 0 →
          r'.state = .off ∧ r'.integral = 0 ∧ r'.computed = 0 ∧ r'.applied = 0 ∧ r'.output = false ∧ r'.armed = false ∧
          r'.readyCount = 0 ∧ r'.outCount = 0) ∧
        (r.state = .off → r'.setpoint ≠ 0 →
          r'.state = (if r.temp < s.pot.items.pumpSafe then .cold else if m = .setback then .setback
            else if m = .standby then .hold else .heating) ∧ r'.integral = 0 ∧ r'.armed = false ∧
          r'.readyCount = 0 ∧ r'.outCount = 0) ∧
        (r.state ≠ .fault → r.state ≠ .off → r'.setpoint ≠ 0 → r'.integral = r.integral ∧ r'.computed = r.computed ∧
          (m = .setback ∨ m = .standby →
            r'.state = (if r.state = .cold then .cold else if m = .setback then .setback else .hold) ∧
            r'.readyCount = 0 ∧ r'.outCount = 0 ∧ r'.armed = (r.armed && !moved)) ∧
          (m ≠ .setback → m ≠ .standby →
            (r.state = .ready → (moved = true ∨ r.band ≠ r'.band) →
              r'.armed = false ∧ r'.outCount = 0 ∧
              r'.state = if absDiff r.temp r'.setpoint ≤ r'.band then .ready else .heating) ∧
            (r.state = .setback ∨ r.state = .hold →
              r'.state = .heating ∧ r'.readyCount = 0 ∧ r'.outCount = 0 ∧ r'.armed = (r.armed && !moved)) ∧
            (r.state = .cold ∨ r.state = .heating ∨ (r.state = .ready ∧ moved = false ∧ r.band = r'.band) →
              r'.state = r.state ∧ r'.readyCount = r.readyCount ∧ r'.outCount = r.outCount ∧
              r'.armed = (r.armed && !moved))))

/-- R105 to R108, R110, R120: the level, the level demand and the feeder. The feeder is LOCKED while a record is not IDLE, FEEDING
while its five conditions hold, else OFF, and a change into or out of FEEDING is handed to LMC. A minute's end drops the oldest
bucket and can end FEED_RUNAWAY. That POT_LEVEL_LOW's arrival is posted before POT_LEVEL_HIGH's, and FEED_WIRE_OUT's and
FEED_RUNAWAY's before the feeder's, is the model's choice (assumption 40). -/
def Obligations.TheFeederFollowsItsTable : Prop :=
  (∀ (p : Pot) (wire : ContactLevel) (inhibited : Bool),
    (p.feederNext wire inhibited = .locked ↔ p.runawayIdle = false ∨ p.levelHighIdle = false) ∧
    (p.feederNext wire inhibited = .feeding ↔ p.runawayIdle = true ∧ p.levelHighIdle = true ∧ p.demand = true ∧
      wire = .closed ∧ inhibited = false ∧ p.heat.state = .ready ∧ p.buckets.sum ≤ p.items.budget)) ∧
  (∀ (i : PotItems) (plv t : Nat) (on : Bool), compensatedLevel i plv t on ≤ 10000 ∧
    (compensatedLevel i plv t on : Int) = clampInt 0 10000
      ((plv : Int) - roundDiv ((i.alpha : Int) * ((t : Int) - i.tRef)) 100 + (if on then (i.dPump : Int) else 0))) ∧
  ∀ (s : State) (c : Instr) (p : Pot) (first : List Instr) (inhibited : Bool) (wire : ContactLevel),
    (inhibited = s.aim.inhibitActive .feed ∧ wire = (s.saq.contact .wirePresent).reported ∧
      ((∃ v rep, c = .plvSampleArrival v rep ∧
          ((usable rep = false ∧ p = { s.pot with levelValidity := .unknown, demand := false } ∧ first = []) ∨
            (usable rep = true ∧ ∃ n, n = compensatedLevel s.pot.items v
                (levelTemperature (s.saq.channel .pts) s.pot.items.tRef) (s.pot.wave == .on) ∧
              p = { s.pot with
                level := n, levelValidity := .valid, levelLow := decide (n < s.pot.items.levelMin),
                levelHigh := decide (s.pot.items.levelMax < n),
                levelHighIdle := s.pot.levelHighIdle && (s.pot.levelHigh || !decide (s.pot.items.levelMax < n)),
                demand := if s.pot.settleTimer = .expired then
                    (if n < s.pot.items.feedOn then true
                      else if s.pot.items.feedOff ≤ n then false else s.pot.demand)
                  else s.pot.demand } ∧
              first = (if p.levelLow = s.pot.levelLow then [] else if p.levelLow then [.alarmRaise 18] else [.alarmEnd 18]) ++
                (if p.levelHigh = s.pot.levelHigh then [] else if p.levelHigh then [.alarmRaise 19]
                  else [.alarmEnd 19])))) ∨
        (∃ r, c = .recordIdleArrival r ∧ first = [] ∧ p = (match r with
          | .levelHigh => { s.pot with levelHighIdle := true }
          | .runaway => { s.pot with runawayIdle := true })) ∨
        (c = .settleTimerExpiry ∧ s.pot.settleTimer.isRunning = true ∧ first = [] ∧ p = { s.pot with
          settleTimer := .expired,
          demand := if s.pot.levelValidity = .valid then
              (if s.pot.level < s.pot.items.feedOn then true
                else if s.pot.items.feedOff ≤ s.pot.level then false else s.pot.demand)
            else s.pot.demand }) ∨
        (c = .minuteTimerExpiry ∧ ∃ ring, ring = 0 :: s.pot.buckets.dropLast ∧
          p = { s.pot with
            minuteTimer := .running 60000, buckets := ring,
            runaway := s.pot.runaway && decide (s.pot.items.budget < ring.sum) } ∧
          first = if s.pot.runaway = true ∧ p.runaway = false then [.alarmEnd 20] else []))) ∨
    (inhibited = s.aim.inhibitActive .feed ∧ ∃ tr : Transition, c = .wirePresentTransition tr ∧ wire = tr.level ∧
      ((tr.level = .opened ∧ p = { s.pot with wireOut := true } ∧ first = [.alarmRaise 21]) ∨
        (tr.level = .closed ∧ p = { s.pot with wireOut := false } ∧ first = [.alarmEnd 21]))) ∨
    (c = .feedInhibitChange inhibited ∧ wire = (s.saq.contact .wirePresent).reported ∧ p = s.pot ∧ first = []) →
    ∃ t, exec c s = .next t ∧ SameBut [.pot, .posted] s t ∧
      t.pot = { p with feeder := p.feederNext wire inhibited } ∧
      t.posted = (if c = .settleTimerExpiry ∨ c = .minuteTimerExpiry then s.posted else s.posted.erase c) ++ first ++
        (if t.pot.feeder ≠ s.pot.feeder ∧ (t.pot.feeder = .feeding ∨ s.pot.feeder = .feeding) then
          [.feederArrival t.pot.feeder] else [])

/-! ### The wave -/

/-- R114, R115, R117, R119, R120: the wave target and the move it gives. Where the WAVE effect state changes, the target is
evaluated on the new one; a change of the wave state restarts its counts and timers, sets the pump, makes the boards on a wave that
goes OFF INTERRUPTED, and is handed to LMC. -/
def Obligations.TheWaveFollowsItsTarget : Prop :=
  (∀ (m : LineMode) (e : WaveEffect) (ready : Bool) (head : Option GateDecision),
    (waveTarget m e ready head = .off ↔
      m ∉ [.warmup, .production, .changeover, .drain] ∨ e = .active ∨ ready = false) ∧
    (waveTarget m e ready head = .dip ↔
      m ∈ [.warmup, .production, .changeover, .drain] ∧ e ≠ .active ∧ ready = true ∧ head = some .dry)) ∧
  ∀ (s : State) (e : WaveEffect), ∀ g, g = s.taken (.waveInhibitChange e) →
    ∀ target, target = waveTarget s.lmc.mode e s.pot.isReady (s.pot.schedule.head?.map (·.decision)) →
    ∀ w, w = (match target with
      | .off => .off
      | .wave => if s.pot.wave = .on then .on else .rising
      | .dip => if s.pot.wave = .dipped then .dipped else .dipping) →
    (w = s.pot.wave → exec (.waveInhibitChange e) s = .next (g.setPot { s.pot with target := target })) ∧
    (w ≠ s.pot.wave → ∃ t, exec (.waveInhibitChange e) s = .next t ∧ SameBut [.trk, .pot, .posted] s t ∧
      t.pot = { s.pot with
        target := target, wave := w, settleTimer := .running 5000,
        riseTimer := if w = .rising then .running 10000 else .stopped,
        riseCount := if w = .rising then 0 else s.pot.riseCount,
        dipCount := if w = .dipping then 0 else s.pot.dipCount,
        pumpSpeed := (match w with
          | .off => 0
          | .rising | .on => (s.lmc.bank s.pot.waveBank).waveSpeed
          | .dipping | .dipped => (s.lmc.bank s.pot.waveBank).dipSpeed),
        pumpRunTimer := t.pot.pumpRunTimer } ∧
      (t.pot.pumpSpeed = 0 ∨ (s.saq.contact .pumpRun).reported = .closed → t.pot.pumpRunTimer = .stopped) ∧
      (t.pot.pumpSpeed ≠ 0 → (s.saq.contact .pumpRun).reported ≠ .closed →
        t.pot.pumpRunTimer = if s.pot.pumpRunTimer = .stopped then .running 2000 else s.pot.pumpRunTimer) ∧
      t.trk = { s.trk with table := s.trk.table.map fun b =>
        if w = .off ∧ b.seq ∈ s.pot.onWave ∧ (b.waveResult = .waved ∨ b.waveResult = .partialWave) then
          { b with waveResult := .interrupted } else b } ∧
      t.posted = g.posted ++ [.readinessArrival (.wave w (decide (s.pot.waveBank = s.lmc.active)))])

/-- R111 to R114, R116, R119: the boards at the wave and the WVH samples. A removal of a schedule entry, and an append to an empty
schedule, re-evaluate the wave target and the wave bank; the target waits for AIM where a pending WAVE inhibit follows (assumption
9), and the wave state after a new wave bank is assumption 17. A rising wave is ON at its fourth sample in a row at or above h_lo, a
dipping one DIPPED at its second at or below h_dip; then the sample judges every board on the wave against that board's own bank. -/
def Obligations.TheWaveMeetsItsBoards : Prop :=
  ∀ move : WaveState → WaveTarget → WaveState, move = (fun w g => match g with
    | .off => .off
    | .wave => if w = .on then .on else .rising
    | .dip => if w = .dipped then .dipped else .dipping) →
  ∀ again : WaveState → WaveState, again = (fun w => match w with
    | .rising | .on => .rising
    | .dipping | .dipped => .dipping
    | .off => .off) →
  ∀ s : State,
    (∀ e t, t = s.appendSchedule e → SameBut [.trk, .pot, .posted] s t ∧ t.pot.schedule = s.pot.schedule ++ [e] ∧
      t.pot.onWave = s.pot.onWave ∧ t.pot.solderOcc = t.pot.solderOnWave ∧
      (s.pot.schedule ≠ [] →
        t.pot.target = s.pot.target ∧ t.pot.wave = s.pot.wave ∧ t.pot.waveBank = s.pot.waveBank ∧ t.trk = s.trk) ∧
      (s.pot.schedule = [] →
        t.pot.target = waveTarget s.lmc.mode s.aim.waveEffect s.pot.isReady (some e.decision) ∧
        t.pot.waveBank = (if e.bank = s.pot.waveBank then s.pot.waveBank else s.lmc.active) ∧
        t.pot.wave = (if t.pot.waveBank = s.pot.waveBank then move s.pot.wave t.pot.target
          else again (move s.pot.wave t.pot.target)) ∧
        (t.pot.wave ≠ s.pot.wave ∨ t.pot.waveBank ≠ s.pot.waveBank →
          Instr.readinessArrival (.wave t.pot.wave (decide (t.pot.waveBank = s.lmc.active))) ∈ t.posted))) ∧
    (∀ v rep, ∃ t, exec (.wvhSampleArrival v rep) s = .next t ∧ SameBut [.trk, .pot, .posted] s t ∧
      (∀ b, b = s.lmc.bank s.pot.waveBank →
        (s.pot.wave = .rising →
          (usable rep = true → b.hLo ≤ v →
            t.pot.riseCount = s.pot.riseCount + 1 ∧ t.pot.wave = if 4 ≤ s.pot.riseCount + 1 then .on else .rising) ∧
          (usable rep = false ∨ v < b.hLo → t.pot = { s.pot with riseCount := 0 })) ∧
        (s.pot.wave = .dipping →
          (usable rep = true → v ≤ b.hDip →
            t.pot.dipCount = s.pot.dipCount + 1 ∧ t.pot.wave = if 2 ≤ s.pot.dipCount + 1 then .dipped else .dipping) ∧
          (usable rep = false ∨ b.hDip < v → t.pot = { s.pot with dipCount := 0 })) ∧
        (s.pot.wave ≠ .rising → s.pot.wave ≠ .dipping → t.pot = s.pot)) ∧
      t.trk = { s.trk with table := s.trk.table.map fun b => match s.pot.entry? b.seq with
        | none => b
        | some e =>
          if b.seq ∈ s.pot.onWave then { b with waveResult :=
            if b.waveResult = .waved ∧ (usable rep = false ∨ v < (s.lmc.bank e.bank).hLo) then .partialWave
            else if b.waveResult = .dryClean ∧ (usable rep = false ∨ (s.lmc.bank e.bank).hDip < v) then .dryContacted
            else b.waveResult } else b }) ∧
    (∀ q, s.trk.hasBoard q = false ∨ q ∈ s.pot.onWave →
      exec (.waveEntered q) s = .next (s.taken (.waveEntered q))) ∧
    (∀ q e, s.trk.hasBoard q = true → q ∉ s.pot.onWave → s.pot.entry? q = some e →
      ∃ t, exec (.waveEntered q) s = .next t ∧ SameBut [.trk, .pot, .posted] s t ∧
        t.pot = { s.pot with onWave := s.pot.onWave ++ [q], solderOcc := t.pot.solderOnWave } ∧
        t.trk = { s.trk with table := s.trk.table.map fun b => if b.seq = q then { b with waveResult :=
          match e.decision with
          | .solder => if s.pot.wave = .off then .interrupted else .waved
          | .dry => .dryClean
          | .pending => b.waveResult } else b } ∧
        t.posted = s.posted.erase (.waveEntered q) ++
          (if t.pot.solderOcc = s.pot.solderOcc then [] else [.solderOccupancyArrival t.pot.solderOcc])) ∧
    (∀ q, s.trk.hasBoard q = false → exec (.waveLeft q) s = .next (s.taken (.waveLeft q))) ∧
    (∀ q, s.trk.hasBoard q = true →
      ∃ t, exec (.waveLeft q) s = .next t ∧ SameBut [.trk, .pot, .posted] s t ∧
        t.pot.schedule = s.pot.schedule.filter (fun e => e.seq != q) ∧
        t.pot.onWave = s.pot.onWave.filter (fun p => p != q) ∧ t.pot.solderOcc = t.pot.solderOnWave ∧
        (t.pot.solderOcc ≠ s.pot.solderOcc → Instr.solderOccupancyArrival t.pot.solderOcc ∈ t.posted) ∧
        ((∀ e ∈ s.pot.schedule, e.seq ≠ q) →
          t.pot.target = s.pot.target ∧ t.pot.wave = s.pot.wave ∧ t.pot.waveBank = s.pot.waveBank) ∧
        ((∃ e ∈ s.pot.schedule, e.seq = q) →
          ∀ deferred : Bool, (deferred = true ↔
            s.pot.solderOcc = true ∧ t.pot.solderOcc = false ∧ s.aim.waveEffect = .pending) →
          t.pot.target = (if deferred = true then s.pot.target
            else waveTarget s.lmc.mode s.aim.waveEffect s.pot.isReady (t.pot.schedule.head?.map (·.decision))) ∧
          t.pot.waveBank = (if ∀ e ∈ t.pot.schedule, e.bank ≠ s.pot.waveBank then s.lmc.active else s.pot.waveBank) ∧
          ∀ w, w = (if deferred = true then s.pot.wave else move s.pot.wave t.pot.target) →
            t.pot.wave = (if t.pot.waveBank = s.pot.waveBank then w else again w) ∧
            (t.pot.wave ≠ s.pot.wave ∨ t.pot.waveBank ≠ s.pot.waveBank →
              Instr.readinessArrival (.wave t.pot.wave (decide (t.pot.waveBank = s.lmc.active))) ∈ t.posted)) ∧
        t.trk.table.map (·.seq) = s.trk.table.map (·.seq))

/-- R109, R110, R116 to R118, R191: POT's other timers. A feeding second adds to the current bucket and the retained run total, and
a ring above the budget raises FEED_RUNAWAY and locks the feeder. The rise timer and the pump run timer add their causes of
PUMP_FAULT, an acknowledgement empties them, and the pump run timer runs while the output is nonzero and the contact is not CLOSED.
An expiry of a timer that does not run changes nothing (assumption 5). -/
def Obligations.FeedingSecondsAndPumpFaults : Prop :=
  (∀ s : State,
    (s.pot.feeder ≠ .feeding → exec .feedingSecond s = .next s) ∧
    (s.pot.settleTimer.isRunning = false → exec .settleTimerExpiry s = .next s) ∧
    (∀ b bs, s.pot.feeder = .feeding → s.pot.buckets = b :: bs →
      ∃ t, exec .feedingSecond s = .next t ∧ SameBut [.pot, .rtr, .posted] s t ∧
        t.rtr = { s.rtr with feedTotal := min 4294967295 (s.rtr.feedTotal + 1) } ∧
        t.pot.buckets = min 60 (b + 1) :: bs ∧ t.pot.feedAccMs = 0 ∧
        (s.pot.runaway = false → s.pot.items.budget < t.pot.buckets.sum →
          t.pot.runaway = true ∧ t.pot.runawayIdle = false ∧ t.pot.feeder = .locked ∧
          Instr.alarmRaise Alarm.feedRunaway ∈ t.posted ∧ Instr.feederArrival .locked ∈ t.posted) ∧
        (s.pot.runaway = true ∨ t.pot.buckets.sum ≤ s.pot.items.budget →
          t.pot.runaway = s.pot.runaway ∧ t.pot.runawayIdle = s.pot.runawayIdle) ∧
        t.pot = { s.pot with
          buckets := t.pot.buckets, feedAccMs := 0, runaway := t.pot.runaway, runawayIdle := t.pot.runawayIdle,
          feeder := t.pot.feeder })) ∧
  (∀ s : State,
    exec .riseTimerExpiry s = .next (if s.pot.riseTimer.isRunning = true ∧ s.pot.wave = .rising then
      (s.setPot { s.pot with
        riseTimer := .expired, pumpCauses := { s.pot.pumpCauses with rise := true } }).post [.alarmRaise 22] else s) ∧
    exec .pumpRunTimerExpiry s = .next (if s.pot.pumpRunTimer.isRunning = true then
      (s.setPot { s.pot with
        pumpRunTimer := .expired, pumpCauses := { s.pot.pumpCauses with run := true } }).post [.alarmRaise 22] else s) ∧
    (∀ tr, exec (.pumpRunTransition tr) s = .next ((s.taken (.pumpRunTransition tr)).setPot { s.pot with
      pumpRunTimer := if s.pot.pumpSpeed ≠ 0 ∧ tr.level ≠ .closed then
          (if s.pot.pumpRunTimer = .stopped then .running 2000 else s.pot.pumpRunTimer)
        else .stopped })) ∧
    exec .pumpFaultAcknowledged s = .next (((s.taken .pumpFaultAcknowledged).setPot
      { s.pot with pumpCauses := ⟨false, false⟩ }).post [.alarmEnd 22]))

/-! ### Extraction -/

/-- R122, R124 to R126, R132: a DSP sample in each duct state. The fortieth low one in a row in NORMAL starts a changeover to the
other fan; the fortieth good one in a row in CHANGEOVER or LOST returns the duct to NORMAL, with FAN_CHANGEOVER and the conditions
ended. -/
def Obligations.TheDuctFollowsItsSuction : Prop :=
  (∀ s : State, s.changeover.exm.duty = s.exm.duty.other ∧ s.changeover.exm.duct = .changeover ∧
    s.changeover.exm.outputs.fan s.exm.duty.other = true ∧ s.changeover.exm.outputs.fan s.exm.duty = false ∧
    s.changeover.exm.lowCount = 0 ∧ s.changeover.exm.recoveryCount = 0 ∧
    s.changeover.exm.recoveryTimer = .running 10000 ∧ s.changeover.exm.ductLow = true ∧
    s.changeover.exm.firstLoss = some (s.exm.firstLoss.getD s.clock) ∧
    s.changeover.exm.lastRecovery = s.exm.lastRecovery ∧ s.changeover.exm.extractionLost = s.exm.extractionLost ∧
    s.changeover.exm.fanFaults = s.exm.fanFaults ∧ s.changeover.exm.items = s.exm.items ∧
    (s.exm.outputs.fan s.exm.duty.other = false → s.changeover.exm.fanTimers.fan s.exm.duty.other =
      if (s.saq.contact s.exm.duty.other.contact).reported = .closed then .stopped else .running 5000) ∧
    (s.exm.outputs.fan s.exm.duty = true → s.changeover.exm.fanTimers.fan s.exm.duty = .stopped) ∧
    s.changeover.posted = s.posted ++ [.alarmRaise 26] ∧ SameBut [.exm, .posted] s s.changeover) ∧
  ∀ (s : State) (v : Nat) (rep : ReportedState), ∀ g, g = s.taken (.dspSampleArrival v rep) →
    (s.exm.duct = .normal →
      (usable rep = true → s.exm.items.ductTrip ≤ v →
        exec (.dspSampleArrival v rep) s = .next (g.setExm { s.exm with lowCount := 0 })) ∧
      (usable rep = false ∨ v < s.exm.items.ductTrip →
        (s.exm.lowCount + 1 < 40 → exec (.dspSampleArrival v rep) s = .next
          (g.setExm { s.exm with lowCount := s.exm.lowCount + 1 })) ∧
        (40 ≤ s.exm.lowCount + 1 → exec (.dspSampleArrival v rep) s = .next g.changeover))) ∧
    (s.exm.duct ≠ .normal →
      (usable rep = false ∨ v < s.exm.items.ductTrip + s.exm.items.ductHyst →
        exec (.dspSampleArrival v rep) s = .next (g.setExm { s.exm with recoveryCount := 0 })) ∧
      (usable rep = true → s.exm.items.ductTrip + s.exm.items.ductHyst ≤ v →
        (s.exm.recoveryCount + 1 < 40 → exec (.dspSampleArrival v rep) s = .next
          (g.setExm { s.exm with recoveryCount := s.exm.recoveryCount + 1 })) ∧
        (40 ≤ s.exm.recoveryCount + 1 → ∃ t, exec (.dspSampleArrival v rep) s = .next t ∧
          SameBut [.exm, .links, .posted] s t ∧
          t.exm = { s.exm with
            duct := .normal, lowCount := 0, recoveryCount := 0, recoveryTimer := .stopped,
            lastRecovery := some s.clock, ductLow := false,
            extractionLost := if s.exm.duct = .lost then false else s.exm.extractionLost } ∧
          t.posted = g.posted ++ (if s.exm.duct = .lost then [.alarmEnd 26, .alarmEnd 27] else [.alarmEnd 26]) ∧
          ∀ l, t.link l = (s.link l).copyEvent ⟨s.clock, .fanChangeover s.exm.duty
            (if s.exm.duct = .lost then .recoveredAfterLoss else .recovered)⟩)))

/-- R127 to R132: the recovery timer, the fan fault timers, the run contacts, SELECT_FAN and CLEAR_STAMPS. A recovery that does not
come makes the duct LOST with both fans ON; a fan fault of the duty fan in NORMAL starts a changeover; SELECT_FAN is checked in
order. The recovery timer is stopped after its expiry, in LOST (assumption 21), and an expiry of a timer that does not run changes
nothing (assumption 5). -/
def Obligations.FansAreWatchedAndSelected : Prop :=
  ∀ s : State,
    (s.exm.recoveryTimer.isRunning = true → s.exm.duct = .changeover →
      ∃ t, exec .recoveryTimerExpiry s = .next t ∧ SameBut [.exm, .posted] s t ∧
        t.exm = { s.exm with
          duct := .lost, recoveryTimer := .stopped, extractionLost := true, outputs := ⟨true, true⟩,
          fanTimers := t.exm.fanTimers } ∧
        (∀ f, t.exm.fanTimers.fan f = if s.exm.outputs.fan f = true then s.exm.fanTimers.fan f
          else if (s.saq.contact f.contact).reported = .closed then .stopped else .running 5000) ∧
        t.posted = s.posted ++ [.alarmRaise 27]) ∧
    (¬(s.exm.recoveryTimer.isRunning = true ∧ s.exm.duct = .changeover) → exec .recoveryTimerExpiry s = .next s) ∧
    (∀ f, (s.exm.fanTimers.fan f).isRunning = false → exec (.fanFaultTimerExpiry f) s = .next s) ∧
    (∀ f u, (s.exm.fanTimers.fan f).isRunning = true →
      u = (s.setExm { s.exm with
        fanTimers := s.exm.fanTimers.setFan f .expired, fanFaults := s.exm.fanFaults.setFan f true }).post
          [.alarmRaise (Alarm.fanFault f)] →
      exec (.fanFaultTimerExpiry f) s = .next (if s.exm.duct = .normal ∧ f = s.exm.duty then u.changeover else u)) ∧
    (∀ f tr, ∀ g, g = s.taken (.fanRunTransition f tr) →
      (tr.level = .closed → exec (.fanRunTransition f tr) s = .next
        ((g.setExm { s.exm with
          fanTimers := s.exm.fanTimers.setFan f .stopped, fanFaults := s.exm.fanFaults.setFan f false }).post
            (if s.exm.fanFaults.fan f = true then [.alarmEnd (Alarm.fanFault f)] else []))) ∧
      (tr.level ≠ .closed → exec (.fanRunTransition f tr) s = .next
        (if s.exm.outputs.fan f = true ∧ s.exm.fanTimers.fan f = .stopped then
          g.setExm { s.exm with fanTimers := s.exm.fanTimers.setFan f (.running 5000) } else g))) ∧
    (((s.link .machine).sending = none → exec (.clearStamps .machine []) s = .next
        (((s.received .machine).setExm
          { s.exm with firstLoss := none, lastRecovery := none }).reply .machine 0x18 .ok [])) ∧
      ∀ n : Byte, ∀ g, (s.link .machine).sending = none → g = s.received .machine →
        (2 ≤ n.toNat → exec (.selectFan .machine [n]) s = .next (g.reply .machine 0x17 .invalid [])) ∧
        (∀ f : Fan, Fan.code f = n →
          (s.exm.duct ≠ .normal → exec (.selectFan .machine [n]) s = .next (g.reply .machine 0x17 .busy [])) ∧
          (s.exm.duct = .normal →
            (f = s.exm.duty → s.exm.outputs.fan f.other = false →
              exec (.selectFan .machine [n]) s = .next (g.reply .machine 0x17 .ok [])) ∧
            (¬(f = s.exm.duty ∧ s.exm.outputs.fan f.other = false) →
              ∃ t, exec (.selectFan .machine [n]) s = .next t ∧ SameBut [.exm, .links, .posted] s t ∧
                t.exm = { s.exm with
                  duty := f, lowCount := 0, outputs := t.exm.outputs, fanTimers := t.exm.fanTimers } ∧
                t.exm.outputs.fan f = true ∧ t.exm.outputs.fan f.other = false ∧
                (s.exm.outputs.fan f = true → t.exm.fanTimers.fan f = s.exm.fanTimers.fan f) ∧
                (s.exm.outputs.fan f = false → t.exm.fanTimers.fan f =
                  if (s.saq.contact f.contact).reported = .closed then .stopped else .running 5000) ∧
                (s.exm.outputs.fan f.other = true → t.exm.fanTimers.fan f.other = .stopped) ∧
                t.links = ((g.event (.fanChangeover f .selected)).reply .machine 0x17 .ok []).links))))

/-- R133, R134: the filter check. An FDP sample is kept; a check on a usable one judges FILTER_LOADED and FILTER_BLOCKED, each with
its level and the hysteresis, and the timer restarts with the interval of the line mode, as it does at a mode whose interval
differs. Where both conditions change, FILTER_LOADED's arrival is posted before FILTER_BLOCKED's: R134 gives the two no order, and
this one is the model's choice (assumption 40). -/
def Obligations.TheFilterIsChecked : Prop :=
  (∀ (holds : Bool) (level hyst v : Nat), hyst ≤ level → (filterJudge holds level hyst v = true ↔
    level ≤ v ∨ (holds = true ∧ level - hyst ≤ v))) ∧
  ∀ s : State,
    (∀ v rep, exec (.fdpSampleArrival v rep) s = .next ((s.taken (.fdpSampleArrival v rep)).setExm
      { s.exm with fdpValue := v, fdpState := rep })) ∧
    (∀ m ms, ms = (if m = LineMode.standby ∨ m = .setback then 600000 else 60000) →
      exec (.lineModeArrival .exm m) s = .next (if s.exm.filterInterval = ms then s.taken (.lineModeArrival .exm m)
        else (s.taken (.lineModeArrival .exm m)).setExm
          { s.exm with filterTimer := .running ms, filterInterval := ms })) ∧
    (∀ ms, ms = (if s.lmc.mode = .standby ∨ s.lmc.mode = .setback then 600000 else 60000) →
      (usable s.exm.fdpState = false → exec .filterCheckTimerExpiry s = .next
        (s.setExm { s.exm with filterTimer := .running ms, filterInterval := ms })) ∧
      (usable s.exm.fdpState = true → ∀ loaded blocked,
        loaded = filterJudge s.exm.filterLoaded s.exm.items.filterWarn s.exm.items.filterHyst s.exm.fdpValue →
        blocked = filterJudge s.exm.filterBlocked s.exm.items.filterBlock s.exm.items.filterHyst s.exm.fdpValue →
        exec .filterCheckTimerExpiry s = .next
          ((s.setExm { s.exm with
            filterTimer := .running ms, filterInterval := ms, filterLoaded := loaded, filterBlocked := blocked }).post
            ((if loaded = s.exm.filterLoaded then [] else if loaded then [.alarmRaise 30] else [.alarmEnd 30]) ++
              (if blocked = s.exm.filterBlocked then [] else if blocked then [.alarmRaise 31] else [.alarmEnd 31])))))

/-! ### Alarms and inhibits -/

/-- R139, R140, R144: what a raise and an end make of a record, by its state and its latching. A state that changes posts
ALARM_CHANGED, and AIM takes on the new record (InhibitsFollowTheirCauses says which INHIBIT_CHANGED events and inhibit change
arrivals follow); the FEED_RUNAWAY and POT_LEVEL_HIGH records hand POT their entry into IDLE. A state that stays posts nothing and
changes no inhibit. Other records stay as they were. The order in which the arrivals are posted is the model's choice: the inhibit
changes among themselves (assumption 37), then record IDLE, then the SAFE demand (assumption 40). -/
def Obligations.RaisesAndEndsMoveTheRecord : Prop :=
  ∀ (s : State) (i : AlarmId) (raised : Bool), ∀ c, c = (if raised then Instr.alarmRaise i else .alarmEnd i) →
    ∀ r, r = s.aim.records[i] →
    ∃ t, exec c s = .next t ∧ SameBut [.aim, .links, .posted] s t ∧
      (raised = true →
        (r.state = .idle → t.aim.records[i] =
          { state := .activeUnack, first := some s.clock, last := some s.clock, count := 1 }) ∧
        (r.state = .returnedUnack ∨ r.state = .activeUnack → t.aim.records[i] =
          { state := .activeUnack, first := r.first, last := some s.clock, count := min 255 (r.count + 1) }) ∧
        (r.state = .activeAck → t.aim.records[i] =
          { state := .activeAck, first := r.first, last := some s.clock, count := min 255 (r.count + 1) })) ∧
      (raised = false →
        (r.state = .activeUnack → alarmLatching i = true → t.aim.records[i] = { r with state := .returnedUnack }) ∧
        ((r.state = .activeUnack ∧ alarmLatching i = false) ∨ r.state = .activeAck → t.aim.records[i] =
          { state := .idle, first := none, last := none, count := 0 }) ∧
        (r.state = .returnedUnack ∨ r.state = .idle → t.aim = s.aim)) ∧
      (∀ j : AlarmId, j ≠ i → t.aim.records[j] = s.aim.records[j]) ∧
      t.aim.asserted = s.aim.asserted ∧ t.aim.levels = s.aim.levels ∧ t.aim.solderOcc = s.aim.solderOcc ∧
      (t.aim.records[i].state = r.state → t.links = s.links ∧ t.aim.waveEffect = s.aim.waveEffect ∧
        t.posted = s.posted.erase c ++ (if raised = true ∧ (i = 0 ∨ i = 36) then [.safeDemand i] else [])) ∧
      (t.aim.records[i].state ≠ r.state →
        t = ((((s.taken c).event (.alarmChanged i r.state t.aim.records[i].state (if raised then .raise else .ended)
            t.aim.records[i].count)).aimBecomes { s.aim with records := s.aim.records.set i t.aim.records[i] }).post
          (if t.aim.records[i].state = .idle ∧ i = Alarm.potLevelHigh then [.recordIdleArrival .levelHigh]
            else if t.aim.records[i].state = .idle ∧ i = Alarm.feedRunaway then [.recordIdleArrival .runaway] else [])).post
          (if raised = true ∧ (i = 0 ∨ i = 36) then [.safeDemand i] else []) ∧
        t.aim.waveEffect =
          waveNext s.aim.waveEffect t.aim.waveImmediate (t.aim.inhibitActive .wave) t.aim.solderOcc ∧
        ∀ l, (s.link l).mask.alarm = true → (s.link l).queue.length < 16 →
          (⟨s.clock, .alarmChanged i r.state t.aim.records[i].state (if raised then .raise else .ended)
            t.aim.records[i].count⟩ : EventRecord) ∈ (t.link l).queue) ∧
      (raised = true → i = 0 ∨ i = 36 → Instr.safeDemand i ∈ t.posted)

/-- R138, R143, R145, R146, R148, R151: the alarm list, which records hold their inhibit causes, the table of the WAVE effect state,
and that each change of an inhibit is handed to its block and posts INHIBIT_CHANGED. Several changes at once join the queues as
SPRAY, PREHEAT, WAVE, FEED, ENTRY (the model's choice, assumption 37). The contacts AIM owns raise and end their records (assumption
26), and the SOLDER occupancy moves the effect state. -/
def Obligations.InhibitsFollowTheirCauses : Prop :=
  (∀ rows : List (AlarmClass × Severity × Bool × List Inhibit × Bool), rows = List.flatten
    [[(.safety, .alarm, true, [.spray, .preheat, .wave, .feed, .entry], false), (.safety, .alarm, false, [.spray], false),
      (.safety, .alarm, false, [.preheat], false), (.safety, .alarm, false, [.wave, .feed], false)],
    List.replicate 10 (.process, .alarm, true, [.entry], false), List.replicate 3 (.safety, .alarm, true, [.entry], false),
    [(.safety, .alarm, true, [.wave, .feed, .entry], false), (.process, .alarm, true, [.wave, .entry], true),
      (.process, .alarm, true, [.feed], false), (.process, .alarm, true, [.feed], false),
      (.process, .warn, false, [], false), (.process, .alarm, true, [.wave, .entry], false),
      (.process, .warn, false, [], false), (.process, .alarm, false, [.entry], false),
      (.process, .alarm, true, [.entry], false), (.process, .alarm, false, [.spray, .entry], false),
      (.safety, .alarm, true, [.spray, .preheat, .wave, .entry], true), (.process, .warn, true, [], false),
      (.process, .warn, true, [], false), (.process, .warn, false, [], false), (.process, .alarm, true, [.entry], false),
      (.process, .alarm, false, [.entry], false), (.process, .alarm, true, [.wave], false),
      (.process, .alarm, true, [.entry], false), (.process, .alarm, true, [.entry], false),
      (.safety, .alarm, true, [], false)]] →
    rows.length = 37 ∧ ∀ i : AlarmId, rows[i.val]? = some (alarmClass i, alarmSeverity i, alarmLatching i,
      [Inhibit.spray, .preheat, .wave, .feed, .entry].filter (alarmNames i), waveDeferred i)) ∧
  (∀ (i : AlarmId) (st : RecordState), holdsCauses i st = true ↔
    st = .activeUnack ∨ st = .activeAck ∨ (st = .returnedUnack ∧ alarmClass i = .safety)) ∧
  (∀ (a : Aim) (n : Inhibit), a.inhibitActive n = true ↔
    a.asserted.get n = true ∨ ∃ i : AlarmId, alarmNames i n = true ∧ holdsCauses i a.records[i].state = true) ∧
  (∀ a : Aim, a.waveImmediate = true ↔ a.asserted.wave = true ∨
    ∃ i : AlarmId, i ∈ [0, 3, 17, 22, 33] ∧ holdsCauses i a.records[i].state = true) ∧
  (∀ (e : WaveEffect) (any solder : Bool), waveNext e true any solder = .active ∧
    waveNext e false false solder = .inactive ∧ waveNext .active false true solder = .active ∧
    (e ≠ .active → waveNext e false true true = .pending ∧ waveNext e false true false = .active)) ∧
  (∀ (s : State) (a : Aim), ∀ t, t = s.aimBecomes a → SameBut [.aim, .links, .posted] s t ∧
    t.aim = { a with waveEffect := waveNext a.waveEffect a.waveImmediate (a.inhibitActive .wave) a.solderOcc } ∧
    (∀ l, t.link l = ([Inhibit.spray, .preheat, .wave, .feed, .entry].flatMap fun n =>
        if n = .wave then
          (if t.aim.waveEffect = s.aim.waveEffect then []
            else [(⟨s.clock, .inhibitChanged n t.aim.waveEffect (t.aim.asserted.get n)⟩ : EventRecord)])
        else if t.aim.inhibitActive n = s.aim.inhibitActive n then []
        else [⟨s.clock, .inhibitChanged n (if t.aim.inhibitActive n then .active else .inactive)
          (t.aim.asserted.get n)⟩]).foldl (fun k r => k.copyEvent r) (s.link l)) ∧
    (∀ c, c ∈ t.posted ↔ c ∈ s.posted ∨
      (t.aim.waveEffect ≠ s.aim.waveEffect ∧ c = .waveInhibitChange t.aim.waveEffect) ∨
      ∃ n v, v = t.aim.inhibitActive n ∧ v ≠ s.aim.inhibitActive n ∧
        ((n = .spray ∧ c = .sprayInhibitChange v) ∨ (n = .preheat ∧ c = .preheatInhibitChange v) ∨
          (n = .feed ∧ c = .feedInhibitChange v) ∨ (n = .entry ∧ c = .entryInhibitChange v)))) ∧
  (∀ (s : State) (o : Bool), exec (.solderOccupancyArrival o) s = .next
    ((s.taken (.solderOccupancyArrival o)).aimBecomes { s.aim with solderOcc := o })) ∧
  (∀ (s : State) (k : SafetyContact) (tr : Transition), exec (.safetyContactTransition k tr) s = .next
    (((s.taken (.safetyContactTransition k tr)).setAim { s.aim with levels := s.aim.levels.set k.index tr.level }).post
      (match tr.level with
        | .opened => [.alarmRaise k.alarm]
        | .closed => [.alarmEnd k.alarm]
        | .unknown => [])))

/-! ### What every step keeps -/

/-- R13, R52, R57, R115, R122, R137, R148, R164, R178: the state right after reset has every property that the statements below say
a step keeps. -/
def Obligations.TheResetStateIsSound : Prop :=
  TanksRetained State.reset ∧ ValveSound State.reset ∧ WithinCapacity State.reset ∧ WaveSound State.reset ∧
    DuctSound State.reset ∧ LinksSound State.reset ∧ AlarmsSound State.reset ∧ WaveEffectSound State.reset ∧
    ConfigSound State.reset ∧ BanksSound State.reset

/-- R50, R52, R54, R57, R191: from any state, a step keeps the retained tank amounts and active tank equal to FLX's, and keeps the
spray valve shut but over a board in spray in a SPRAYED cell, with the SPRAY inhibit inactive and the line mode one that sprays, as
FLX took them last (assumption 33). -/
def Obligations.EveryStepKeepsTheTanksAndTheValve : Prop :=
  ∀ s t : State, step s = .next t → (TanksRetained s → TanksRetained t) ∧ (ValveSound s → ValveSound t)

/-- R11, R13, R22: a step keeps the board table and the exit log within their capacities, and READY low where no board could be
taken. -/
def Obligations.EveryStepKeepsTheTrackWithinCapacity : Prop :=
  ∀ s t : State, step s = .next t → WithinCapacity s → WithinCapacity t

/-- R114, R115, R117, R122, R125 to R127: a step keeps the wave OFF while the pot is not READY, with the pump at 0 and the rise
timer stopped in OFF, and keeps the fans, the counts, the recovery timer and the conditions as the duct state has them: the duty fan
is never off. -/
def Obligations.EveryStepKeepsTheWaveAndTheDuctSound : Prop :=
  ∀ s t : State, step s = .next t → (WaveSound s → WaveSound t) ∧ (DuctSound s → DuctSound t)

/-- R137, R139, R140, R148, R178, R186: a step keeps every alarm record's stamps and count as its state has them, the WAVE effect
state in step with its cause set, and each link's owed replies and event queue within their room, with nothing owed on an IDLE
link. -/
def Obligations.EveryStepKeepsTheAlarmsAndTheLinksSound : Prop :=
  ∀ s t : State, step s = .next t →
    (AlarmsSound s → AlarmsSound t) ∧ (WaveEffectSound s → WaveEffectSound t) ∧ (LinksSound s → LinksSound t)

/-- R5, R6, R31, R45, R46, R107, R123, R164, R180: a step keeps every machine configuration item in its range and the conditions
between items, and every item of a bank in its range. -/
def Obligations.EveryStepKeepsTheConfigurationSound : Prop :=
  ∀ s t : State, step s = .next t → (ConfigSound s → ConfigSound t) ∧ (BanksSound s → BanksSound t)
end

