-- ==== Sys2Proof/Laws/State.lean ====
section
/-! SUPPORT. One lemma per field per update of the state, each true by definition, so that no proof unfolds a record update. -/

-- Many short proofs at once would ask for a thread each; one after another they fit the stack limit.
set_option Elab.async false

namespace Sys2Proof.Machine

variable (s : State)

/-! ### setTrk -/

@[simp] theorem setTrk_trk (x : Trk) : (s.setTrk x).trk = x := rfl
@[simp] theorem setTrk_saq (x : Trk) : (s.setTrk x).saq = s.saq := rfl
@[simp] theorem setTrk_flx (x : Trk) : (s.setTrk x).flx = s.flx := rfl
@[simp] theorem setTrk_znc (x : Trk) : (s.setTrk x).znc = s.znc := rfl
@[simp] theorem setTrk_pot (x : Trk) : (s.setTrk x).pot = s.pot := rfl
@[simp] theorem setTrk_exm (x : Trk) : (s.setTrk x).exm = s.exm := rfl
@[simp] theorem setTrk_aim (x : Trk) : (s.setTrk x).aim = s.aim := rfl
@[simp] theorem setTrk_lmc (x : Trk) : (s.setTrk x).lmc = s.lmc := rfl
@[simp] theorem setTrk_links (x : Trk) : (s.setTrk x).links = s.links := rfl
@[simp] theorem setTrk_rtr (x : Trk) : (s.setTrk x).rtr = s.rtr := rfl
@[simp] theorem setTrk_clock (x : Trk) : (s.setTrk x).clock = s.clock := rfl
@[simp] theorem setTrk_resetPin (x : Trk) : (s.setTrk x).resetPin = s.resetPin := rfl
@[simp] theorem setTrk_pending (x : Trk) : (s.setTrk x).pending = s.pending := rfl
@[simp] theorem setTrk_posted (x : Trk) : (s.setTrk x).posted = s.posted := rfl
@[simp] theorem setTrk_freeCount (x : Trk) : (s.setTrk x).freeCount = s.freeCount := rfl

/-! ### setSaq -/

@[simp] theorem setSaq_trk (x : Saq) : (s.setSaq x).trk = s.trk := rfl
@[simp] theorem setSaq_saq (x : Saq) : (s.setSaq x).saq = x := rfl
@[simp] theorem setSaq_flx (x : Saq) : (s.setSaq x).flx = s.flx := rfl
@[simp] theorem setSaq_znc (x : Saq) : (s.setSaq x).znc = s.znc := rfl
@[simp] theorem setSaq_pot (x : Saq) : (s.setSaq x).pot = s.pot := rfl
@[simp] theorem setSaq_exm (x : Saq) : (s.setSaq x).exm = s.exm := rfl
@[simp] theorem setSaq_aim (x : Saq) : (s.setSaq x).aim = s.aim := rfl
@[simp] theorem setSaq_lmc (x : Saq) : (s.setSaq x).lmc = s.lmc := rfl
@[simp] theorem setSaq_links (x : Saq) : (s.setSaq x).links = s.links := rfl
@[simp] theorem setSaq_rtr (x : Saq) : (s.setSaq x).rtr = s.rtr := rfl
@[simp] theorem setSaq_clock (x : Saq) : (s.setSaq x).clock = s.clock := rfl
@[simp] theorem setSaq_resetPin (x : Saq) : (s.setSaq x).resetPin = s.resetPin := rfl
@[simp] theorem setSaq_pending (x : Saq) : (s.setSaq x).pending = s.pending := rfl
@[simp] theorem setSaq_posted (x : Saq) : (s.setSaq x).posted = s.posted := rfl
@[simp] theorem setSaq_freeCount (x : Saq) : (s.setSaq x).freeCount = s.freeCount := rfl

/-! ### setFlx -/

@[simp] theorem setFlx_trk (x : Flx) : (s.setFlx x).trk = s.trk := rfl
@[simp] theorem setFlx_saq (x : Flx) : (s.setFlx x).saq = s.saq := rfl
@[simp] theorem setFlx_flx (x : Flx) : (s.setFlx x).flx = x := rfl
@[simp] theorem setFlx_znc (x : Flx) : (s.setFlx x).znc = s.znc := rfl
@[simp] theorem setFlx_pot (x : Flx) : (s.setFlx x).pot = s.pot := rfl
@[simp] theorem setFlx_exm (x : Flx) : (s.setFlx x).exm = s.exm := rfl
@[simp] theorem setFlx_aim (x : Flx) : (s.setFlx x).aim = s.aim := rfl
@[simp] theorem setFlx_lmc (x : Flx) : (s.setFlx x).lmc = s.lmc := rfl
@[simp] theorem setFlx_links (x : Flx) : (s.setFlx x).links = s.links := rfl
@[simp] theorem setFlx_rtr (x : Flx) : (s.setFlx x).rtr = s.rtr := rfl
@[simp] theorem setFlx_clock (x : Flx) : (s.setFlx x).clock = s.clock := rfl
@[simp] theorem setFlx_resetPin (x : Flx) : (s.setFlx x).resetPin = s.resetPin := rfl
@[simp] theorem setFlx_pending (x : Flx) : (s.setFlx x).pending = s.pending := rfl
@[simp] theorem setFlx_posted (x : Flx) : (s.setFlx x).posted = s.posted := rfl
@[simp] theorem setFlx_freeCount (x : Flx) : (s.setFlx x).freeCount = s.freeCount := rfl

/-! ### setZnc -/

@[simp] theorem setZnc_trk (x : Znc) : (s.setZnc x).trk = s.trk := rfl
@[simp] theorem setZnc_saq (x : Znc) : (s.setZnc x).saq = s.saq := rfl
@[simp] theorem setZnc_flx (x : Znc) : (s.setZnc x).flx = s.flx := rfl
@[simp] theorem setZnc_znc (x : Znc) : (s.setZnc x).znc = x := rfl
@[simp] theorem setZnc_pot (x : Znc) : (s.setZnc x).pot = s.pot := rfl
@[simp] theorem setZnc_exm (x : Znc) : (s.setZnc x).exm = s.exm := rfl
@[simp] theorem setZnc_aim (x : Znc) : (s.setZnc x).aim = s.aim := rfl
@[simp] theorem setZnc_lmc (x : Znc) : (s.setZnc x).lmc = s.lmc := rfl
@[simp] theorem setZnc_links (x : Znc) : (s.setZnc x).links = s.links := rfl
@[simp] theorem setZnc_rtr (x : Znc) : (s.setZnc x).rtr = s.rtr := rfl
@[simp] theorem setZnc_clock (x : Znc) : (s.setZnc x).clock = s.clock := rfl
@[simp] theorem setZnc_resetPin (x : Znc) : (s.setZnc x).resetPin = s.resetPin := rfl
@[simp] theorem setZnc_pending (x : Znc) : (s.setZnc x).pending = s.pending := rfl
@[simp] theorem setZnc_posted (x : Znc) : (s.setZnc x).posted = s.posted := rfl
@[simp] theorem setZnc_freeCount (x : Znc) : (s.setZnc x).freeCount = s.freeCount := rfl

/-! ### setPot -/

@[simp] theorem setPot_trk (x : Pot) : (s.setPot x).trk = s.trk := rfl
@[simp] theorem setPot_saq (x : Pot) : (s.setPot x).saq = s.saq := rfl
@[simp] theorem setPot_flx (x : Pot) : (s.setPot x).flx = s.flx := rfl
@[simp] theorem setPot_znc (x : Pot) : (s.setPot x).znc = s.znc := rfl
@[simp] theorem setPot_pot (x : Pot) : (s.setPot x).pot = x := rfl
@[simp] theorem setPot_exm (x : Pot) : (s.setPot x).exm = s.exm := rfl
@[simp] theorem setPot_aim (x : Pot) : (s.setPot x).aim = s.aim := rfl
@[simp] theorem setPot_lmc (x : Pot) : (s.setPot x).lmc = s.lmc := rfl
@[simp] theorem setPot_links (x : Pot) : (s.setPot x).links = s.links := rfl
@[simp] theorem setPot_rtr (x : Pot) : (s.setPot x).rtr = s.rtr := rfl
@[simp] theorem setPot_clock (x : Pot) : (s.setPot x).clock = s.clock := rfl
@[simp] theorem setPot_resetPin (x : Pot) : (s.setPot x).resetPin = s.resetPin := rfl
@[simp] theorem setPot_pending (x : Pot) : (s.setPot x).pending = s.pending := rfl
@[simp] theorem setPot_posted (x : Pot) : (s.setPot x).posted = s.posted := rfl
@[simp] theorem setPot_freeCount (x : Pot) : (s.setPot x).freeCount = s.freeCount := rfl

/-! ### setExm -/

@[simp] theorem setExm_trk (x : Exm) : (s.setExm x).trk = s.trk := rfl
@[simp] theorem setExm_saq (x : Exm) : (s.setExm x).saq = s.saq := rfl
@[simp] theorem setExm_flx (x : Exm) : (s.setExm x).flx = s.flx := rfl
@[simp] theorem setExm_znc (x : Exm) : (s.setExm x).znc = s.znc := rfl
@[simp] theorem setExm_pot (x : Exm) : (s.setExm x).pot = s.pot := rfl
@[simp] theorem setExm_exm (x : Exm) : (s.setExm x).exm = x := rfl
@[simp] theorem setExm_aim (x : Exm) : (s.setExm x).aim = s.aim := rfl
@[simp] theorem setExm_lmc (x : Exm) : (s.setExm x).lmc = s.lmc := rfl
@[simp] theorem setExm_links (x : Exm) : (s.setExm x).links = s.links := rfl
@[simp] theorem setExm_rtr (x : Exm) : (s.setExm x).rtr = s.rtr := rfl
@[simp] theorem setExm_clock (x : Exm) : (s.setExm x).clock = s.clock := rfl
@[simp] theorem setExm_resetPin (x : Exm) : (s.setExm x).resetPin = s.resetPin := rfl
@[simp] theorem setExm_pending (x : Exm) : (s.setExm x).pending = s.pending := rfl
@[simp] theorem setExm_posted (x : Exm) : (s.setExm x).posted = s.posted := rfl
@[simp] theorem setExm_freeCount (x : Exm) : (s.setExm x).freeCount = s.freeCount := rfl

/-! ### setAim -/

@[simp] theorem setAim_trk (x : Aim) : (s.setAim x).trk = s.trk := rfl
@[simp] theorem setAim_saq (x : Aim) : (s.setAim x).saq = s.saq := rfl
@[simp] theorem setAim_flx (x : Aim) : (s.setAim x).flx = s.flx := rfl
@[simp] theorem setAim_znc (x : Aim) : (s.setAim x).znc = s.znc := rfl
@[simp] theorem setAim_pot (x : Aim) : (s.setAim x).pot = s.pot := rfl
@[simp] theorem setAim_exm (x : Aim) : (s.setAim x).exm = s.exm := rfl
@[simp] theorem setAim_aim (x : Aim) : (s.setAim x).aim = x := rfl
@[simp] theorem setAim_lmc (x : Aim) : (s.setAim x).lmc = s.lmc := rfl
@[simp] theorem setAim_links (x : Aim) : (s.setAim x).links = s.links := rfl
@[simp] theorem setAim_rtr (x : Aim) : (s.setAim x).rtr = s.rtr := rfl
@[simp] theorem setAim_clock (x : Aim) : (s.setAim x).clock = s.clock := rfl
@[simp] theorem setAim_resetPin (x : Aim) : (s.setAim x).resetPin = s.resetPin := rfl
@[simp] theorem setAim_pending (x : Aim) : (s.setAim x).pending = s.pending := rfl
@[simp] theorem setAim_posted (x : Aim) : (s.setAim x).posted = s.posted := rfl
@[simp] theorem setAim_freeCount (x : Aim) : (s.setAim x).freeCount = s.freeCount := rfl

/-! ### setLmc -/

@[simp] theorem setLmc_trk (x : Lmc) : (s.setLmc x).trk = s.trk := rfl
@[simp] theorem setLmc_saq (x : Lmc) : (s.setLmc x).saq = s.saq := rfl
@[simp] theorem setLmc_flx (x : Lmc) : (s.setLmc x).flx = s.flx := rfl
@[simp] theorem setLmc_znc (x : Lmc) : (s.setLmc x).znc = s.znc := rfl
@[simp] theorem setLmc_pot (x : Lmc) : (s.setLmc x).pot = s.pot := rfl
@[simp] theorem setLmc_exm (x : Lmc) : (s.setLmc x).exm = s.exm := rfl
@[simp] theorem setLmc_aim (x : Lmc) : (s.setLmc x).aim = s.aim := rfl
@[simp] theorem setLmc_lmc (x : Lmc) : (s.setLmc x).lmc = x := rfl
@[simp] theorem setLmc_links (x : Lmc) : (s.setLmc x).links = s.links := rfl
@[simp] theorem setLmc_rtr (x : Lmc) : (s.setLmc x).rtr = s.rtr := rfl
@[simp] theorem setLmc_clock (x : Lmc) : (s.setLmc x).clock = s.clock := rfl
@[simp] theorem setLmc_resetPin (x : Lmc) : (s.setLmc x).resetPin = s.resetPin := rfl
@[simp] theorem setLmc_pending (x : Lmc) : (s.setLmc x).pending = s.pending := rfl
@[simp] theorem setLmc_posted (x : Lmc) : (s.setLmc x).posted = s.posted := rfl
@[simp] theorem setLmc_freeCount (x : Lmc) : (s.setLmc x).freeCount = s.freeCount := rfl

/-! ### setLinks -/

@[simp] theorem setLinks_trk (x : PerLink LinkState) : (s.setLinks x).trk = s.trk := rfl
@[simp] theorem setLinks_saq (x : PerLink LinkState) : (s.setLinks x).saq = s.saq := rfl
@[simp] theorem setLinks_flx (x : PerLink LinkState) : (s.setLinks x).flx = s.flx := rfl
@[simp] theorem setLinks_znc (x : PerLink LinkState) : (s.setLinks x).znc = s.znc := rfl
@[simp] theorem setLinks_pot (x : PerLink LinkState) : (s.setLinks x).pot = s.pot := rfl
@[simp] theorem setLinks_exm (x : PerLink LinkState) : (s.setLinks x).exm = s.exm := rfl
@[simp] theorem setLinks_aim (x : PerLink LinkState) : (s.setLinks x).aim = s.aim := rfl
@[simp] theorem setLinks_lmc (x : PerLink LinkState) : (s.setLinks x).lmc = s.lmc := rfl
@[simp] theorem setLinks_links (x : PerLink LinkState) : (s.setLinks x).links = x := rfl
@[simp] theorem setLinks_rtr (x : PerLink LinkState) : (s.setLinks x).rtr = s.rtr := rfl
@[simp] theorem setLinks_clock (x : PerLink LinkState) : (s.setLinks x).clock = s.clock := rfl
@[simp] theorem setLinks_resetPin (x : PerLink LinkState) : (s.setLinks x).resetPin = s.resetPin := rfl
@[simp] theorem setLinks_pending (x : PerLink LinkState) : (s.setLinks x).pending = s.pending := rfl
@[simp] theorem setLinks_posted (x : PerLink LinkState) : (s.setLinks x).posted = s.posted := rfl
@[simp] theorem setLinks_freeCount (x : PerLink LinkState) : (s.setLinks x).freeCount = s.freeCount := rfl

/-! ### setRtr -/

@[simp] theorem setRtr_trk (x : Rtr) : (s.setRtr x).trk = s.trk := rfl
@[simp] theorem setRtr_saq (x : Rtr) : (s.setRtr x).saq = s.saq := rfl
@[simp] theorem setRtr_flx (x : Rtr) : (s.setRtr x).flx = s.flx := rfl
@[simp] theorem setRtr_znc (x : Rtr) : (s.setRtr x).znc = s.znc := rfl
@[simp] theorem setRtr_pot (x : Rtr) : (s.setRtr x).pot = s.pot := rfl
@[simp] theorem setRtr_exm (x : Rtr) : (s.setRtr x).exm = s.exm := rfl
@[simp] theorem setRtr_aim (x : Rtr) : (s.setRtr x).aim = s.aim := rfl
@[simp] theorem setRtr_lmc (x : Rtr) : (s.setRtr x).lmc = s.lmc := rfl
@[simp] theorem setRtr_links (x : Rtr) : (s.setRtr x).links = s.links := rfl
@[simp] theorem setRtr_rtr (x : Rtr) : (s.setRtr x).rtr = x := rfl
@[simp] theorem setRtr_clock (x : Rtr) : (s.setRtr x).clock = s.clock := rfl
@[simp] theorem setRtr_resetPin (x : Rtr) : (s.setRtr x).resetPin = s.resetPin := rfl
@[simp] theorem setRtr_pending (x : Rtr) : (s.setRtr x).pending = s.pending := rfl
@[simp] theorem setRtr_posted (x : Rtr) : (s.setRtr x).posted = s.posted := rfl
@[simp] theorem setRtr_freeCount (x : Rtr) : (s.setRtr x).freeCount = s.freeCount := rfl

/-! ### setClock -/

@[simp] theorem setClock_trk (x : RunClock) : (s.setClock x).trk = s.trk := rfl
@[simp] theorem setClock_saq (x : RunClock) : (s.setClock x).saq = s.saq := rfl
@[simp] theorem setClock_flx (x : RunClock) : (s.setClock x).flx = s.flx := rfl
@[simp] theorem setClock_znc (x : RunClock) : (s.setClock x).znc = s.znc := rfl
@[simp] theorem setClock_pot (x : RunClock) : (s.setClock x).pot = s.pot := rfl
@[simp] theorem setClock_exm (x : RunClock) : (s.setClock x).exm = s.exm := rfl
@[simp] theorem setClock_aim (x : RunClock) : (s.setClock x).aim = s.aim := rfl
@[simp] theorem setClock_lmc (x : RunClock) : (s.setClock x).lmc = s.lmc := rfl
@[simp] theorem setClock_links (x : RunClock) : (s.setClock x).links = s.links := rfl
@[simp] theorem setClock_rtr (x : RunClock) : (s.setClock x).rtr = s.rtr := rfl
@[simp] theorem setClock_clock (x : RunClock) : (s.setClock x).clock = x := rfl
@[simp] theorem setClock_resetPin (x : RunClock) : (s.setClock x).resetPin = s.resetPin := rfl
@[simp] theorem setClock_pending (x : RunClock) : (s.setClock x).pending = s.pending := rfl
@[simp] theorem setClock_posted (x : RunClock) : (s.setClock x).posted = s.posted := rfl
@[simp] theorem setClock_freeCount (x : RunClock) : (s.setClock x).freeCount = s.freeCount := rfl

/-! ### setResetPin -/

@[simp] theorem setResetPin_trk (x : ResetPin) : (s.setResetPin x).trk = s.trk := rfl
@[simp] theorem setResetPin_saq (x : ResetPin) : (s.setResetPin x).saq = s.saq := rfl
@[simp] theorem setResetPin_flx (x : ResetPin) : (s.setResetPin x).flx = s.flx := rfl
@[simp] theorem setResetPin_znc (x : ResetPin) : (s.setResetPin x).znc = s.znc := rfl
@[simp] theorem setResetPin_pot (x : ResetPin) : (s.setResetPin x).pot = s.pot := rfl
@[simp] theorem setResetPin_exm (x : ResetPin) : (s.setResetPin x).exm = s.exm := rfl
@[simp] theorem setResetPin_aim (x : ResetPin) : (s.setResetPin x).aim = s.aim := rfl
@[simp] theorem setResetPin_lmc (x : ResetPin) : (s.setResetPin x).lmc = s.lmc := rfl
@[simp] theorem setResetPin_links (x : ResetPin) : (s.setResetPin x).links = s.links := rfl
@[simp] theorem setResetPin_rtr (x : ResetPin) : (s.setResetPin x).rtr = s.rtr := rfl
@[simp] theorem setResetPin_clock (x : ResetPin) : (s.setResetPin x).clock = s.clock := rfl
@[simp] theorem setResetPin_resetPin (x : ResetPin) : (s.setResetPin x).resetPin = x := rfl
@[simp] theorem setResetPin_pending (x : ResetPin) : (s.setResetPin x).pending = s.pending := rfl
@[simp] theorem setResetPin_posted (x : ResetPin) : (s.setResetPin x).posted = s.posted := rfl
@[simp] theorem setResetPin_freeCount (x : ResetPin) : (s.setResetPin x).freeCount = s.freeCount := rfl

/-! ### post -/

@[simp] theorem post_trk (cs : List Instr) : (s.post cs).trk = s.trk := rfl
@[simp] theorem post_saq (cs : List Instr) : (s.post cs).saq = s.saq := rfl
@[simp] theorem post_flx (cs : List Instr) : (s.post cs).flx = s.flx := rfl
@[simp] theorem post_znc (cs : List Instr) : (s.post cs).znc = s.znc := rfl
@[simp] theorem post_pot (cs : List Instr) : (s.post cs).pot = s.pot := rfl
@[simp] theorem post_exm (cs : List Instr) : (s.post cs).exm = s.exm := rfl
@[simp] theorem post_aim (cs : List Instr) : (s.post cs).aim = s.aim := rfl
@[simp] theorem post_lmc (cs : List Instr) : (s.post cs).lmc = s.lmc := rfl
@[simp] theorem post_links (cs : List Instr) : (s.post cs).links = s.links := rfl
@[simp] theorem post_rtr (cs : List Instr) : (s.post cs).rtr = s.rtr := rfl
@[simp] theorem post_clock (cs : List Instr) : (s.post cs).clock = s.clock := rfl
@[simp] theorem post_resetPin (cs : List Instr) : (s.post cs).resetPin = s.resetPin := rfl
@[simp] theorem post_pending (cs : List Instr) : (s.post cs).pending = s.pending := rfl
@[simp] theorem post_posted (cs : List Instr) : (s.post cs).posted = s.posted ++ cs := rfl
@[simp] theorem post_freeCount (cs : List Instr) : (s.post cs).freeCount = s.freeCount := rfl

/-! ### taken -/

@[simp] theorem taken_trk (c : Instr) : (s.taken c).trk = s.trk := rfl
@[simp] theorem taken_saq (c : Instr) : (s.taken c).saq = s.saq := rfl
@[simp] theorem taken_flx (c : Instr) : (s.taken c).flx = s.flx := rfl
@[simp] theorem taken_znc (c : Instr) : (s.taken c).znc = s.znc := rfl
@[simp] theorem taken_pot (c : Instr) : (s.taken c).pot = s.pot := rfl
@[simp] theorem taken_exm (c : Instr) : (s.taken c).exm = s.exm := rfl
@[simp] theorem taken_aim (c : Instr) : (s.taken c).aim = s.aim := rfl
@[simp] theorem taken_lmc (c : Instr) : (s.taken c).lmc = s.lmc := rfl
@[simp] theorem taken_links (c : Instr) : (s.taken c).links = s.links := rfl
@[simp] theorem taken_rtr (c : Instr) : (s.taken c).rtr = s.rtr := rfl
@[simp] theorem taken_clock (c : Instr) : (s.taken c).clock = s.clock := rfl
@[simp] theorem taken_resetPin (c : Instr) : (s.taken c).resetPin = s.resetPin := rfl
@[simp] theorem taken_pending (c : Instr) : (s.taken c).pending = s.pending := rfl
@[simp] theorem taken_posted (c : Instr) : (s.taken c).posted = s.posted.erase c := rfl
@[simp] theorem taken_freeCount (c : Instr) : (s.taken c).freeCount = s.freeCount := rfl

/-! ### raiseAlarm -/

@[simp] theorem raiseAlarm_trk (i : AlarmId) : (s.raiseAlarm i).trk = s.trk := rfl
@[simp] theorem raiseAlarm_saq (i : AlarmId) : (s.raiseAlarm i).saq = s.saq := rfl
@[simp] theorem raiseAlarm_flx (i : AlarmId) : (s.raiseAlarm i).flx = s.flx := rfl
@[simp] theorem raiseAlarm_znc (i : AlarmId) : (s.raiseAlarm i).znc = s.znc := rfl
@[simp] theorem raiseAlarm_pot (i : AlarmId) : (s.raiseAlarm i).pot = s.pot := rfl
@[simp] theorem raiseAlarm_exm (i : AlarmId) : (s.raiseAlarm i).exm = s.exm := rfl
@[simp] theorem raiseAlarm_aim (i : AlarmId) : (s.raiseAlarm i).aim = s.aim := rfl
@[simp] theorem raiseAlarm_lmc (i : AlarmId) : (s.raiseAlarm i).lmc = s.lmc := rfl
@[simp] theorem raiseAlarm_links (i : AlarmId) : (s.raiseAlarm i).links = s.links := rfl
@[simp] theorem raiseAlarm_rtr (i : AlarmId) : (s.raiseAlarm i).rtr = s.rtr := rfl
@[simp] theorem raiseAlarm_clock (i : AlarmId) : (s.raiseAlarm i).clock = s.clock := rfl
@[simp] theorem raiseAlarm_resetPin (i : AlarmId) : (s.raiseAlarm i).resetPin = s.resetPin := rfl
@[simp] theorem raiseAlarm_pending (i : AlarmId) : (s.raiseAlarm i).pending = s.pending := rfl
@[simp] theorem raiseAlarm_posted (i : AlarmId) :
    (s.raiseAlarm i).posted = s.posted ++ [.alarmRaise i] := rfl
@[simp] theorem raiseAlarm_freeCount (i : AlarmId) : (s.raiseAlarm i).freeCount = s.freeCount := rfl

/-! ### endAlarm -/

@[simp] theorem endAlarm_trk (i : AlarmId) : (s.endAlarm i).trk = s.trk := rfl
@[simp] theorem endAlarm_saq (i : AlarmId) : (s.endAlarm i).saq = s.saq := rfl
@[simp] theorem endAlarm_flx (i : AlarmId) : (s.endAlarm i).flx = s.flx := rfl
@[simp] theorem endAlarm_znc (i : AlarmId) : (s.endAlarm i).znc = s.znc := rfl
@[simp] theorem endAlarm_pot (i : AlarmId) : (s.endAlarm i).pot = s.pot := rfl
@[simp] theorem endAlarm_exm (i : AlarmId) : (s.endAlarm i).exm = s.exm := rfl
@[simp] theorem endAlarm_aim (i : AlarmId) : (s.endAlarm i).aim = s.aim := rfl
@[simp] theorem endAlarm_lmc (i : AlarmId) : (s.endAlarm i).lmc = s.lmc := rfl
@[simp] theorem endAlarm_links (i : AlarmId) : (s.endAlarm i).links = s.links := rfl
@[simp] theorem endAlarm_rtr (i : AlarmId) : (s.endAlarm i).rtr = s.rtr := rfl
@[simp] theorem endAlarm_clock (i : AlarmId) : (s.endAlarm i).clock = s.clock := rfl
@[simp] theorem endAlarm_resetPin (i : AlarmId) : (s.endAlarm i).resetPin = s.resetPin := rfl
@[simp] theorem endAlarm_pending (i : AlarmId) : (s.endAlarm i).pending = s.pending := rfl
@[simp] theorem endAlarm_posted (i : AlarmId) : (s.endAlarm i).posted = s.posted ++ [.alarmEnd i] := rfl
@[simp] theorem endAlarm_freeCount (i : AlarmId) : (s.endAlarm i).freeCount = s.freeCount := rfl

/-! ### event -/

@[simp] theorem event_trk (e : Event) : (s.event e).trk = s.trk := rfl
@[simp] theorem event_saq (e : Event) : (s.event e).saq = s.saq := rfl
@[simp] theorem event_flx (e : Event) : (s.event e).flx = s.flx := rfl
@[simp] theorem event_znc (e : Event) : (s.event e).znc = s.znc := rfl
@[simp] theorem event_pot (e : Event) : (s.event e).pot = s.pot := rfl
@[simp] theorem event_exm (e : Event) : (s.event e).exm = s.exm := rfl
@[simp] theorem event_aim (e : Event) : (s.event e).aim = s.aim := rfl
@[simp] theorem event_lmc (e : Event) : (s.event e).lmc = s.lmc := rfl
@[simp] theorem event_links (e : Event) :
    (s.event e).links = s.links.map (LinkState.copyEvent ⟨s.clock, e⟩) := rfl
@[simp] theorem event_rtr (e : Event) : (s.event e).rtr = s.rtr := rfl
@[simp] theorem event_clock (e : Event) : (s.event e).clock = s.clock := rfl
@[simp] theorem event_resetPin (e : Event) : (s.event e).resetPin = s.resetPin := rfl
@[simp] theorem event_pending (e : Event) : (s.event e).pending = s.pending := rfl
@[simp] theorem event_posted (e : Event) : (s.event e).posted = s.posted := rfl
@[simp] theorem event_freeCount (e : Event) : (s.event e).freeCount = s.freeCount := rfl

/-! ### useFree -/

@[simp] theorem useFree_trk (n : Nat) : (s.useFree n).trk = s.trk := rfl
@[simp] theorem useFree_saq (n : Nat) : (s.useFree n).saq = s.saq := rfl
@[simp] theorem useFree_flx (n : Nat) : (s.useFree n).flx = s.flx := rfl
@[simp] theorem useFree_znc (n : Nat) : (s.useFree n).znc = s.znc := rfl
@[simp] theorem useFree_pot (n : Nat) : (s.useFree n).pot = s.pot := rfl
@[simp] theorem useFree_exm (n : Nat) : (s.useFree n).exm = s.exm := rfl
@[simp] theorem useFree_aim (n : Nat) : (s.useFree n).aim = s.aim := rfl
@[simp] theorem useFree_lmc (n : Nat) : (s.useFree n).lmc = s.lmc := rfl
@[simp] theorem useFree_links (n : Nat) : (s.useFree n).links = s.links := rfl
@[simp] theorem useFree_rtr (n : Nat) : (s.useFree n).rtr = s.rtr := rfl
@[simp] theorem useFree_clock (n : Nat) : (s.useFree n).clock = s.clock := rfl
@[simp] theorem useFree_resetPin (n : Nat) : (s.useFree n).resetPin = s.resetPin := rfl
@[simp] theorem useFree_pending (n : Nat) : (s.useFree n).pending = s.pending := rfl
@[simp] theorem useFree_posted (n : Nat) : (s.useFree n).posted = s.posted := rfl
@[simp] theorem useFree_freeCount (n : Nat) : (s.useFree n).freeCount = s.freeCount + n := rfl

/-! ### updateBoard -/

@[simp] theorem updateBoard_trk (q : Nat) (f : BoardRecord → BoardRecord) : (s.updateBoard q f).trk = s.trk.update q f := rfl
@[simp] theorem updateBoard_saq (q : Nat) (f : BoardRecord → BoardRecord) : (s.updateBoard q f).saq = s.saq := rfl
@[simp] theorem updateBoard_flx (q : Nat) (f : BoardRecord → BoardRecord) : (s.updateBoard q f).flx = s.flx := rfl
@[simp] theorem updateBoard_znc (q : Nat) (f : BoardRecord → BoardRecord) : (s.updateBoard q f).znc = s.znc := rfl
@[simp] theorem updateBoard_pot (q : Nat) (f : BoardRecord → BoardRecord) : (s.updateBoard q f).pot = s.pot := rfl
@[simp] theorem updateBoard_exm (q : Nat) (f : BoardRecord → BoardRecord) : (s.updateBoard q f).exm = s.exm := rfl
@[simp] theorem updateBoard_aim (q : Nat) (f : BoardRecord → BoardRecord) : (s.updateBoard q f).aim = s.aim := rfl
@[simp] theorem updateBoard_lmc (q : Nat) (f : BoardRecord → BoardRecord) : (s.updateBoard q f).lmc = s.lmc := rfl
@[simp] theorem updateBoard_links (q : Nat) (f : BoardRecord → BoardRecord) : (s.updateBoard q f).links = s.links := rfl
@[simp] theorem updateBoard_rtr (q : Nat) (f : BoardRecord → BoardRecord) : (s.updateBoard q f).rtr = s.rtr := rfl
@[simp] theorem updateBoard_clock (q : Nat) (f : BoardRecord → BoardRecord) : (s.updateBoard q f).clock = s.clock := rfl
@[simp] theorem updateBoard_resetPin (q : Nat) (f : BoardRecord → BoardRecord) : (s.updateBoard q f).resetPin = s.resetPin := rfl
@[simp] theorem updateBoard_pending (q : Nat) (f : BoardRecord → BoardRecord) : (s.updateBoard q f).pending = s.pending := rfl
@[simp] theorem updateBoard_posted (q : Nat) (f : BoardRecord → BoardRecord) : (s.updateBoard q f).posted = s.posted := rfl
@[simp] theorem updateBoard_freeCount (q : Nat) (f : BoardRecord → BoardRecord) : (s.updateBoard q f).freeCount = s.freeCount := rfl

/-! ### setLink -/

@[simp] theorem setLink_trk (l : Link) (k : LinkState) : (s.setLink l k).trk = s.trk := rfl
@[simp] theorem setLink_saq (l : Link) (k : LinkState) : (s.setLink l k).saq = s.saq := rfl
@[simp] theorem setLink_flx (l : Link) (k : LinkState) : (s.setLink l k).flx = s.flx := rfl
@[simp] theorem setLink_znc (l : Link) (k : LinkState) : (s.setLink l k).znc = s.znc := rfl
@[simp] theorem setLink_pot (l : Link) (k : LinkState) : (s.setLink l k).pot = s.pot := rfl
@[simp] theorem setLink_exm (l : Link) (k : LinkState) : (s.setLink l k).exm = s.exm := rfl
@[simp] theorem setLink_aim (l : Link) (k : LinkState) : (s.setLink l k).aim = s.aim := rfl
@[simp] theorem setLink_lmc (l : Link) (k : LinkState) : (s.setLink l k).lmc = s.lmc := rfl
@[simp] theorem setLink_links (l : Link) (k : LinkState) : (s.setLink l k).links = s.links.set l k := rfl
@[simp] theorem setLink_rtr (l : Link) (k : LinkState) : (s.setLink l k).rtr = s.rtr := rfl
@[simp] theorem setLink_clock (l : Link) (k : LinkState) : (s.setLink l k).clock = s.clock := rfl
@[simp] theorem setLink_resetPin (l : Link) (k : LinkState) : (s.setLink l k).resetPin = s.resetPin := rfl
@[simp] theorem setLink_pending (l : Link) (k : LinkState) : (s.setLink l k).pending = s.pending := rfl
@[simp] theorem setLink_posted (l : Link) (k : LinkState) : (s.setLink l k).posted = s.posted := rfl
@[simp] theorem setLink_freeCount (l : Link) (k : LinkState) : (s.setLink l k).freeCount = s.freeCount := rfl

/-! ### receiverToHunt -/

@[simp] theorem receiverToHunt_trk (l : Link) : (s.receiverToHunt l).trk = s.trk := rfl
@[simp] theorem receiverToHunt_saq (l : Link) : (s.receiverToHunt l).saq = s.saq := rfl
@[simp] theorem receiverToHunt_flx (l : Link) : (s.receiverToHunt l).flx = s.flx := rfl
@[simp] theorem receiverToHunt_znc (l : Link) : (s.receiverToHunt l).znc = s.znc := rfl
@[simp] theorem receiverToHunt_pot (l : Link) : (s.receiverToHunt l).pot = s.pot := rfl
@[simp] theorem receiverToHunt_exm (l : Link) : (s.receiverToHunt l).exm = s.exm := rfl
@[simp] theorem receiverToHunt_aim (l : Link) : (s.receiverToHunt l).aim = s.aim := rfl
@[simp] theorem receiverToHunt_lmc (l : Link) : (s.receiverToHunt l).lmc = s.lmc := rfl
@[simp] theorem receiverToHunt_links (l : Link) :
    (s.receiverToHunt l).links = s.links.set l { s.link l with receiver := .reset } := rfl
@[simp] theorem receiverToHunt_rtr (l : Link) : (s.receiverToHunt l).rtr = s.rtr := rfl
@[simp] theorem receiverToHunt_clock (l : Link) : (s.receiverToHunt l).clock = s.clock := rfl
@[simp] theorem receiverToHunt_resetPin (l : Link) : (s.receiverToHunt l).resetPin = s.resetPin := rfl
@[simp] theorem receiverToHunt_pending (l : Link) : (s.receiverToHunt l).pending = s.pending := rfl
@[simp] theorem receiverToHunt_posted (l : Link) : (s.receiverToHunt l).posted = s.posted := rfl
@[simp] theorem receiverToHunt_freeCount (l : Link) : (s.receiverToHunt l).freeCount = s.freeCount := rfl

/-! ### reply -/

@[simp] theorem reply_trk (l : Link) (kind : Byte) (st : Status) (body : List Byte) : (s.reply l kind st body).trk = s.trk := rfl
@[simp] theorem reply_saq (l : Link) (kind : Byte) (st : Status) (body : List Byte) : (s.reply l kind st body).saq = s.saq := rfl
@[simp] theorem reply_flx (l : Link) (kind : Byte) (st : Status) (body : List Byte) : (s.reply l kind st body).flx = s.flx := rfl
@[simp] theorem reply_znc (l : Link) (kind : Byte) (st : Status) (body : List Byte) : (s.reply l kind st body).znc = s.znc := rfl
@[simp] theorem reply_pot (l : Link) (kind : Byte) (st : Status) (body : List Byte) : (s.reply l kind st body).pot = s.pot := rfl
@[simp] theorem reply_exm (l : Link) (kind : Byte) (st : Status) (body : List Byte) : (s.reply l kind st body).exm = s.exm := rfl
@[simp] theorem reply_aim (l : Link) (kind : Byte) (st : Status) (body : List Byte) : (s.reply l kind st body).aim = s.aim := rfl
@[simp] theorem reply_lmc (l : Link) (kind : Byte) (st : Status) (body : List Byte) : (s.reply l kind st body).lmc = s.lmc := rfl
@[simp] theorem reply_links (l : Link) (kind : Byte) (st : Status) (body : List Byte) :
    (s.reply l kind st body).links = s.links.set l { s.link l with sending := some ⟨kind, st, body⟩ } := rfl
@[simp] theorem reply_rtr (l : Link) (kind : Byte) (st : Status) (body : List Byte) : (s.reply l kind st body).rtr = s.rtr := rfl
@[simp] theorem reply_clock (l : Link) (kind : Byte) (st : Status) (body : List Byte) : (s.reply l kind st body).clock = s.clock := rfl
@[simp] theorem reply_resetPin (l : Link) (kind : Byte) (st : Status) (body : List Byte) : (s.reply l kind st body).resetPin = s.resetPin := rfl
@[simp] theorem reply_pending (l : Link) (kind : Byte) (st : Status) (body : List Byte) : (s.reply l kind st body).pending = s.pending := rfl
@[simp] theorem reply_posted (l : Link) (kind : Byte) (st : Status) (body : List Byte) : (s.reply l kind st body).posted = s.posted := rfl
@[simp] theorem reply_freeCount (l : Link) (kind : Byte) (st : Status) (body : List Byte) : (s.reply l kind st body).freeCount = s.freeCount := rfl

/-! ### setCell -/

@[simp] theorem setCell_trk (v : Valve) (o : CellOutcome) : (s.setCell v o).trk = s.trk := rfl
@[simp] theorem setCell_saq (v : Valve) (o : CellOutcome) : (s.setCell v o).saq = s.saq := rfl
@[simp] theorem setCell_flx (v : Valve) (o : CellOutcome) :
    (s.setCell v o).flx = { s.flx with valve := v, outcome := o } := rfl
@[simp] theorem setCell_znc (v : Valve) (o : CellOutcome) : (s.setCell v o).znc = s.znc := rfl
@[simp] theorem setCell_pot (v : Valve) (o : CellOutcome) : (s.setCell v o).pot = s.pot := rfl
@[simp] theorem setCell_exm (v : Valve) (o : CellOutcome) : (s.setCell v o).exm = s.exm := rfl
@[simp] theorem setCell_aim (v : Valve) (o : CellOutcome) : (s.setCell v o).aim = s.aim := rfl
@[simp] theorem setCell_lmc (v : Valve) (o : CellOutcome) : (s.setCell v o).lmc = s.lmc := rfl
@[simp] theorem setCell_links (v : Valve) (o : CellOutcome) : (s.setCell v o).links = s.links := rfl
@[simp] theorem setCell_rtr (v : Valve) (o : CellOutcome) : (s.setCell v o).rtr = s.rtr := rfl
@[simp] theorem setCell_clock (v : Valve) (o : CellOutcome) : (s.setCell v o).clock = s.clock := rfl
@[simp] theorem setCell_resetPin (v : Valve) (o : CellOutcome) : (s.setCell v o).resetPin = s.resetPin := rfl
@[simp] theorem setCell_pending (v : Valve) (o : CellOutcome) : (s.setCell v o).pending = s.pending := rfl
@[simp] theorem setCell_posted (v : Valve) (o : CellOutcome) : (s.setCell v o).posted = s.posted := rfl
@[simp] theorem setCell_freeCount (v : Valve) (o : CellOutcome) : (s.setCell v o).freeCount = s.freeCount := rfl

/-! ### setBank -/

@[simp] theorem setBank_trk (b : BankId) (x : Bank) : (s.setBank b x).trk = s.trk := rfl
@[simp] theorem setBank_saq (b : BankId) (x : Bank) : (s.setBank b x).saq = s.saq := rfl
@[simp] theorem setBank_flx (b : BankId) (x : Bank) : (s.setBank b x).flx = s.flx := rfl
@[simp] theorem setBank_znc (b : BankId) (x : Bank) : (s.setBank b x).znc = s.znc := rfl
@[simp] theorem setBank_pot (b : BankId) (x : Bank) : (s.setBank b x).pot = s.pot := rfl
@[simp] theorem setBank_exm (b : BankId) (x : Bank) : (s.setBank b x).exm = s.exm := rfl
@[simp] theorem setBank_aim (b : BankId) (x : Bank) : (s.setBank b x).aim = s.aim := rfl
@[simp] theorem setBank_lmc (b : BankId) (x : Bank) :
    (s.setBank b x).lmc = { s.lmc with banks := s.lmc.banks.setBank b x } := rfl
@[simp] theorem setBank_links (b : BankId) (x : Bank) : (s.setBank b x).links = s.links := rfl
@[simp] theorem setBank_rtr (b : BankId) (x : Bank) : (s.setBank b x).rtr = s.rtr := rfl
@[simp] theorem setBank_clock (b : BankId) (x : Bank) : (s.setBank b x).clock = s.clock := rfl
@[simp] theorem setBank_resetPin (b : BankId) (x : Bank) : (s.setBank b x).resetPin = s.resetPin := rfl
@[simp] theorem setBank_pending (b : BankId) (x : Bank) : (s.setBank b x).pending = s.pending := rfl
@[simp] theorem setBank_posted (b : BankId) (x : Bank) : (s.setBank b x).posted = s.posted := rfl
@[simp] theorem setBank_freeCount (b : BankId) (x : Bank) : (s.setBank b x).freeCount = s.freeCount := rfl

/-! ### startFilterTimer -/

@[simp] theorem startFilterTimer_trk (ms : Nat) : (s.startFilterTimer ms).trk = s.trk := rfl
@[simp] theorem startFilterTimer_saq (ms : Nat) : (s.startFilterTimer ms).saq = s.saq := rfl
@[simp] theorem startFilterTimer_flx (ms : Nat) : (s.startFilterTimer ms).flx = s.flx := rfl
@[simp] theorem startFilterTimer_znc (ms : Nat) : (s.startFilterTimer ms).znc = s.znc := rfl
@[simp] theorem startFilterTimer_pot (ms : Nat) : (s.startFilterTimer ms).pot = s.pot := rfl
@[simp] theorem startFilterTimer_exm (ms : Nat) :
    (s.startFilterTimer ms).exm = { s.exm with filterTimer := .start ms, filterInterval := ms } := rfl
@[simp] theorem startFilterTimer_aim (ms : Nat) : (s.startFilterTimer ms).aim = s.aim := rfl
@[simp] theorem startFilterTimer_lmc (ms : Nat) : (s.startFilterTimer ms).lmc = s.lmc := rfl
@[simp] theorem startFilterTimer_links (ms : Nat) : (s.startFilterTimer ms).links = s.links := rfl
@[simp] theorem startFilterTimer_rtr (ms : Nat) : (s.startFilterTimer ms).rtr = s.rtr := rfl
@[simp] theorem startFilterTimer_clock (ms : Nat) : (s.startFilterTimer ms).clock = s.clock := rfl
@[simp] theorem startFilterTimer_resetPin (ms : Nat) : (s.startFilterTimer ms).resetPin = s.resetPin := rfl
@[simp] theorem startFilterTimer_pending (ms : Nat) : (s.startFilterTimer ms).pending = s.pending := rfl
@[simp] theorem startFilterTimer_posted (ms : Nat) : (s.startFilterTimer ms).posted = s.posted := rfl
@[simp] theorem startFilterTimer_freeCount (ms : Nat) : (s.startFilterTimer ms).freeCount = s.freeCount := rfl

/-! ### Containers -/

@[simp] theorem PerZone.get_set_self {α : Type} (t : PerZone α) (z : Zone) (x : α) : (t.set z x).get z = x := by
  cases z <;> rfl

theorem PerZone.get_set_ne {α : Type} (t : PerZone α) {z w : Zone} (x : α) (h : w ≠ z) : (t.set z x).get w = t.get w := by
  cases z <;> cases w <;> first | rfl | exact absurd rfl h

@[simp] theorem PerZone.get_map {α β : Type} (t : PerZone α) (f : α → β) (z : Zone) : (t.map f).get z = f (t.get z) := by
  cases z <;> rfl

@[simp] theorem PerLink.get_set_self {α : Type} (t : PerLink α) (l : Link) (x : α) : (t.set l x).get l = x := by
  cases l <;> rfl

theorem PerLink.get_set_ne {α : Type} (t : PerLink α) {l k : Link} (x : α) (h : k ≠ l) : (t.set l x).get k = t.get k := by
  cases l <;> cases k <;> first | rfl | exact absurd rfl h

@[simp] theorem PerLink.set_set {α : Type} (t : PerLink α) (l : Link) (x y : α) : (t.set l x).set l y = t.set l y := by
  cases l <;> rfl

@[simp] theorem PerLink.get_map {α β : Type} (t : PerLink α) (f : α → β) (l : Link) : (t.map f).get l = f (t.get l) := by
  cases l <;> rfl

@[simp] theorem Pair.fan_setFan_self {α : Type} (t : Pair α) (f : Fan) (x : α) : (t.setFan f x).fan f = x := by
  cases f <;> rfl

@[simp] theorem Pair.fan_setFan_other {α : Type} (t : Pair α) (f : Fan) (x : α) :
    (t.setFan f x).fan f.other = t.fan f.other := by
  cases f <;> rfl

@[simp] theorem Pair.fan_setFan_of_other {α : Type} (t : Pair α) (f : Fan) (x : α) :
    (t.setFan f.other x).fan f = t.fan f := by
  cases f <;> rfl

@[simp] theorem Fan.other_other (f : Fan) : f.other.other = f := by cases f <;> rfl

theorem Fan.eq_or_other (f g : Fan) : g = f ∨ g = f.other := by cases f <;> cases g <;> simp [Fan.other]

@[simp] theorem Pair.bank_setBank_self {α : Type} (t : Pair α) (b : BankId) (x : α) : (t.setBank b x).bank b = x := by
  cases b <;> rfl

@[simp] theorem Pair.bank_setBank_other {α : Type} (t : Pair α) (b : BankId) (x : α) :
    (t.setBank b.other x).bank b = t.bank b := by
  cases b <;> rfl

@[simp] theorem Pair.bank_other_setBank {α : Type} (t : Pair α) (b : BankId) (x : α) :
    (t.setBank b x).bank b.other = t.bank b.other := by
  cases b <;> rfl

@[simp] theorem BankId.other_other (b : BankId) : b.other.other = b := by cases b <;> rfl

@[simp] theorem Pair.tank_setTank_self {α : Type} (t : Pair α) (k : Tank) (x : α) : (t.setTank k x).tank k = x := by
  cases k <;> rfl

@[simp] theorem Pair.tank_other_setTank {α : Type} (t : Pair α) (k : Tank) (x : α) :
    (t.setTank k x).tank k.other = t.tank k.other := by
  cases k <;> rfl

@[simp] theorem Pair.tank_setTank_other {α : Type} (t : Pair α) (k : Tank) (x : α) :
    (t.setTank k.other x).tank k = t.tank k := by
  cases k <;> rfl

@[simp] theorem Tank.other_other (k : Tank) : k.other.other = k := by cases k <;> rfl

/-! ### Links -/

@[simp] theorem setLink_link (l : Link) (k : LinkState) : (s.setLink l k).link l = k := by simp [State.link]

theorem setLink_link_ne {l k : Link} (x : LinkState) (h : k ≠ l) : (s.setLink l x).link k = s.link k := by
  simp [State.link, PerLink.get_set_ne _ _ h]

@[simp] theorem setLink_setLink (l : Link) (x y : LinkState) : (s.setLink l x).setLink l y = s.setLink l y := by
  simp [State.setLink, State.setLinks]

theorem setLink_self (l : Link) : s.setLink l (s.link l) = s := by cases l <;> rfl

@[simp] theorem receiverToHunt_link (l : Link) : (s.receiverToHunt l).link l = { s.link l with receiver := .reset } := by
  simp [State.link]

theorem receiverToHunt_link_ne {l k : Link} (h : k ≠ l) : (s.receiverToHunt l).link k = s.link k := by
  simp [State.link, PerLink.get_set_ne _ _ h]

@[simp] theorem post_link (cs : List Instr) (l : Link) : (s.post cs).link l = s.link l := rfl

/-- Posting and changing a link do not disturb each other. -/
@[simp] theorem post_setLink (cs : List Instr) (l : Link) (k : LinkState) :
    (s.post cs).setLink l k = (s.setLink l k).post cs := rfl

@[simp] theorem reply_link (l : Link) (kind : Byte) (st : Status) (body : List Byte) :
    (s.reply l kind st body).link l = { s.link l with sending := some ⟨kind, st, body⟩ } := by
  simp [State.link]

theorem reply_link_ne {l k : Link} (kind : Byte) (st : Status) (body : List Byte) (h : k ≠ l) :
    (s.reply l kind st body).link k = s.link k := by
  simp [State.link, PerLink.get_set_ne _ _ h]

@[simp] theorem event_link (e : Event) (l : Link) : (s.event e).link l = (s.link l).copyEvent ⟨s.clock, e⟩ := by
  simp [State.link]

/-- A copied event touches a link's queue and its gap flag alone. -/
@[simp] theorem copyEvent_sending (k : LinkState) (r : EventRecord) : (k.copyEvent r).sending = k.sending := by
  unfold LinkState.copyEvent; split
  · split <;> rfl
  · rfl

@[simp] theorem copyEvent_owed (k : LinkState) (r : EventRecord) : (k.copyEvent r).owed = k.owed := by
  unfold LinkState.copyEvent; split
  · split <;> rfl
  · rfl

@[simp] theorem copyEvent_receiver (k : LinkState) (r : EventRecord) : (k.copyEvent r).receiver = k.receiver := by
  unfold LinkState.copyEvent; split
  · split <;> rfl
  · rfl

@[simp] theorem copyEvent_mask (k : LinkState) (r : EventRecord) : (k.copyEvent r).mask = k.mask := by
  unfold LinkState.copyEvent; split
  · split <;> rfl
  · rfl

end Sys2Proof.Machine
end

