-- ==== Sys2Proof/Laws/Frames.lean ====
section
/-! SUPPORT. What each shared operation leaves alone: one lemma per operation, by `SameBut`. A proof cites these and reads a field
off the lemma, and unfolds no operation. -/

-- Many short proofs at once would ask for a thread each; one after another they fit the stack limit.
set_option Elab.async false

namespace Sys2Proof.Machine

/-! ### Putting frames together -/

theorem SameBut.refl (ps : List Part) (s : State) : SameBut ps s s := by constructor <;> intros <;> rfl

theorem SameBut.trans {ps : List Part} {s t u : State} (h : SameBut ps s t) (h' : SameBut ps t u) : SameBut ps s u where
  trk p := (h'.trk p).trans (h.trk p)
  saq p := (h'.saq p).trans (h.saq p)
  flx p := (h'.flx p).trans (h.flx p)
  znc p := (h'.znc p).trans (h.znc p)
  pot p := (h'.pot p).trans (h.pot p)
  exm p := (h'.exm p).trans (h.exm p)
  aim p := (h'.aim p).trans (h.aim p)
  lmc p := (h'.lmc p).trans (h.lmc p)
  links p := (h'.links p).trans (h.links p)
  rtr p := (h'.rtr p).trans (h.rtr p)
  posted p := (h'.posted p).trans (h.posted p)
  clock := h'.clock.trans h.clock
  resetPin := h'.resetPin.trans h.resetPin
  pending := h'.pending.trans h.pending
  freeCount := h'.freeCount.trans h.freeCount

/-- A frame that lists more parts says less. -/
theorem SameBut.mono {ps qs : List Part} {s t : State} (h : SameBut ps s t) (sub : ∀ p ∈ ps, p ∈ qs := by decide) :
    SameBut qs s t where
  trk p := h.trk (fun i => p (sub _ i))
  saq p := h.saq (fun i => p (sub _ i))
  flx p := h.flx (fun i => p (sub _ i))
  znc p := h.znc (fun i => p (sub _ i))
  pot p := h.pot (fun i => p (sub _ i))
  exm p := h.exm (fun i => p (sub _ i))
  aim p := h.aim (fun i => p (sub _ i))
  lmc p := h.lmc (fun i => p (sub _ i))
  links p := h.links (fun i => p (sub _ i))
  rtr p := h.rtr (fun i => p (sub _ i))
  posted p := h.posted (fun i => p (sub _ i))
  clock := h.clock
  resetPin := h.resetPin
  pending := h.pending
  freeCount := h.freeCount

/-- One operation after another. -/
theorem SameBut.after {ps qs rs : List Part} {s t u : State} (h : SameBut ps s t) (h' : SameBut qs t u)
    (sub : ∀ p ∈ ps, p ∈ rs := by decide) (sub' : ∀ p ∈ qs, p ∈ rs := by decide) : SameBut rs s u :=
  (h.mono sub).trans (h'.mono sub')

theorem SameBut.ite {ps : List Part} {c : Prop} [Decidable c] {s t u : State} (h : SameBut ps s t) (h' : SameBut ps s u) :
    SameBut ps s (if c then t else u) := by
  split <;> assumption

/-! ### The setters -/

variable (s : State)

theorem setTrk_frame (x : Trk) : SameBut [.trk] s (s.setTrk x) := by constructor <;> simp
theorem setSaq_frame (x : Saq) : SameBut [.saq] s (s.setSaq x) := by constructor <;> simp
theorem setFlx_frame (x : Flx) : SameBut [.flx] s (s.setFlx x) := by constructor <;> simp
theorem setZnc_frame (x : Znc) : SameBut [.znc] s (s.setZnc x) := by constructor <;> simp
theorem setPot_frame (x : Pot) : SameBut [.pot] s (s.setPot x) := by constructor <;> simp
theorem setExm_frame (x : Exm) : SameBut [.exm] s (s.setExm x) := by constructor <;> simp
theorem setAim_frame (x : Aim) : SameBut [.aim] s (s.setAim x) := by constructor <;> simp
theorem setLmc_frame (x : Lmc) : SameBut [.lmc] s (s.setLmc x) := by constructor <;> simp
theorem setLinks_frame (x : PerLink LinkState) : SameBut [.links] s (s.setLinks x) := by constructor <;> simp
theorem setRtr_frame (x : Rtr) : SameBut [.rtr] s (s.setRtr x) := by constructor <;> simp
theorem post_frame (cs : List Instr) : SameBut [.posted] s (s.post cs) := by constructor <;> simp
theorem taken_frame (c : Instr) : SameBut [.posted] s (s.taken c) := by constructor <;> simp
theorem raiseAlarm_frame (i : AlarmId) : SameBut [.posted] s (s.raiseAlarm i) := by constructor <;> simp
theorem endAlarm_frame (i : AlarmId) : SameBut [.posted] s (s.endAlarm i) := by constructor <;> simp
theorem event_frame (e : Event) : SameBut [.links] s (s.event e) := by constructor <;> simp
theorem updateBoard_frame (q : Nat) (f : BoardRecord → BoardRecord) : SameBut [.trk] s (s.updateBoard q f) := by
  constructor <;> simp
theorem setCell_frame (v : Valve) (o : CellOutcome) : SameBut [.flx] s (s.setCell v o) := by constructor <;> simp
theorem setBank_frame (b : BankId) (x : Bank) : SameBut [.lmc] s (s.setBank b x) := by constructor <;> simp
theorem setLink_frame (l : Link) (k : LinkState) : SameBut [.links] s (s.setLink l k) := by constructor <;> simp
theorem receiverToHunt_frame (l : Link) : SameBut [.links] s (s.receiverToHunt l) := by constructor <;> simp
theorem reply_frame (l : Link) (kind : Byte) (st : Status) (body : List Byte) :
    SameBut [.links] s (s.reply l kind st body) := by
  constructor <;> simp

theorem owe_frame (l : Link) (kind : Byte) (st : Status) : SameBut [.links] s (s.owe l kind st) :=
  (setLink_frame s _ _).ite (.refl _ s)

theorem frameAccepted_frame (l : Link) : SameBut [.posted] s (s.frameAccepted l) := (post_frame s _).ite (.refl _ s)

theorem received_frame (l : Link) : SameBut [.links, .posted] s (s.received l) :=
  (receiverToHunt_frame s l).after (frameAccepted_frame _ l)

/-! ### Flux Controller -/

theorem evalTankLow_frame : SameBut [.flx, .posted] s s.evalTankLow := by
  unfold State.evalTankLow
  exact (setFlx_frame s _).after (((SameBut.refl _ _).ite ((raiseAlarm_frame _ _).ite (endAlarm_frame _ _))))

theorem evalSupplyEmpty_frame : SameBut [.flx, .posted] s s.evalSupplyEmpty := by
  unfold State.evalSupplyEmpty
  exact (setFlx_frame s _).after (((SameBut.refl _ _).ite ((raiseAlarm_frame _ _).ite (endAlarm_frame _ _))))

theorem setAmount_frame (k : Tank) (v : Nat) : SameBut [.flx, .rtr, .posted] s (s.setAmount k v) :=
  (((setFlx_frame s _).after (setRtr_frame _ _) : SameBut [.flx, .rtr] _ _).after (evalTankLow_frame _) :
    SameBut [.flx, .rtr, .posted] _ _).after (evalSupplyEmpty_frame _)

theorem setActiveTank_frame (k : Tank) : SameBut [.flx, .rtr, .posted] s (s.setActiveTank k) :=
  (((setFlx_frame s _).after (setRtr_frame _ _) : SameBut [.flx, .rtr] _ _).after (evalTankLow_frame _) :
    SameBut [.flx, .rtr, .posted] _ _).after (evalSupplyEmpty_frame _)

theorem clearFailedDraw_frame : SameBut [.flx, .posted] s s.clearFailedDraw :=
  (setFlx_frame s _).after (evalSupplyEmpty_frame _)

theorem failDraw_frame : SameBut [.flx, .posted] s s.failDraw := (setFlx_frame s _).after (raiseAlarm_frame _ _)

theorem deduct_frame (k : Tank) (d : Nat) : SameBut [.flx, .rtr, .posted] s (s.deduct k d) :=
  (setAmount_frame s _ _).after (clearFailedDraw_frame _)

theorem switchTank_frame : SameBut [.flx, .rtr, .links, .posted] s s.switchTank :=
  ((setAmount_frame s _ _).after (setActiveTank_frame _ _) : SameBut [.flx, .rtr, .posted] _ _).after (event_frame _ _)

theorem draw_frame (d : Nat) : SameBut [.flx, .rtr, .links, .posted] s (s.draw d).1 := by
  unfold State.draw
  dsimp only
  split
  · exact (deduct_frame s _ _).mono
  · split
    · split
      · exact (switchTank_frame s).after (deduct_frame _ _ _)
      · exact (switchTank_frame s).after (failDraw_frame _)
    · exact (failDraw_frame s).mono

theorem treatCell_frame (q : Nat) (a : SprayAction) :
    SameBut [.trk, .flx, .rtr, .links, .posted] s (s.treatCell q a) := by
  unfold State.treatCell
  dsimp only
  split
  · exact (setCell_frame s _ _).mono
  · split
    · exact (updateBoard_frame s _ _).after (setCell_frame _ _ _)
    · split
      · exact (updateBoard_frame s _ _).after (setCell_frame _ _ _)
      · split
        · exact (((draw_frame s _).after (updateBoard_frame _ _ _) : SameBut [.trk, .flx, .rtr, .links, .posted] _ _)).after
            (setCell_frame _ _ _)
        · exact (((draw_frame s _).after (updateBoard_frame _ _ _) : SameBut [.trk, .flx, .rtr, .links, .posted] _ _)).after
            (setCell_frame _ _ _)

theorem applyCell_frame (b : BoardRecord) (n : Nat) :
    SameBut [.trk, .flx, .rtr, .links, .posted] s (s.applyCell b n) := by
  unfold State.applyCell
  dsimp only
  have h := ((setFlx_frame s { s.flx with cell := n, action := (s.lmc.bank b.bank).actionAt n }).after (treatCell_frame _ b.seq
    ((s.lmc.bank b.bank).action ((s.lmc.bank b.bank).actionAt n))) : SameBut [.trk, .flx, .rtr, .links, .posted] _ _)
  split
  · exact h.after (event_frame _ _)
  · exact h

theorem flxNozzleReached_frame (q : Nat) (l : Option Nat) :
    SameBut [.trk, .flx, .rtr, .links, .posted] s (s.nozzleReached q l) := by
  unfold State.nozzleReached
  split
  · exact .refl _ s
  · split
    · exact (updateBoard_frame s _ _).mono
    · exact (((updateBoard_frame s _ _).after (setFlx_frame _ _) : SameBut [.trk, .flx] _ _)).after (applyCell_frame _ _ _)

theorem flxCellBoundary_frame (q n : Nat) : SameBut [.trk, .flx, .rtr, .links, .posted] s (s.cellBoundary q n) := by
  unfold State.cellBoundary
  split
  · split
    · exact .refl _ s
    · exact applyCell_frame s _ _
  · exact .refl _ s

theorem flxNozzleCleared_frame (q : Nat) : SameBut [.trk, .flx] s (s.nozzleCleared q) :=
  SameBut.ite ((updateBoard_frame s _ _).after (setFlx_frame _ _)) (.refl _ s)

theorem cutSpray_frame (o : CellOutcome) : SameBut [.trk, .flx] s (s.cutSpray o) := by
  unfold State.cutSpray
  dsimp only
  split
  · split
    · exact (setCell_frame s _ _).after (updateBoard_frame _ _ _)
    · exact (setCell_frame s _ _).mono
  · exact .refl _ s

theorem stallSpray_frame : SameBut [.flx] s s.stallSpray := setFlx_frame s _

theorem removeSprayed_frame (q : Nat) : SameBut [.trk, .flx] s (s.removeSprayed q) :=
  SameBut.ite ((updateBoard_frame s _ _).after (setFlx_frame _ _)) (.refl _ s)

theorem lowPressure_frame : SameBut [.trk, .flx, .posted] s s.lowPressure := by
  unfold State.lowPressure
  dsimp only
  split
  · exact (setFlx_frame s _).mono
  · have h : SameBut [.trk, .flx, .posted] s (if s.flx.pressureLow = 3 then
        (s.setFlx { s.flx with pressureLow := 4, pressureCond := true }).raiseAlarm Alarm.fluxPressure else s) :=
      SameBut.ite ((setFlx_frame s _).after (raiseAlarm_frame _ _)) (.refl _ s)
    split
    · exact h.after (updateBoard_frame _ _ _)
    · exact h

theorem goodPressure_frame : SameBut [.flx, .posted] s s.goodPressure := by
  unfold State.goodPressure
  dsimp only
  split
  · exact (setFlx_frame s _).after (endAlarm_frame _ _)
  · exact (setFlx_frame s _).mono

theorem pressureSample_frame (v : Nat) (r : ReportedState) : SameBut [.trk, .flx, .posted] s (s.pressureSample v r) :=
  SameBut.ite (SameBut.ite (lowPressure_frame s) (goodPressure_frame s).mono) (.refl _ s)

theorem sprayChange_frame (a : Bool) : SameBut [.trk, .flx] s (s.sprayChange a) := by
  unfold State.sprayChange
  dsimp only
  split
  · exact (setFlx_frame s _).after (cutSpray_frame _ _)
  · exact (setFlx_frame s _).mono

theorem flxMode_frame (m : LineMode) : SameBut [.trk, .flx] s (s.flxMode m) := by
  unfold State.flxMode
  dsimp only
  split
  · exact (setFlx_frame s _).mono
  · exact (setFlx_frame s _).after (cutSpray_frame _ _)

/-! ### Alarms and inhibits -/

theorem noteInhibit_frame (a b : Aim) (n : Inhibit) : SameBut [.links, .posted] s (s.noteInhibit a b n) :=
  SameBut.ite (.refl _ s) ((event_frame s _).after (post_frame _ _))

theorem noteWave_frame (a b : Aim) : SameBut [.links, .posted] s (s.noteWave a b) :=
  SameBut.ite (.refl _ s) ((event_frame s _).after (post_frame _ _))

theorem aimBecomes_frame (a : Aim) : SameBut [.aim, .links, .posted] s (s.aimBecomes a) := by
  unfold State.aimBecomes
  dsimp only
  exact (setAim_frame s _).after (((((noteInhibit_frame _ _ _ _).trans (noteInhibit_frame _ _ _ _)).trans
    (noteWave_frame _ _ _)).trans (noteInhibit_frame _ _ _ _)).trans (noteInhibit_frame _ _ _ _))

theorem setRecord_frame (i : AlarmId) (r : AlarmRecord) (c : RecordCause) :
    SameBut [.aim, .links, .posted] s (s.setRecord i r c) := by
  unfold State.setRecord
  dsimp only
  split
  · exact (setAim_frame s _).mono
  · exact (((event_frame s _).after (aimBecomes_frame _ _) : SameBut [.aim, .links, .posted] _ _)).after (post_frame _ _)

theorem takeRaise_frame (i : AlarmId) : SameBut [.aim, .links, .posted] s (s.takeRaise i) :=
  (setRecord_frame s _ _ _).after (post_frame _ _)

theorem takeEnd_frame (i : AlarmId) : SameBut [.aim, .links, .posted] s (s.takeEnd i) := setRecord_frame s _ _ _

theorem safetyContact_frame (c : SafetyContact) (t : Transition) : SameBut [.aim, .posted] s (s.safetyContact c t) := by
  unfold State.safetyContact
  dsimp only
  split
  · exact (setAim_frame s _).after (raiseAlarm_frame _ _)
  · exact (setAim_frame s _).after (endAlarm_frame _ _)
  · exact (setAim_frame s _).mono

/-! ### Zone Controller -/

theorem setZone_frame (z : Zone) (r : ZoneRec) : SameBut [.znc, .posted] s (s.setZone z r) :=
  (setZnc_frame s _).after (post_frame _ _)

theorem forZones_frame (f : Zone → ZoneRec → ZoneRec) : SameBut [.znc, .posted] s (s.forZones f) :=
  ((setZone_frame s _ _).trans (setZone_frame _ _ _)).trans (setZone_frame _ _ _)

theorem zoneSample_frame (z : Zone) (v : Nat) (r : ReportedState) : SameBut [.znc, .posted] s (s.zoneSample z v r) := by
  unfold State.zoneSample
  dsimp only
  split
  · exact (setZone_frame s _ _).after (post_frame _ _)
  · exact setZone_frame s _ _

theorem evaluateZones_frame (m : LineMode) : SameBut [.znc, .posted] s (s.evaluateZones m) := forZones_frame s _

theorem preheatChange_frame (a : Bool) : SameBut [.znc, .posted] s (s.preheatChange a) :=
  (setZnc_frame s _).after (forZones_frame _ _)

/-! ### Pot Controller -/

theorem feederOn_frame (w : ContactLevel) (f : Bool) : SameBut [.pot, .posted] s (s.feederOn w f) := by
  unfold State.feederOn
  dsimp only
  split
  · exact (setPot_frame s _).after (post_frame _ _)
  · exact (setPot_frame s _).mono

theorem evalFeeder_frame : SameBut [.pot, .posted] s s.evalFeeder := feederOn_frame s _ _

theorem setPump_frame : SameBut [.pot] s s.setPump := setPot_frame s _

theorem interruptBoards_frame : SameBut [.trk] s s.interruptBoards := setTrk_frame s _

theorem postWave_frame : SameBut [.posted] s s.postWave := post_frame s _

theorem enterWave_frame (w : WaveState) : SameBut [.trk, .pot, .posted] s (s.enterWave w) := by
  unfold State.enterWave
  dsimp only
  refine SameBut.after (ps := [.trk, .pot, .posted]) ?_ (postWave_frame _)
  split
  · exact (((setPot_frame s _).trans (setPump_frame _))).after (interruptBoards_frame _)
  · exact ((setPot_frame s _).trans (setPump_frame _)).mono

theorem evalWaveOn_frame (m : LineMode) (e : WaveEffect) : SameBut [.trk, .pot, .posted] s (s.evalWaveOn m e) := by
  unfold State.evalWaveOn
  dsimp only
  split
  · exact (setPot_frame s _).mono
  · exact (setPot_frame s _).after (enterWave_frame _ _)

theorem evalWave_frame : SameBut [.trk, .pot, .posted] s s.evalWave := evalWaveOn_frame s _ _

theorem updateWaveBank_frame : SameBut [.trk, .pot, .posted] s s.updateWaveBank :=
  SameBut.ite ((setPot_frame s _).after (enterWave_frame _ _)) (.refl _ s)

theorem noteOccupancy_frame : SameBut [.pot, .posted] s s.noteOccupancy :=
  SameBut.ite (.refl _ s) ((setPot_frame s _).after (post_frame _ _))

theorem appendSchedule_frame (e : ScheduleEntry) : SameBut [.trk, .pot, .posted] s (s.appendSchedule e) := by
  unfold State.appendSchedule
  dsimp only
  have h : SameBut [.pot, .posted] s (s.setPot { s.pot with schedule := s.pot.schedule ++ [e] }).noteOccupancy :=
    (setPot_frame s _).after (noteOccupancy_frame _)
  split
  · exact (h.after (evalWave_frame _) : SameBut [.trk, .pot, .posted] _ _).after (updateWaveBank_frame _)
  · exact h.mono

theorem leaveWave_frame (q : Nat) : SameBut [.trk, .pot, .posted] s (s.leaveWave q) := by
  unfold State.leaveWave
  dsimp only
  have h : SameBut [.trk, .pot, .posted] s (s.setPot { s.pot with
      schedule := s.pot.schedule.filter (fun e => e.seq != q),
      onWave := s.pot.onWave.filter (fun x => x != q) }).noteOccupancy :=
    (setPot_frame s _).after (noteOccupancy_frame _)
  split
  · split
    · exact h.after (updateWaveBank_frame _)
    · exact (h.after (evalWave_frame _) : SameBut [.trk, .pot, .posted] _ _).after (updateWaveBank_frame _)
  · exact h

theorem setHeat_frame (m : LineMode) (r : PotRec) : SameBut [.trk, .pot, .posted] s (s.setHeat m r) := by
  unfold State.setHeat
  dsimp only
  split
  · exact (setPot_frame s _).mono
  · exact ((((setPot_frame s _).after (post_frame _ _) : SameBut [.pot, .posted] _ _).after (evalFeeder_frame _) :
      SameBut [.pot, .posted] _ _)).after (evalWaveOn_frame _ _ _)

theorem evaluatePot_frame (m : LineMode) : SameBut [.trk, .pot, .posted] s (s.evaluatePot m) := setHeat_frame s _ _

theorem potSample_frame (v : Nat) (r : ReportedState) : SameBut [.trk, .pot, .posted] s (s.potSample v r) := by
  unfold State.potSample
  dsimp only
  split
  · exact (post_frame s _).after (setHeat_frame _ _ _)
  · exact setHeat_frame s _ _

theorem levelValid_frame (v : Nat) : SameBut [.pot, .posted] s (s.levelValid v) :=
  (((setPot_frame s _).after (post_frame _ _) : SameBut [.pot, .posted] _ _)).after (evalFeeder_frame _)

theorem levelUnknown_frame : SameBut [.pot, .posted] s s.levelUnknown := (setPot_frame s _).after (evalFeeder_frame _)

theorem levelSample_frame (v : Nat) (r : ReportedState) : SameBut [.pot, .posted] s (s.levelSample v r) :=
  SameBut.ite (levelValid_frame s _) (levelUnknown_frame s)

theorem qualifyWave_frame (v : Nat) (r : ReportedState) : SameBut [.trk, .pot, .posted] s (s.qualifyWave v r) := by
  unfold State.qualifyWave
  dsimp only
  split
  · split
    · split
      · exact (setPot_frame s _).after (enterWave_frame _ _)
      · exact (setPot_frame s _).mono
    · exact (setPot_frame s _).mono
  · split
    · split
      · exact (setPot_frame s _).after (enterWave_frame _ _)
      · exact (setPot_frame s _).mono
    · exact (setPot_frame s _).mono
  all_goals exact .refl _ s

theorem judgeBoards_frame (v : Nat) (r : ReportedState) : SameBut [.trk] s (s.judgeBoards v r) := setTrk_frame s _

theorem boardEntersWave_frame (q : Nat) : SameBut [.trk, .pot, .posted] s (s.boardEntersWave q) := by
  unfold State.boardEntersWave
  dsimp only
  split
  · split
    · exact (((updateBoard_frame s _ _).after (setPot_frame _ _) : SameBut [.trk, .pot] _ _)).after (noteOccupancy_frame _)
    · exact (setPot_frame s _).after (noteOccupancy_frame _)
  · exact .refl _ s

theorem wireTransition_frame (t : Transition) : SameBut [.pot, .posted] s (s.wireTransition t) := by
  unfold State.wireTransition
  dsimp only
  split
  · exact (((setPot_frame s _).after (raiseAlarm_frame _ _) : SameBut [.pot, .posted] _ _)).after (feederOn_frame _ _ _)
  · exact (((setPot_frame s _).after (endAlarm_frame _ _) : SameBut [.pot, .posted] _ _)).after (feederOn_frame _ _ _)
  · exact feederOn_frame s _ _

theorem settle_frame : SameBut [.pot, .posted] s s.settle := (setPot_frame s _).after (evalFeeder_frame _)

theorem feedSecond_frame : SameBut [.pot, .rtr, .posted] s s.feedSecond := by
  unfold State.feedSecond
  dsimp only
  have h : SameBut [.pot, .rtr, .posted] s ((s.setPot { s.pot with feedAccMs := 0, buckets := addSecond s.pot.buckets }).setRtr
      { s.rtr with feedTotal := satAdd Config.feedTotalMax s.rtr.feedTotal 1 }) :=
    (setPot_frame s _).after (setRtr_frame _ _)
  split
  · exact ((h.after (setPot_frame _ _) : SameBut [.pot, .rtr, .posted] _ _).after (raiseAlarm_frame _ _) :
      SameBut [.pot, .rtr, .posted] _ _).after (evalFeeder_frame _)
  · exact h.after (evalFeeder_frame _)

theorem potMode_frame (m : LineMode) : SameBut [.trk, .pot, .posted] s (s.potMode m) :=
  (evaluatePot_frame s m).trans (evalWaveOn_frame _ _ _)

theorem potBank_frame : SameBut [.trk, .pot, .posted] s s.potBank :=
  (((evaluatePot_frame s _).trans (updateWaveBank_frame _))).after (postWave_frame _)

/-! ### Signals -/

theorem convert_frame (c : Channel) (x : Code) : SameBut [.saq, .posted] s (s.convert c x) :=
  (setSaq_frame s _).after (post_frame _ _)

theorem setContact_frame (c : Contact) (r : ContactRec) (k : TransitionCause) :
    SameBut [.saq, .posted] s (s.setContact c r k) := by
  unfold State.setContact
  dsimp only
  split
  · exact (setSaq_frame s _).mono
  · exact (setSaq_frame s _).after (post_frame _ _)

/-- A frame that each round of a fold keeps, the fold keeps. -/
theorem SameBut.foldl {α : Type} {ps : List Part} (f : State → α → State) (h : ∀ s a, SameBut ps s (f s a)) :
    ∀ (xs : List α) (s : State), SameBut ps s (xs.foldl f s)
  | [], s => .refl _ s
  | x :: xs, s => (h s x).trans (SameBut.foldl f h xs _)

theorem contactPass_frame (i : ContactInputs) : SameBut [.saq, .posted] s (s.contactPass i) :=
  SameBut.foldl _ (fun s _ => setContact_frame s _ _ _) _ s

theorem forceChannel_frame (c : Channel) (v : Option Nat) : SameBut [.saq] s (s.forceChannel c v) := setSaq_frame s _

theorem forceContact_frame (c : Contact) (v : Option ContactLevel) : SameBut [.saq, .posted] s (s.forceContact c v) :=
  setContact_frame s _ _ _

theorem endForces_frame : SameBut [.saq, .posted] s s.endForces :=
  (SameBut.foldl (fun s c => s.forceChannel c none) (fun s _ => (forceChannel_frame s _ _).mono) Channel.all s).trans
    (SameBut.foldl (fun s c => s.forceContact c none) (fun s _ => forceContact_frame s _ _) Contact.all _)

/-! ### Thermal Estimator and Wave Gate -/

theorem thermalSample_frame (x : ThermalSource) (v : Nat) (r : ReportedState) : SameBut [.trk] s (s.thermalSample x v r) :=
  setTrk_frame s _

theorem gateReached_frame (q : Nat) : SameBut [.trk, .pot, .links, .posted] s (s.gateReached q) := by
  unfold State.gateReached
  dsimp only
  split
  · exact .refl _ s
  · split
    · exact .refl _ s
    · exact (((updateBoard_frame s _ _).after (appendSchedule_frame _ _) : SameBut [.trk, .pot, .links, .posted] _ _).after
        (event_frame _ _) : SameBut [.trk, .pot, .links, .posted] _ _).after (post_frame _ _)

/-! ### Track Unit -/

theorem evalReadyOn_frame (m : LineMode) (e : Bool) : SameBut [.trk] s (s.evalReadyOn m e) := setTrk_frame s _

theorem evalReady_frame : SameBut [.trk] s s.evalReady := evalReadyOn_frame s _ _

theorem addMismatch_frame (k : MismatchCause) : SameBut [.trk, .posted] s (s.addMismatch k) :=
  (setTrk_frame s _).after (raiseAlarm_frame _ _)

theorem removeMismatch_frame (k : MismatchCause) : SameBut [.trk, .posted] s (s.removeMismatch k) := by
  unfold State.removeMismatch
  dsimp only
  split
  · split
    · exact (setTrk_frame s _).after (endAlarm_frame _ _)
    · exact (setTrk_frame s _).mono
  · exact .refl _ s

theorem endStall_frame : SameBut [.trk, .posted] s s.endStall :=
  SameBut.ite ((setTrk_frame s _).after (endAlarm_frame _ _)) (.refl _ s)

theorem beginStall_frame : SameBut [.trk, .flx, .posted] s s.beginStall :=
  (((setTrk_frame s _).after (raiseAlarm_frame _ _) : SameBut [.trk, .posted] _ _)).after (stallSpray_frame _)

theorem noteEmptyTable_frame : SameBut [.trk, .posted] s s.noteEmptyTable := by
  unfold State.noteEmptyTable
  dsimp only
  split
  · split
    · exact (endStall_frame s).after (post_frame _ _)
    · exact endStall_frame s
  · exact .refl _ s

theorem leaveTable_frame (q : Nat) (o : ExitOutcome) : SameBut [.trk, .flx, .pot, .links, .posted] s (s.leaveTable q o) := by
  unfold State.leaveTable
  dsimp only
  split
  · exact (removeSprayed_frame s q).mono
  · rename_i b _
    have h : SameBut [.trk, .flx, .pot, .links, .posted] s
        (((s.removeSprayed q).setTrk ((s.removeSprayed q).trk.moveOut b o (s.removeSprayed q).clock)).event
          (.boardExited q o)) :=
      (((removeSprayed_frame s q).after (setTrk_frame _ _) : SameBut [.trk, .flx] _ _)).after (event_frame _ _)
    refine SameBut.after (rs := [.trk, .flx, .pot, .links, .posted]) (ps := [.trk, .flx, .pot, .links, .posted])
      ?_ (noteEmptyTable_frame _)
    split
    · refine SameBut.after (ps := [.trk, .flx, .pot, .links, .posted]) ?_ (post_frame _ _)
      refine SameBut.after (ps := [.trk, .flx, .pot, .links, .posted]) ?_ (leaveWave_frame _ _)
      split
      · exact (h.after (setTrk_frame _ _) : SameBut [.trk, .flx, .pot, .links, .posted] _ _).after (removeMismatch_frame _ _)
      · exact h
    · refine SameBut.after (ps := [.trk, .flx, .pot, .links, .posted]) ?_ (leaveWave_frame _ _)
      split
      · exact (h.after (setTrk_frame _ _) : SameBut [.trk, .flx, .pot, .links, .posted] _ _).after (removeMismatch_frame _ _)
      · exact h

theorem createBoard_frame (p : Position) (r : Bool) : SameBut [.trk, .links] s (s.createBoard p r) :=
  (setTrk_frame s _).after (event_frame _ _)

theorem entryLeading_frame (p : Position) : SameBut [.trk, .links, .posted] s (s.entryLeading p) := by
  unfold State.entryLeading
  dsimp only
  split
  · exact .refl _ s
  · split
    · exact (createBoard_frame s _ _).mono
    · split
      · exact (createBoard_frame s _ _).mono
      · exact (((setTrk_frame s _).after (raiseAlarm_frame _ _) : SameBut [.trk, .posted] _ _)).after (event_frame _ _)

theorem entryCleared_frame (p : Position) : SameBut [.trk] s (s.entryCleared p) := setTrk_frame s _

theorem entryTrailing_frame (p : Position) : SameBut [.trk, .posted] s (s.entryTrailing p) := by
  unfold State.entryTrailing
  split
  · split
    · split
      · exact (updateBoard_frame s _ _).after (entryCleared_frame _ _)
      · exact (removeMismatch_frame s _).after (entryCleared_frame _ _)
    · exact (entryCleared_frame s _).mono
  · exact (endAlarm_frame s _).after (entryCleared_frame _ _)
  · exact (setTrk_frame s _).mono
  · exact .refl _ s

theorem entryOverrun_frame : SameBut [.trk, .posted] s s.entryOverrun := by
  unfold State.entryOverrun
  dsimp only
  split
  · split
    · split
      · split
        · exact (((updateBoard_frame s _ _).after (addMismatch_frame _ _) : SameBut [.trk, .posted] _ _)).after
            (post_frame _ _)
        · exact (updateBoard_frame s _ _).after (addMismatch_frame _ _)
      · exact .refl _ s
    · exact .refl _ s
  · exact .refl _ s

theorem exitUntrackedBoard_frame : SameBut [.trk, .links, .posted] s s.exitUntrackedBoard :=
  (((setTrk_frame s _).after (addMismatch_frame _ _) : SameBut [.trk, .posted] _ _)).after (event_frame _ _)

theorem exitLeading_frame (p : Position) : SameBut [.trk, .links, .posted] s (s.exitLeading p) := by
  unfold State.exitLeading
  split
  · exact .refl _ s
  · split
    · split
      · exact (setTrk_frame s _).after (removeMismatch_frame _ _)
      · exact exitUntrackedBoard_frame s
    · exact exitUntrackedBoard_frame s

theorem exitTrailing_frame : SameBut [.trk, .flx, .pot, .links, .posted] s s.exitTrailing := by
  unfold State.exitTrailing
  dsimp only
  split
  · exact (leaveTable_frame s _ _).after (setTrk_frame _ _)
  · exact (removeMismatch_frame s _).after (setTrk_frame _ _)
  · exact (setTrk_frame s _).mono
  · exact .refl _ s

theorem loseBoards_frame : ∀ (n : Nat) (s : State), SameBut [.trk, .flx, .pot, .links, .posted] s (s.loseBoards n)
  | 0, s => .refl _ s
  | n + 1, s => by
    unfold State.loseBoards
    split
    · split
      · exact ((leaveTable_frame s _ _).after (addMismatch_frame _ _) : SameBut [.trk, .flx, .pot, .links, .posted] _ _).trans
          (loseBoards_frame n _)
      · exact .refl _ s
    · exact .refl _ s

theorem exitHeld_frame : SameBut [.trk, .flx, .pot, .links, .posted] s s.exitHeld := by
  unfold State.exitHeld
  dsimp only
  split
  · split
    · split
      · exact (((leaveTable_frame s _ _).after (setTrk_frame _ _) : SameBut [.trk, .flx, .pot, .links, .posted] _ _)).after
          (addMismatch_frame _ _)
      · exact .refl _ s
    · exact .refl _ s
  · exact .refl _ s

theorem exitOverrun_frame : SameBut [.trk, .flx, .pot, .links, .posted] s s.exitOverrun :=
  (loseBoards_frame _ s).trans (exitHeld_frame _)

theorem entryEyeSample_frame (l : EyeLevel) : SameBut [.trk, .links, .posted] s (s.entryEyeSample l) := by
  unfold State.entryEyeSample
  dsimp only
  split
  · exact (setTrk_frame s _).mono
  · exact (setTrk_frame s _).after (setTrk_frame _ _)
  · exact (setTrk_frame s _).after (entryLeading_frame _ _)
  · exact (setTrk_frame s _).after (entryTrailing_frame _ _)

theorem exitEyeSample_frame (l : EyeLevel) : SameBut [.trk, .flx, .pot, .links, .posted] s (s.exitEyeSample l) := by
  unfold State.exitEyeSample
  dsimp only
  split
  · exact (setTrk_frame s _).mono
  · exact (setTrk_frame s _).after (setTrk_frame _ _)
  · exact (setTrk_frame s _).after (exitLeading_frame _ _)
  · exact (setTrk_frame s _).after (exitTrailing_frame _)

theorem postPositions_frame (b : List BoardRecord) : SameBut [.posted] s (s.postPositions b) := post_frame s _

theorem trackCount_frame (entry exit : EyeLevel) :
    SameBut [.trk, .flx, .pot, .links, .posted] s (s.trackCount entry exit) := by
  unfold State.trackCount
  dsimp only
  have h : SameBut [.trk, .posted] s (s.setTrk s.trk.advance).endStall := (setTrk_frame s _).after (endStall_frame _)
  exact ((((((h.after (entryEyeSample_frame _ _) : SameBut [.trk, .flx, .pot, .links, .posted] _ _).after
    (exitEyeSample_frame _ _) : SameBut [.trk, .flx, .pot, .links, .posted] _ _).after (postPositions_frame _ _) :
      SameBut [.trk, .flx, .pot, .links, .posted] _ _).after (exitOverrun_frame _) :
        SameBut [.trk, .flx, .pot, .links, .posted] _ _).after (entryOverrun_frame _) :
          SameBut [.trk, .flx, .pot, .links, .posted] _ _)).after (evalReady_frame _)

theorem trkMode_frame (m : LineMode) : SameBut [.trk, .posted] s (s.trkMode m) := by
  unfold State.trkMode
  dsimp only
  split
  · exact (setTrk_frame s _).after (evalReadyOn_frame _ _ _)
  · exact (((setTrk_frame s _).after (endStall_frame _) : SameBut [.trk, .posted] _ _)).after (evalReadyOn_frame _ _ _)

theorem clearBoards_frame : ∀ (n : Nat) (s : State), SameBut [.trk, .flx, .pot, .links, .posted] s (s.clearBoards n)
  | 0, s => .refl _ s
  | n + 1, s => by
    unfold State.clearBoards
    split
    · exact .refl _ s
    · exact (leaveTable_frame s _ _).trans (clearBoards_frame n _)

/-! ### Extraction Monitor -/

theorem driveFan_frame (f : Fan) (on : Bool) : SameBut [.exm] s (s.driveFan f on) :=
  SameBut.ite (.refl _ s) (setExm_frame s _)

theorem changeover_frame : SameBut [.exm, .posted] s s.changeover := by
  unfold State.changeover
  dsimp only
  exact ((((driveFan_frame s _ _).trans (driveFan_frame _ _ _)).trans (setExm_frame _ _))).after (raiseAlarm_frame _ _)

theorem ductReturn_frame : SameBut [.exm, .links, .posted] s s.ductReturn := by
  unfold State.ductReturn
  dsimp only
  split
  · exact ((((setExm_frame s _).after (endAlarm_frame _ _) : SameBut [.exm, .posted] _ _).after (endAlarm_frame _ _) :
      SameBut [.exm, .posted] _ _)).after (event_frame _ _)
  · exact ((((setExm_frame s _).after (endAlarm_frame _ _) : SameBut [.exm, .posted] _ _))).after (event_frame _ _)

theorem suctionSample_frame (v : Nat) (r : ReportedState) : SameBut [.exm, .links, .posted] s (s.suctionSample v r) := by
  unfold State.suctionSample State.suctionNormal State.suctionRecovery
  split
  · split
    · split
      · exact (changeover_frame s).mono
      · exact (setExm_frame s _).mono
    · exact (setExm_frame s _).mono
  all_goals
    split
    · split
      · exact ductReturn_frame s
      · exact (setExm_frame s _).mono
    · exact (setExm_frame s _).mono

theorem filterCheck_frame : SameBut [.exm, .posted] s s.filterCheck :=
  SameBut.ite ((setExm_frame s _).after (post_frame _ _)) (.refl _ s)

theorem startFilterTimer_frame (ms : Nat) : SameBut [.exm] s (s.startFilterTimer ms) := setExm_frame s _

theorem exmMode_frame (m : LineMode) : SameBut [.exm] s (s.exmMode m) :=
  SameBut.ite (.refl _ s) (startFilterTimer_frame s _)

theorem fanTransition_frame (f : Fan) (t : Transition) : SameBut [.exm, .posted] s (s.fanTransition f t) := by
  unfold State.fanTransition
  dsimp only
  split
  · split
    · exact (setExm_frame s _).after (endAlarm_frame _ _)
    · exact (setExm_frame s _).mono
  all_goals exact SameBut.ite (setExm_frame s _).mono (.refl _ s)

theorem fanFault_frame (f : Fan) : SameBut [.exm, .posted] s (s.fanFault f) := by
  unfold State.fanFault
  dsimp only
  split
  · exact (((setExm_frame s _).after (raiseAlarm_frame _ _) : SameBut [.exm, .posted] _ _)).trans (changeover_frame _)
  · exact (setExm_frame s _).after (raiseAlarm_frame _ _)

theorem loseDuct_frame : SameBut [.exm, .posted] s s.loseDuct := by
  unfold State.loseDuct
  dsimp only
  exact ((((driveFan_frame s _ _).trans (driveFan_frame _ _ _)).trans (setExm_frame _ _))).after (raiseAlarm_frame _ _)

/-! ### Line Mode Controller -/

theorem changeMode_frame (m : LineMode) (ph : ChangeoverPhase) (c : ModeCause) :
    SameBut [.saq, .lmc, .links, .posted] s (s.changeMode m ph c) := by
  unfold State.changeMode
  dsimp only
  have h : SameBut [.saq, .posted] s (if s.lmc.mode = .maintenance then s.endForces else s) :=
    (endForces_frame s).ite (.refl _ s)
  exact ((h.after (setLmc_frame _ _) : SameBut [.saq, .lmc, .links, .posted] _ _).after (event_frame _ _) :
    SameBut [.saq, .lmc, .links, .posted] _ _).after (post_frame _ _)

/-- Only leaving MAINTENANCE ends the forces, so from any other mode SAQ is left alone too. -/
theorem changeMode_frame_of_ne (m : LineMode) (ph : ChangeoverPhase) (c : ModeCause) (h : s.lmc.mode ≠ .maintenance) :
    SameBut [.lmc, .links, .posted] s (s.changeMode m ph c) := by
  unfold State.changeMode
  simp only [h, if_false]
  exact (((setLmc_frame s _).after (event_frame _ _) : SameBut [.lmc, .links] _ _)).after (post_frame _ _)

@[simp] theorem changeMode_mode (m : LineMode) (ph : ChangeoverPhase) (c : ModeCause) :
    (s.changeMode m ph c).lmc.mode = m := rfl

theorem testReadiness_frame : SameBut [.lmc, .links, .posted] s s.testReadiness := by
  unfold State.testReadiness
  split
  · rename_i h
    exact (changeMode_frame_of_ne s _ _ _ (by simp [h])).ite (.refl _ s)
  · rename_i h _
    exact (changeMode_frame_of_ne s _ _ _ (by simp [h])).ite (.refl _ s)
  · exact .refl _ s

theorem enterWarmup_frame (c : ModeCause) (h : s.lmc.mode ≠ .maintenance) :
    SameBut [.lmc, .links, .posted] s (s.enterWarmup c) :=
  (changeMode_frame_of_ne s _ _ _ h).trans (testReadiness_frame _)

theorem swapBanks_frame (d : SwapDetail) : SameBut [.lmc, .links, .posted] s (s.swapBanks d) :=
  (((setLmc_frame s _).after (event_frame _ _) : SameBut [.lmc, .links] _ _)).after (post_frame _ _)

theorem enterRetarget_frame : SameBut [.lmc, .links, .posted] s s.enterRetarget :=
  (((setLmc_frame s _).after (event_frame _ _) : SameBut [.lmc, .links] _ _)).after (swapBanks_frame _ _)

theorem bankActed_frame (c : Instr) (n : Nat) : SameBut [.lmc] s (s.bankActed c n) := setLmc_frame s _

theorem bankTaken_frame (c : Instr) (n : Nat) : SameBut [.lmc, .links, .posted] s (s.bankTaken c n) :=
  SameBut.ite ((bankActed_frame s c n).after (testReadiness_frame _)) (.refl _ s)

theorem startChangeover_frame (h : s.lmc.mode ≠ .maintenance) : SameBut [.lmc, .links, .posted] s s.startChangeover := by
  unfold State.startChangeover
  dsimp only
  split
  · exact (changeMode_frame_of_ne s _ _ _ h).trans (enterRetarget_frame _)
  · exact changeMode_frame_of_ne s _ _ _ h

theorem takeMode_frame (b : ModeBlock) (m : LineMode) :
    SameBut [.trk, .flx, .znc, .pot, .exm, .posted] s (s.takeMode b m) := by
  cases b
  · exact (evaluateZones_frame s m).mono
  · exact (potMode_frame s m).mono
  · exact (flxMode_frame s m).mono
  · exact (trkMode_frame s m).mono
  · exact (exmMode_frame s m).mono

theorem modeTaken_frame (b : BankBlock) (n : Nat) : SameBut [.lmc] s (s.modeTaken b n) :=
  SameBut.ite (setLmc_frame s _) (.refl _ s)

/-- A block's taking of a line mode writes its own part; ZNC's and POT's may add to what LMC's test awaits. -/
theorem takeModeAs_frame (b : ModeBlock) (m : LineMode) :
    SameBut [.trk, .flx, .znc, .pot, .exm, .lmc, .posted] s (s.takeModeAs b m) := by
  cases b
  · exact (takeMode_frame s .znc m).after (modeTaken_frame _ _ _)
  · exact (takeMode_frame s .pot m).after (modeTaken_frame _ _ _)
  · exact (takeMode_frame s .flx m).mono
  · exact (takeMode_frame s .trk m).mono
  · exact (takeMode_frame s .exm m).mono

theorem takeBank_frame (b : BankBlock) : SameBut [.trk, .flx, .znc, .pot, .posted] s (s.takeBank b) := by
  cases b
  · exact (evaluateZones_frame s _).mono
  · exact (potBank_frame s).mono
  · exact (evalSupplyEmpty_frame s).mono
  · exact (evalReady_frame s).mono

theorem setbackOr_frame (c : ModeCause) (h : s.lmc.mode ≠ .maintenance) :
    SameBut [.lmc, .links, .posted] s (s.setbackOr c) :=
  SameBut.ite (setLmc_frame s _).mono (changeMode_frame_of_ne s _ _ _ h)

theorem demandSafe_frame (c : ModeCause) : SameBut [.lmc, .links, .posted] s (s.demandSafe c) := by
  unfold State.demandSafe
  split
  · exact .refl _ s
  · exact (setLmc_frame s _).mono
  all_goals
    rename_i h
    exact changeMode_frame_of_ne s _ _ _ (by simp [h])

theorem idleExpired_frame (h : s.lmc.mode ≠ .maintenance) : SameBut [.lmc, .links, .posted] s s.idleExpired :=
  SameBut.ite (setLmc_frame s _).mono (SameBut.ite (setLmc_frame s _).mono (changeMode_frame_of_ne s _ _ _ h))

theorem superviseFrame_frame : SameBut [.lmc, .posted] s s.superviseFrame := by
  unfold State.superviseFrame
  dsimp only
  split
  · exact (setLmc_frame s _).after (endAlarm_frame _ _)
  · exact (setLmc_frame s _).mono

theorem superviseExpiry_frame : SameBut [.lmc, .posted] s s.superviseExpiry :=
  (setLmc_frame s _).after (raiseAlarm_frame _ _)

/-! ### Configuration and links -/

theorem storeConfig_frame (i : ConfigItem) (v : Int) :
    SameBut [.trk, .saq, .flx, .znc, .pot, .exm, .lmc, .posted] s (s.storeConfig i v) := by
  cases i
  case idRequired => exact (setTrk_frame s _).after (evalReady_frame _)
  case tankLow => exact (setFlx_frame s _).after (evalTankLow_frame _)
  case potHold => exact (setPot_frame s _).after (evaluatePot_frame _ _)
  case holdSetpoint => exact (setPot_frame s _).after (evaluatePot_frame _ _)
  case geometry => exact (setTrk_frame s _).mono
  case channel => exact (setSaq_frame s _).mono
  case fluxPressureMin => exact (setFlx_frame s _).mono
  case zoneKp | zoneKi | zoneMargin => exact (setZnc_frame s _).mono
  case ductTrip | ductHyst | filterWarn | filterBlock | filterHyst => exact (setExm_frame s _).mono
  case idleTimeout | wake => exact (setLmc_frame s _).mono
  all_goals exact (setPot_frame s _).mono

theorem frameBad_frame (l : Link) (k : Option Byte) : SameBut [.links] s (s.frameBad l k) :=
  SameBut.ite (owe_frame s _ _ _) (reply_frame s _ _ _ _)

end Sys2Proof.Machine
end

