-- ==== Sys2Proof/Laws/Effects.lean ====
section
/-! SUPPORT. What each shared operation does to the part it writes: one lemma per part, which a proof cites in place of unfolding the
operation. -/

-- Many short proofs at once would ask for a thread each; one after another they fit the stack limit.
set_option Elab.async false

namespace Sys2Proof.Machine

variable (s : State)

/-! ### Posting -/

@[simp] theorem post_nil : s.post [] = s := by simp [State.post]
@[simp] theorem post_post (a b : List Instr) : (s.post a).post b = s.post (a ++ b) := by simp [State.post]

/-! ### Flux -/

theorem evalTankLow_flx : s.evalTankLow.flx = { s.flx with tankLow := s.flx.tankLowNow } := by
  unfold State.evalTankLow; simp only; split
  · rfl
  · split <;> rfl

theorem evalTankLow_posted : s.evalTankLow.posted = s.posted ++
    (if s.flx.tankLowNow = s.flx.tankLow then []
      else if s.flx.tankLowNow = true then [.alarmRaise Alarm.fluxTankLow] else [.alarmEnd Alarm.fluxTankLow]) := by
  unfold State.evalTankLow; simp only; split
  · simp
  · split <;> simp [State.raiseAlarm, State.endAlarm]

theorem evalSupplyEmpty_flx : s.evalSupplyEmpty.flx =
    { s.flx with supplyEmpty := s.flx.supplyEmptyNow s.lmc.activeBank.supplyThreshold } := by
  unfold State.evalSupplyEmpty; simp only; split
  · rfl
  · split <;> rfl

theorem evalSupplyEmpty_posted : s.evalSupplyEmpty.posted = s.posted ++
    (if s.flx.supplyEmptyNow s.lmc.activeBank.supplyThreshold = s.flx.supplyEmpty then []
      else if s.flx.supplyEmptyNow s.lmc.activeBank.supplyThreshold = true then [.alarmRaise Alarm.fluxSupplyEmpty]
      else [.alarmEnd Alarm.fluxSupplyEmpty]) := by
  unfold State.evalSupplyEmpty; simp only; split
  · simp
  · split <;> simp [State.raiseAlarm, State.endAlarm]

theorem setAmount_flx (k : Tank) (v : Nat) : ∀ f, f = { s.flx with amounts := s.flx.amounts.setTank k v } →
    (s.setAmount k v).flx =
      { f with tankLow := f.tankLowNow, supplyEmpty := f.supplyEmptyNow s.lmc.activeBank.supplyThreshold } := by
  intro f h
  simp only [State.setAmount, evalSupplyEmpty_flx, evalTankLow_flx, (evalTankLow_frame _).lmc (by decide), setRtr_flx,
    setFlx_flx, setRtr_lmc, setFlx_lmc, h]
  rfl

theorem setAmount_rtr (k : Tank) (v : Nat) :
    (s.setAmount k v).rtr = { s.rtr with amounts := s.rtr.amounts.setTank k v } := by
  simp only [State.setAmount, (evalSupplyEmpty_frame _).rtr (by decide), (evalTankLow_frame _).rtr (by decide), setRtr_rtr]

theorem setActiveTank_flx (k : Tank) : ∀ f, f = { s.flx with activeTank := k } →
    (s.setActiveTank k).flx =
      { f with tankLow := f.tankLowNow, supplyEmpty := f.supplyEmptyNow s.lmc.activeBank.supplyThreshold } := by
  intro f h
  simp only [State.setActiveTank, evalSupplyEmpty_flx, evalTankLow_flx, (evalTankLow_frame _).lmc (by decide), setRtr_flx,
    setFlx_flx, setRtr_lmc, setFlx_lmc, h]
  rfl

theorem setActiveTank_rtr (k : Tank) : (s.setActiveTank k).rtr = { s.rtr with activeTank := k } := by
  simp only [State.setActiveTank, (evalSupplyEmpty_frame _).rtr (by decide), (evalTankLow_frame _).rtr (by decide), setRtr_rtr]

theorem clearFailedDraw_flx : ∀ f, f = { s.flx with failedDraw := false } →
    s.clearFailedDraw.flx = { f with supplyEmpty := f.supplyEmptyNow s.lmc.activeBank.supplyThreshold } := by
  intro f h
  simp only [State.clearFailedDraw, evalSupplyEmpty_flx, setFlx_flx, setFlx_lmc, h]

theorem clearFailedDraw_rtr : s.clearFailedDraw.rtr = s.rtr := (clearFailedDraw_frame s).rtr (by decide)

theorem deduct_flx (k : Tank) (d : Nat) : ∀ f,
    f = { s.flx with amounts := s.flx.amounts.setTank k (s.flx.amounts.tank k - d), failedDraw := false } →
    (s.deduct k d).flx =
      { f with tankLow := f.tankLowNow, supplyEmpty := f.supplyEmptyNow s.lmc.activeBank.supplyThreshold } := by
  intro f h
  simp only [State.deduct, clearFailedDraw_flx _ _ rfl, setAmount_flx _ _ _ _ rfl, (setAmount_frame _ _ _).lmc (by decide), h]
  rfl

theorem deduct_rtr (k : Tank) (d : Nat) :
    (s.deduct k d).rtr = { s.rtr with amounts := s.rtr.amounts.setTank k (s.flx.amounts.tank k - d) } := by
  simp only [State.deduct, clearFailedDraw_rtr, setAmount_rtr]

/-! ### The feeder -/

theorem feederOn_pot (w : ContactLevel) (f : Bool) :
    (s.feederOn w f).pot = { s.pot with feeder := s.pot.feederNext w f } := by
  unfold State.feederOn; simp only; split <;> rfl

theorem feederOn_posted (w : ContactLevel) (f : Bool) : (s.feederOn w f).posted = s.posted ++
    (if s.pot.feederNext w f ≠ s.pot.feeder ∧ (s.pot.feederNext w f = .feeding ∨ s.pot.feeder = .feeding) then
      [.feederArrival (s.pot.feederNext w f)] else []) := by
  unfold State.feederOn; simp only; split <;> simp

theorem evalFeeder_pot : s.evalFeeder.pot =
    { s.pot with
      feeder := s.pot.feederNext (s.saq.contact .wirePresent).reported (s.aim.inhibitActive .feed) } := feederOn_pot s _ _

/-! ### The wave -/

/-- The pot's record at an entry into a wave state. -/
theorem enterWave_pot (w : WaveState) : (s.enterWave w).pot = { s.pot with
    wave := w,
    settleTimer := if s.pot.wave = w then s.pot.settleTimer else .start Config.settleMs,
    riseTimer := if w = .rising then .start Config.riseMs else .stopped,
    riseCount := if w = .rising then 0 else s.pot.riseCount,
    dipCount := if w = .dipping then 0 else s.pot.dipCount,
    pumpSpeed := pumpSpeedFor w (s.lmc.bank s.pot.waveBank),
    pumpRunTimer := pumpRunNext s.pot.pumpRunTimer (pumpSpeedFor w (s.lmc.bank s.pot.waveBank))
      (s.saq.contact .pumpRun).reported } := by
  unfold State.enterWave State.setPump; simp only; split <;> rfl

theorem enterWave_trk (w : WaveState) : (s.enterWave w).trk = { s.trk with table := s.trk.table.map fun b =>
    if w = .off ∧ b.seq ∈ s.pot.onWave then { b with waveResult := b.waveResult.cut } else b } := by
  unfold State.enterWave State.setPump; simp only; split
  · next h => subst h; simp [State.interruptBoards, State.postWave]
  · next h => simp [h, State.postWave]

theorem enterWave_posted (w : WaveState) : (s.enterWave w).posted = s.posted ++
    [.readinessArrival (.wave w (decide (s.pot.waveBank = s.lmc.active)))] := by
  unfold State.enterWave State.setPump; simp only; split <;> simp [State.postWave, State.interruptBoards] <;> congr

/-- A target that moves nothing is only noted. -/
theorem evalWaveOn_stays (m : LineMode) (e : WaveEffect) (t : WaveTarget)
    (h : t = waveTarget m e s.pot.isReady (s.pot.schedule.head?.map (·.decision))) (hw : waveMove s.pot.wave t = s.pot.wave) :
    s.evalWaveOn m e = s.setPot { s.pot with target := t } := by
  subst h; simp [State.evalWaveOn, hw]

/-- A target that moves the wave is noted and the new state is entered. -/
theorem evalWaveOn_moves (m : LineMode) (e : WaveEffect) (t : WaveTarget)
    (h : t = waveTarget m e s.pot.isReady (s.pot.schedule.head?.map (·.decision))) (hw : waveMove s.pot.wave t ≠ s.pot.wave) :
    s.evalWaveOn m e = (s.setPot { s.pot with target := t }).enterWave (waveMove s.pot.wave t) := by
  subst h; simp [State.evalWaveOn, hw]

theorem setHeat_same (m : LineMode) (r : PotRec) (h : (s.pot.heat.state == .ready) = (r.state == .ready)) :
    s.setHeat m r = s.setPot { s.pot with heat := r } := by simp [State.setHeat, h]

/-- The fields of the pot's record that no evaluation of the feeder or the wave writes. -/
structure SamePot (p q : Pot) : Prop where
  heat     : q.heat = p.heat
  items    : q.items = p.items
  schedule : q.schedule = p.schedule
  onWave   : q.onWave = p.onWave
  solder   : q.solderOcc = p.solderOcc

theorem SamePot.refl (p : Pot) : SamePot p p := ⟨rfl, rfl, rfl, rfl, rfl⟩

theorem SamePot.trans {p q r : Pot} (h : SamePot p q) (h' : SamePot q r) : SamePot p r :=
  ⟨h'.heat.trans h.heat, h'.items.trans h.items, h'.schedule.trans h.schedule, h'.onWave.trans h.onWave,
    h'.solder.trans h.solder⟩

theorem enterWave_same (w : WaveState) : SamePot s.pot (s.enterWave w).pot := by
  rw [enterWave_pot]; exact ⟨rfl, rfl, rfl, rfl, rfl⟩

theorem evalWaveOn_same (m : LineMode) (e : WaveEffect) : SamePot s.pot (s.evalWaveOn m e).pot := by
  unfold State.evalWaveOn; simp only; split
  · exact ⟨rfl, rfl, rfl, rfl, rfl⟩
  · refine SamePot.trans ?_ (enterWave_same _ _); exact ⟨rfl, rfl, rfl, rfl, rfl⟩

theorem evalFeeder_same : SamePot s.pot s.evalFeeder.pot := by rw [evalFeeder_pot]; exact ⟨rfl, rfl, rfl, rfl, rfl⟩

theorem updateWaveBank_same : SamePot s.pot s.updateWaveBank.pot := by
  unfold State.updateWaveBank; simp only; split
  · refine SamePot.trans ?_ (enterWave_same _ _); exact ⟨rfl, rfl, rfl, rfl, rfl⟩
  · exact .refl _

@[simp] theorem setHeat_heat (m : LineMode) (r : PotRec) : (s.setHeat m r).pot.heat = r := by
  unfold State.setHeat; simp only; split
  · rfl
  · rw [(evalWaveOn_same _ _ _).heat, (evalFeeder_same _).heat]; rfl

theorem evalWaveOn_wave (m : LineMode) (e : WaveEffect) : ∀ t,
    t = waveTarget m e s.pot.isReady (s.pot.schedule.head?.map (·.decision)) →
    (s.evalWaveOn m e).pot.target = t ∧ (s.evalWaveOn m e).pot.wave = waveMove s.pot.wave t ∧
      (s.evalWaveOn m e).pot.waveBank = s.pot.waveBank ∧ (s.evalWaveOn m e).pot.feeder = s.pot.feeder := by
  intro t h
  by_cases hw : waveMove s.pot.wave t = s.pot.wave
  · rw [evalWaveOn_stays s m e t h hw]; exact ⟨rfl, hw.symm, rfl, rfl⟩
  · rw [evalWaveOn_moves s m e t h hw, enterWave_pot]; exact ⟨rfl, rfl, rfl, rfl⟩

/-- Moving twice to one target is moving once. -/
theorem waveMove_waveMove (w : WaveState) (t : WaveTarget) : waveMove (waveMove w t) t = waveMove w t := by
  cases w <;> cases t <;> rfl

theorem noteOccupancy_pot : s.noteOccupancy.pot = { s.pot with solderOcc := s.pot.solderOnWave } := by
  unfold State.noteOccupancy; simp only; split
  · next h => rw [h]
  · rfl

theorem noteOccupancy_posted : s.noteOccupancy.posted = s.posted ++
    (if s.pot.solderOnWave = s.pot.solderOcc then [] else [.solderOccupancyArrival s.pot.solderOnWave]) := by
  unfold State.noteOccupancy; simp only; split <;> simp

/-- The wave bank, the wave and the target after the comparison of the banks (R111). -/
theorem updateWaveBank_wave :
    s.updateWaveBank.pot.waveBank =
      (if ∀ e ∈ s.pot.schedule, e.bank ≠ s.pot.waveBank then s.lmc.active else s.pot.waveBank) ∧
    s.updateWaveBank.pot.wave =
      (if s.updateWaveBank.pot.waveBank = s.pot.waveBank then s.pot.wave else waveAgain s.pot.wave) ∧
    s.updateWaveBank.pot.target = s.pot.target := by
  unfold State.updateWaveBank
  by_cases ha : s.pot.waveBank = s.lmc.active
  · simp [ha]
  · by_cases hs : ∀ e ∈ s.pot.schedule, e.bank ≠ s.pot.waveBank
    · have hs' : (s.pot.schedule.all fun e => decide (e.bank ≠ s.pot.waveBank)) = true := by simpa using hs
      simp only [ne_eq, ha, not_false_eq_true, true_and, hs', if_true, enterWave_pot, setPot_pot]
      have ha' : ¬s.lmc.active = s.pot.waveBank := fun e => ha e.symm
      simp only [if_pos hs, if_neg ha', and_self]
    · have hs' : ¬(s.pot.schedule.all fun e => decide (e.bank ≠ s.pot.waveBank)) = true := by simpa using hs
      have hb : ¬(s.pot.waveBank ≠ s.lmc.active ∧ (s.pot.schedule.all fun e => decide (e.bank ≠ s.pot.waveBank)) = true) :=
        fun h => hs' h.2
      simp only [if_neg hb, if_neg hs, if_true, and_self]

/-! ### Extraction -/

theorem driveFan_exm (f : Fan) (on : Bool) : (s.driveFan f on).exm =
    if s.exm.outputs.fan f = on then s.exm
    else { s.exm with
      outputs := s.exm.outputs.setFan f on,
      fanTimers := s.exm.fanTimers.setFan f (if on && s.saq.notTurning f then .start Config.fanFaultMs else .stopped) } := by
  unfold State.driveFan; split <;> rfl

@[simp] theorem driveFan_posted (f : Fan) (on : Bool) : (s.driveFan f on).posted = s.posted :=
  (driveFan_frame s f on).posted (by decide)
@[simp] theorem driveFan_saq (f : Fan) (on : Bool) : (s.driveFan f on).saq = s.saq := (driveFan_frame s f on).saq (by decide)
@[simp] theorem driveFan_links (f : Fan) (on : Bool) : (s.driveFan f on).links = s.links :=
  (driveFan_frame s f on).links (by decide)
@[simp] theorem driveFan_clock (f : Fan) (on : Bool) : (s.driveFan f on).clock = s.clock := (driveFan_frame s f on).clock

/-! ### Alarms -/

@[simp] theorem aimBecomes_aim (a : Aim) : (s.aimBecomes a).aim = { a with waveEffect := a.nextWaveEffect } := by
  simp only [State.aimBecomes, (noteInhibit_frame _ _ _ _).aim (by decide), (noteWave_frame _ _ _).aim (by decide), setAim_aim]

/-- R151: the copies that one inhibit's re-evaluation makes. -/
theorem noteInhibit_link (b a : Aim) (n : Inhibit) (l : Link) : (s.noteInhibit b a n).link l =
    if b.inhibitActive n = a.inhibitActive n then s.link l
    else (s.link l).copyEvent ⟨s.clock, .inhibitChanged n (inhibitState (a.inhibitActive n)) (a.asserted.get n)⟩ := by
  unfold State.noteInhibit; split
  · rfl
  · cases l <;> rfl

/-- R151: the copies that a change of the WAVE effect state makes. -/
theorem noteWave_link (b a : Aim) (l : Link) : (s.noteWave b a).link l =
    if b.waveEffect = a.waveEffect then s.link l
    else (s.link l).copyEvent ⟨s.clock, .inhibitChanged .wave a.waveEffect a.asserted.wave⟩ := by
  unfold State.noteWave; split
  · rfl
  · cases l <;> rfl

/-- A record whose state changes: ALARM_CHANGED, then AIM takes on the record, then an entry into IDLE is handed on. -/
theorem setRecord_of_ne {i : AlarmId} {r : AlarmRecord} (c : RecordCause) (h : s.aim.records[i].state ≠ r.state) :
    s.setRecord i r c =
      ((s.event (.alarmChanged i s.aim.records[i].state r.state c r.count)).aimBecomes
        { s.aim with records := s.aim.records.set i r }).post (recordIdleArrivals i s.aim.records[i].state r.state) :=
  if_neg h

/-- A record whose state stays is replaced, and nothing else happens. -/
theorem setRecord_of_eq {i : AlarmId} {r : AlarmRecord} (c : RecordCause) (h : s.aim.records[i].state = r.state) :
    s.setRecord i r c = s.setAim { s.aim with records := s.aim.records.set i r } :=
  if_pos h

theorem setRecord_records (i : AlarmId) (r : AlarmRecord) (c : RecordCause) :
    (s.setRecord i r c).aim.records = s.aim.records.set i r := by
  unfold State.setRecord; simp only; split
  · rfl
  · simp

/-! ### Zones -/

theorem setZone_zones (z : Zone) (r : ZoneRec) : (s.setZone z r).znc = { s.znc with zones := s.znc.zones.set z r } := rfl

theorem forZones_zones (f : Zone → ZoneRec → ZoneRec) : (s.forZones f).znc =
    { s.znc with zones := ⟨f .z1 s.znc.zones.z1, f .z2 s.znc.zones.z2, f .z3 s.znc.zones.z3⟩ } := rfl

theorem forZones_posted (f : Zone → ZoneRec → ZoneRec) : (s.forZones f).posted = s.posted ++
    ([Zone.z1, .z2, .z3].flatMap fun z =>
      zoneReadiness z (s.znc.zones.get z).state (f z (s.znc.zones.get z)).state) := by
  simp [State.forZones, State.setZone, PerZone.get, PerZone.set]

/-! ### Track -/

theorem removeMismatch_posted (k : MismatchCause) : (s.removeMismatch k).posted = s.posted ++
    (if s.trk.mismatch.get k = true ∧ (s.trk.mismatch.set k false).isEmpty = true then [.alarmEnd Alarm.trackMismatch]
      else []) := by
  unfold State.removeMismatch; split
  · next h =>
    simp only [h, true_and]
    split <;> simp [State.endAlarm]
  · next h => simp [h]

theorem endStall_posted : s.endStall.posted = s.posted ++
    (if s.trk.stallPresent = true then [.alarmEnd Alarm.conveyorStall] else []) := by
  unfold State.endStall; split <;> simp [State.endAlarm]

theorem removeMismatch_trk (k : MismatchCause) :
    (s.removeMismatch k).trk = { s.trk with mismatch := s.trk.mismatch.set k false } := by
  unfold State.removeMismatch; split
  · simp only; split <;> rfl
  · next h =>
    have : s.trk.mismatch.set k false = s.trk.mismatch := by
      rcases hm : s.trk.mismatch with ⟨a, b, c⟩
      cases k <;> simp_all [MismatchCauses.get, MismatchCauses.set]
    rw [this]

theorem endStall_trk : s.endStall.trk = { s.trk with stallPresent := false } := by
  unfold State.endStall; split
  · rfl
  · next h =>
    have : s.trk.stallPresent = false := by simpa using h
    rw [← this]

/-- What leaving the wave does to the schedule and the boards on it. -/
theorem leaveWave_lists (q : Nat) :
    (s.leaveWave q).pot.schedule = s.pot.schedule.filter (fun e => e.seq != q) ∧
      (s.leaveWave q).pot.onWave = s.pot.onWave.filter (fun p => p != q) ∧
      (s.leaveWave q).pot.heat = s.pot.heat := by
  have note : ∀ u : State, u.noteOccupancy.pot.schedule = u.pot.schedule ∧ u.noteOccupancy.pot.onWave = u.pot.onWave ∧
      u.noteOccupancy.pot.heat = u.pot.heat := by
    intro u; unfold State.noteOccupancy; simp only; split <;> exact ⟨rfl, rfl, rfl⟩
  unfold State.leaveWave
  simp only
  split
  · have h := updateWaveBank_same
    split
    · rw [(h _).schedule, (h _).onWave, (h _).heat, (note _).1, (note _).2.1, (note _).2.2]; exact ⟨rfl, rfl, rfl⟩
    · have e := evalWaveOn_same
      rw [(h _).schedule, (h _).onWave, (h _).heat]
      unfold State.evalWave
      rw [(e _ _ _).schedule, (e _ _ _).onWave, (e _ _ _).heat, (note _).1, (note _).2.1, (note _).2.2]
      exact ⟨rfl, rfl, rfl⟩
  · rw [(note _).1, (note _).2.1, (note _).2.2]; exact ⟨rfl, rfl, rfl⟩

end Sys2Proof.Machine
end

