-- ==== Sys2Proof/Laws/Requests.lean ====
section
/-! SUPPORT. The requests: what `serve` answers, case by case, and what each request's own operation leaves alone. -/

-- Many short proofs at once would ask for a thread each; one after another they fit the stack limit.
set_option Elab.async false

namespace Sys2Proof.Machine

variable (s : State)

@[simp] theorem done_status : s.done.status = .ok := rfl
@[simp] theorem done_body : s.done.body = [] := rfl
@[simp] theorem done_state : s.done.state = s := rfl
@[simp] theorem refuse_status (st : Status) : (s.refuse st).status = st := rfl
@[simp] theorem refuse_body (st : Status) : (s.refuse st).body = [] := rfl
@[simp] theorem refuse_state (st : Status) : (s.refuse st).state = s := rfl

/-! ### What has been received -/

@[simp] theorem frameAccepted_links (l : Link) : (s.frameAccepted l).links = s.links :=
  (frameAccepted_frame s l).links (by decide)

@[simp] theorem frameAccepted_link (l k : Link) : (s.frameAccepted l).link k = s.link k := by simp [State.link]

/-- What a valid frame's end makes of its own link: the receiver hunts. -/
@[simp] theorem received_link (l : Link) : (s.received l).link l = { s.link l with receiver := .reset } := by
  simp [State.received]

/-- It leaves the other links alone. -/
theorem received_link_ne {l k : Link} (h : k ≠ l) : (s.received l).link k = s.link k := by
  simp [State.received, receiverToHunt_link_ne s h]

/-- Only the receiver changes, so what does not read the receiver is as it was on every link. -/
theorem received_of_link {α : Type} (f : LinkState → α) (hf : ∀ k r, f { k with receiver := r } = f k) (l k : Link) :
    f ((s.received l).link k) = f (s.link k) := by
  by_cases h : k = l
  · subst h; rw [received_link, hf]
  · rw [received_link_ne s h]

@[simp] theorem received_sending (l k : Link) : ((s.received l).link k).sending = (s.link k).sending :=
  received_of_link s (·.sending) (fun _ _ => rfl) l k

@[simp] theorem received_owed (l k : Link) : ((s.received l).link k).owed = (s.link k).owed :=
  received_of_link s (·.owed) (fun _ _ => rfl) l k

@[simp] theorem received_queue (l k : Link) : ((s.received l).link k).queue = (s.link k).queue :=
  received_of_link s (·.queue) (fun _ _ => rfl) l k

@[simp] theorem received_mask (l k : Link) : ((s.received l).link k).mask = (s.link k).mask :=
  received_of_link s (·.mask) (fun _ _ => rfl) l k

@[simp] theorem received_gap (l k : Link) : ((s.received l).link k).gap = (s.link k).gap :=
  received_of_link s (·.gap) (fun _ _ => rfl) l k

/-- What a valid frame's end makes of the arrivals that wait. -/
theorem received_posted (l : Link) :
    (s.received l).posted =
      s.posted ++ (if l = .safety ∧ s.lmc.supervision.running = true then [.frameArrival] else []) := by
  unfold State.received State.frameAccepted
  rw [(receiverToHunt_frame s l).lmc (by decide)]
  split <;> simp

/-- A receiver that hunts already is left so. -/
@[simp] theorem received_receiverToHunt (l : Link) : (s.receiverToHunt l).received l = s.received l := by
  simp [State.received, State.receiverToHunt]

@[simp] theorem received_trk (l : Link) : (s.received l).trk = s.trk := (received_frame s l).trk (by decide)
@[simp] theorem received_saq (l : Link) : (s.received l).saq = s.saq := (received_frame s l).saq (by decide)
@[simp] theorem received_flx (l : Link) : (s.received l).flx = s.flx := (received_frame s l).flx (by decide)
@[simp] theorem received_znc (l : Link) : (s.received l).znc = s.znc := (received_frame s l).znc (by decide)
@[simp] theorem received_pot (l : Link) : (s.received l).pot = s.pot := (received_frame s l).pot (by decide)
@[simp] theorem received_exm (l : Link) : (s.received l).exm = s.exm := (received_frame s l).exm (by decide)
@[simp] theorem received_aim (l : Link) : (s.received l).aim = s.aim := (received_frame s l).aim (by decide)
@[simp] theorem received_lmc (l : Link) : (s.received l).lmc = s.lmc := (received_frame s l).lmc (by decide)
@[simp] theorem received_rtr (l : Link) : (s.received l).rtr = s.rtr := (received_frame s l).rtr (by decide)
@[simp] theorem received_clock (l : Link) : (s.received l).clock = s.clock := (received_frame s l).clock
@[simp] theorem received_resetPin (l : Link) : (s.received l).resetPin = s.resetPin :=
  (received_frame s l).resetPin
@[simp] theorem received_pending (l : Link) : (s.received l).pending = s.pending :=
  (received_frame s l).pending
@[simp] theorem received_freeCount (l : Link) : (s.received l).freeCount = s.freeCount :=
  (received_frame s l).freeCount

/-! ### The road of a request -/

variable {α : Type} (l : Link) (kind : Byte) (allowed : List Link) (args : Option α) (act : α → State → Served)

theorem serve_busy (h : (s.link l).sending.isSome = true) : s.serve l kind allowed args act = (s.received l).owe l kind .busy :=
  if_pos h

theorem serve_notPermitted (h : (s.link l).sending = none) (hl : l ∉ allowed) :
    s.serve l kind allowed args act = (s.received l).reply l kind .notPermitted [] :=
  (if_neg (by simp [h])).trans (if_pos hl)

theorem serve_invalid (h : (s.link l).sending = none) (hl : l ∈ allowed) :
    s.serve l kind allowed (none : Option α) act = (s.received l).reply l kind .invalid [] :=
  (if_neg (by simp [h])).trans (if_neg (not_not_intro hl))

theorem serve_some (a : α) (h : (s.link l).sending = none) (hl : l ∈ allowed) :
    s.serve l kind allowed (some a) act =
      (act a (s.received l)).state.reply l kind (act a (s.received l)).status (act a (s.received l)).body :=
  (if_neg (by simp [h])).trans (if_neg (not_not_intro hl))

/-- A request writes its link and posts, and what its own operation writes. -/
theorem serve_frame {ps : List Part} (h : ∀ a u, SameBut ps u (act a u).state) (hl : Part.links ∈ ps := by decide)
    (hp : Part.posted ∈ ps := by decide) : SameBut ps s (s.serve l kind allowed args act) := by
  have base : SameBut ps s (s.received l) := (received_frame s l).mono (by simp [hl, hp])
  have rep (u : State) (k : Byte) (st : Status) (b : List Byte) : SameBut ps u (u.reply l k st b) :=
    (reply_frame u l k st b).mono (by simp [hl])
  unfold State.serve
  dsimp only
  split
  · exact base.trans ((owe_frame _ _ _ _).mono (by simp [hl]))
  · split
    · exact base.trans (rep _ _ _ _)
    · split
      · exact base.trans (rep _ _ _ _)
      · exact (base.trans (h _ _)).trans (rep _ _ _ _)

/-! ### The requests' own operations -/

theorem refuse_frame (st : Status) (ps : List Part) : SameBut ps s (s.refuse st).state := .refl _ s

theorem ackAlarm_frame (n : Nat) : SameBut [.aim, .links, .posted] s (s.ackAlarm l n).state := by
  unfold State.ackAlarm
  dsimp only
  split
  · split
    · exact .refl _ s
    · split
      · exact .refl _ s
      · exact (setRecord_frame s _ _ _).after (post_frame _ _)
  · exact .refl _ s

theorem assertInhibit_frame (n : Inhibit) (v : Bool) : SameBut [.aim, .links, .posted] s (s.assertInhibit n v).state := by
  unfold State.assertInhibit
  split
  · exact .refl _ s
  · exact aimBecomes_frame s _

theorem writeConfig_frame (i : ConfigItem) (v : Int) :
    SameBut [.trk, .saq, .flx, .znc, .pot, .exm, .lmc, .posted] s (s.writeConfig i v).state := by
  unfold State.writeConfig
  repeat' split
  all_goals first | exact .refl _ s | exact storeConfig_frame s i v

theorem storeBank_frame (b : BankId) (f : BankItems → BankItems) : SameBut [.lmc] s (s.storeBank b f).state :=
  setBank_frame s _ _

theorem writeBank_frame (b : BankId) (w : BankWrite) : SameBut [.lmc] s (s.writeBank b w).state := by
  unfold State.writeBank
  repeat' split
  all_goals first | exact .refl _ s | exact storeBank_frame s _ _

theorem setZonesAll_frame (v : Nat) : SameBut [.lmc] s (s.setZonesAll v).state := by
  unfold State.setZonesAll
  dsimp only
  repeat' split
  all_goals first | exact .refl _ s | exact storeBank_frame s _ _

theorem validateBank_frame : SameBut [.lmc] s s.validateBank.state := by
  unfold State.validateBank
  dsimp only
  repeat' split
  all_goals first | exact .refl _ s | exact setBank_frame s _ _

theorem swapBank_frame : SameBut [.lmc, .links, .posted] s s.swapBank.state := by
  unfold State.swapBank
  split
  all_goals try exact .refl _ s
  · rename_i h
    split
    · exact startChangeover_frame s (by simp [h])
    · exact .refl _ s
  all_goals
    split
    · exact swapBanks_frame s _
    · exact .refl _ s

theorem cancelSwap_frame : SameBut [.lmc, .links, .posted] s s.cancelSwap.state := by
  unfold State.cancelSwap
  split
  · exact .refl _ s
  · rename_i h
    split
    · exact changeMode_frame_of_ne s _ _ _ (by intro e; exact h (by simp [e]))
    · exact .refl _ s

theorem warmupRequest_frame (taken : LineMode → Bool) (k : Byte) (h : taken .maintenance = false) :
    SameBut [.lmc, .links, .posted] s (s.warmupRequest taken k).state := by
  unfold State.warmupRequest
  split
  · exact .refl _ s
  · rename_i g
    split
    · exact .refl _ s
    · split
      · exact .refl _ s
      · exact enterWarmup_frame s _ (by intro e; exact g (by rw [e]; exact h))

theorem stopRequest_frame : SameBut [.lmc, .links, .posted] s s.stopRequest.state := by
  unfold State.stopRequest
  split
  · rename_i h
    dsimp only
    have a := changeMode_frame_of_ne s .drain .none (.request 0x0E) (by simp [h])
    show SameBut _ s (if _ then _ else _)
    split
    · exact a.trans (changeMode_frame_of_ne _ _ _ _ (by simp))
    · exact a
  all_goals exact .refl _ s

theorem stopHeat_frame : SameBut [.lmc, .links, .posted] s s.stopHeat.state := by
  unfold State.stopHeat
  split
  · rename_i h
    exact changeMode_frame_of_ne s _ _ _ (by intro e; rw [e] at h; simp [takesStopHeat] at h)
  · exact .refl _ s

theorem enterMaintenance_frame : SameBut [.lmc, .links, .posted] s s.enterMaintenance.state := by
  unfold State.enterMaintenance
  split
  · rename_i h
    exact changeMode_frame_of_ne s _ _ _ (by simp [h])
  · exact .refl _ s

theorem leaveMaintenance_frame : SameBut [.saq, .lmc, .links, .posted] s s.leaveMaintenance.state := by
  unfold State.leaveMaintenance
  dsimp only
  split
  · exact (changeMode_frame s _ _ _).after (setLmc_frame _ _)
  · exact .refl _ s

theorem forceSafe_frame : SameBut [.lmc, .links, .posted] s s.forceSafe.state := demandSafe_frame s _

theorem releaseSafe_frame : SameBut [.lmc, .links, .posted] s s.releaseSafe.state := by
  unfold State.releaseSafe
  split
  · exact .refl _ s
  · rename_i h
    split
    · exact .refl _ s
    · exact changeMode_frame_of_ne s _ _ _ (by intro e; exact h (by simp [e]))

theorem supervise_frame (w : Nat) : SameBut [.lmc] s (s.supervise w).state := by
  unfold State.supervise
  split
  · exact .refl _ s
  · exact setLmc_frame s _

theorem forceSignalChannel_frame (n v : Nat) : SameBut [.saq] s (s.forceSignalChannel n v).state := by
  unfold State.forceSignalChannel
  repeat' split
  all_goals first | exact .refl _ s | exact forceChannel_frame s _ _

theorem forceSignalContact_frame (n : Nat) (v : ContactLevel) :
    SameBut [.saq, .posted] s (s.forceSignalContact n v).state := by
  unfold State.forceSignalContact
  repeat' split
  all_goals first | exact .refl _ s | exact forceContact_frame s _ _

theorem releaseForce_frame (t : ReleaseTarget) : SameBut [.saq, .posted] s (s.releaseForce t).state := by
  unfold State.releaseForce
  split
  · exact .refl _ s
  · split
    · rw [done_state]
      exact endForces_frame s
    · split
      · exact .refl _ s
      · exact (forceChannel_frame s _ _).mono
    · split
      · exact .refl _ s
      · exact forceContact_frame s _ _

theorem clearTrack_frame : SameBut [.trk, .flx, .pot, .links, .posted] s s.clearTrack.state := by
  unfold State.clearTrack
  split
  · exact .refl _ s
  · split
    · exact .refl _ s
    · have h := clearBoards_frame s.trk.table.length s
      generalize s.clearBoards s.trk.table.length = u at h ⊢
      exact h.trans (((setTrk_frame u _).after (removeMismatch_frame _ _) : SameBut [.trk, .posted] _ _).after
        (evalReady_frame _))

theorem refill_frame (k n : Nat) : SameBut [.flx, .rtr, .posted] s (s.refill k n).state := by
  unfold State.refill
  dsimp only
  split
  · exact .refl _ s
  · split
    · exact .refl _ s
    · split
      · exact .refl _ s
      · exact ((setAmount_frame s _ _).after (clearFailedDraw_frame _) : SameBut [.flx, .rtr, .posted] _ _).after
          (setRtr_frame _ _)

theorem selectTank_frame (k : Nat) : SameBut [.flx, .rtr, .links, .posted] s (s.selectTank k).state := by
  unfold State.selectTank
  split
  · exact .refl _ s
  · split
    · exact .refl _ s
    · split
      · exact .refl _ s
      · exact (setActiveTank_frame s _).after (event_frame _ _)

theorem selectFan_frame (n : Nat) : SameBut [.exm, .links] s (s.selectFan n).state := by
  unfold State.selectFan
  dsimp only
  split
  · exact .refl _ s
  · split
    · exact .refl _ s
    · split
      · exact .refl _ s
      · exact (((driveFan_frame s _ _).trans (driveFan_frame _ _ _)).trans (setExm_frame _ _)).after (event_frame _ _)

theorem pushIdentity_frame (i : Identity) : SameBut [.trk] s (s.pushIdentity i).state := by
  unfold State.pushIdentity
  split
  · exact .refl _ s
  · split
    · exact .refl _ s
    · exact (setTrk_frame s _).trans (evalReady_frame _)

/-- R22: what the log still holds once its oldest record is removed, by sequence number. -/
@[simp] theorem Trk.removeOldest_logged? (t : Trk) (r : ExitRecord) (rest : List ExitRecord) (q : Nat) :
    (t.removeOldest r rest).logged? q = rest.find? (fun y => y.seq == q) := rfl

@[simp] theorem Trk.removeOldest_board? (t : Trk) (r : ExitRecord) (rest : List ExitRecord) (q : Nat) :
    (t.removeOldest r rest).board? q = t.board? q := rfl

/-- R184: the log gives a record by its number while none of the same number stands before it there. -/
theorem Trk.logged?_of_first (t : Trk) (pre post : List ExitRecord) (r : ExitRecord) (hl : t.exitLog = pre ++ r :: post)
    (hp : ∀ x ∈ pre, x.seq ≠ r.seq) : t.logged? r.seq = some r := by
  have h : pre.find? (fun x => x.seq == r.seq) = none := List.find?_eq_none.mpr fun x hx => by simpa using hp x hx
  simp [Trk.logged?, hl, List.find?_append, h]

/-- R18: READ_BOARD gives a record of the table wherever one has the number. -/
theorem readBoard_table (q : Nat) (b : BoardRecord) (h : s.trk.board? q = some b) :
    s.readBoard q = ⟨.ok, 0 :: b.encode s.trk.geometry s.trk.position, s⟩ := by
  simp [State.readBoard, h]

/-- R18: with none in the table it gives the oldest of the log. -/
theorem readBoard_log (q : Nat) (r : ExitRecord) (hb : s.trk.board? q = none) (h : s.trk.logged? q = some r) :
    s.readBoard q = ⟨.ok, 1 :: r.encode, s⟩ := by
  simp [State.readBoard, hb, h]

/-- R18: where neither holds one, it is NOT_FOUND. -/
theorem readBoard_notFound (q : Nat) (hb : s.trk.board? q = none) (hl : s.trk.logged? q = none) :
    s.readBoard q = s.refuse .notFound := by
  simp [State.readBoard, hb, hl]

/-- R18, R22: once TAKE_EXIT_RECORD has removed a record, READ_BOARD of its number is NOT_FOUND, unless a board of the table or
another record of the log has the number. (Assumption 34.) -/
theorem readBoard_removed (r : ExitRecord) (rest : List ExitRecord) (hb : s.trk.board? r.seq = none)
    (hr : ∀ x ∈ rest, x.seq ≠ r.seq) :
    (s.setTrk (s.trk.removeOldest r rest)).readBoard r.seq = (s.setTrk (s.trk.removeOldest r rest)).refuse .notFound := by
  have hl : rest.find? (fun x => x.seq == r.seq) = none := List.find?_eq_none.mpr fun x hx => by simpa using hr x hx
  exact readBoard_notFound _ r.seq (by simpa using hb) (by simpa using hl)

theorem takeExitRecord_frame : SameBut [.trk] s s.takeExitRecord.state := by
  unfold State.takeExitRecord
  split
  · exact .refl _ s
  · exact (setTrk_frame s _).trans (evalReady_frame _)

theorem readBoard_state (q : Nat) : (s.readBoard q).state = s := by
  unfold State.readBoard
  repeat' split
  all_goals rfl

theorem readAlarms_state (n : Nat) : (s.readAlarms n).state = s := by
  unfold State.readAlarms
  split <;> rfl

/-! ### The end of a frame -/

/-- R173: the character that a receiver in BODY lacks completes the frame. -/
theorem receive_last (n : Nat) (c : Byte) (h : (s.link l).receiver.state = .body n)
    (hn : (s.link l).receiver.bytes.length = n) :
    s.receive l c = s.frameComplete l ((s.link l).receiver.bytes ++ [c]) := by
  simp [State.receive, h, hn]

theorem frameComplete_good (bs : List Byte) (h : frameGood bs = true) :
    s.frameComplete l bs = s.carryOut l (bs.getD 1 0x00) ((bs.drop 2).take (bs.length - 4)) := if_pos h

theorem frameComplete_bad (bs : List Byte) (h : frameGood bs = false) :
    s.frameComplete l bs = .next ((s.receiverToHunt l).frameBad l bs[1]?) := if_neg (by simp [h])

end Sys2Proof.Machine
end

