-- ==== Sys2Proof/Laws/Modes.lean ====
section
/-! SUPPORT. What each operation of the Line Mode Controller makes of its own record. -/

-- Many short proofs at once would ask for a thread each; one after another they fit the stack limit.
set_option Elab.async false

namespace Sys2Proof.Machine

variable (s : State)

@[simp] theorem inMode_mode (l : Lmc) (m : LineMode) (ph : ChangeoverPhase) : (l.inMode m ph).mode = m := rfl
@[simp] theorem inMode_phase (l : Lmc) (m : LineMode) (ph : ChangeoverPhase) : (l.inMode m ph).phase = ph := rfl
@[simp] theorem inMode_active (l : Lmc) (m : LineMode) (ph : ChangeoverPhase) : (l.inMode m ph).active = l.active := rfl
@[simp] theorem inMode_banks (l : Lmc) (m : LineMode) (ph : ChangeoverPhase) : (l.inMode m ph).banks = l.banks := rfl
@[simp] theorem inMode_view (l : Lmc) (m : LineMode) (ph : ChangeoverPhase) : (l.inMode m ph).view = l.view := rfl
@[simp] theorem inMode_awaited (l : Lmc) (m : LineMode) (ph : ChangeoverPhase) : (l.inMode m ph).awaited = l.awaited := rfl
@[simp] theorem inMode_idleTimeout (l : Lmc) (m : LineMode) (ph : ChangeoverPhase) :
    (l.inMode m ph).idleTimeout = l.idleTimeout := rfl
@[simp] theorem inMode_wakeEnabled (l : Lmc) (m : LineMode) (ph : ChangeoverPhase) :
    (l.inMode m ph).wakeEnabled = l.wakeEnabled := rfl
@[simp] theorem inMode_supervision (l : Lmc) (m : LineMode) (ph : ChangeoverPhase) :
    (l.inMode m ph).supervision = l.supervision := rfl

@[simp] theorem changeMode_lmc (m : LineMode) (ph : ChangeoverPhase) (c : ModeCause) :
    (s.changeMode m ph c).lmc = s.lmc.inMode m ph := by
  unfold State.changeMode
  dsimp only
  simp only [post_lmc, event_lmc, setLmc_lmc]
  split
  · rw [(endForces_frame s).lmc (by decide)]
  · rfl

/-- A change of mode hands the new mode to the five blocks, after what was posted already. -/
theorem changeMode_posted (m : LineMode) (ph : ChangeoverPhase) (c : ModeCause) (h : s.lmc.mode ≠ .maintenance) :
    (s.changeMode m ph c).posted = s.posted ++ modeArrivals m := by
  simp [State.changeMode, h]

/-- What LMC's operations leave of the record beside the mode, the phase, the timers and the designation. -/
structure SameItems (l k : Lmc) : Prop where
  banks       : k.banks = l.banks
  idleTimeout : k.idleTimeout = l.idleTimeout
  wakeEnabled : k.wakeEnabled = l.wakeEnabled

theorem SameItems.refl (l : Lmc) : SameItems l l := ⟨rfl, rfl, rfl⟩

theorem SameItems.of_eq {l k : Lmc} (h : k = l) : SameItems l k := h ▸ .refl _

theorem SameItems.trans {l k j : Lmc} (h : SameItems l k) (h' : SameItems k j) : SameItems l j :=
  ⟨h'.banks.trans h.banks, h'.idleTimeout.trans h.idleTimeout, h'.wakeEnabled.trans h.wakeEnabled⟩

theorem changeMode_items (m : LineMode) (ph : ChangeoverPhase) (c : ModeCause) :
    SameItems s.lmc (s.changeMode m ph c).lmc := by
  rw [changeMode_lmc]; exact ⟨rfl, rfl, rfl⟩

theorem testReadiness_items : SameItems s.lmc s.testReadiness.lmc := by
  unfold State.testReadiness
  split
  · split
    · exact changeMode_items s _ _ _
    · exact .refl _
  · split
    · exact changeMode_items s _ _ _
    · exact .refl _
  · exact .refl _

/-- The test of the readiness view waits while something is awaited. -/
theorem testReadiness_awaited (h : s.lmc.awaited ≠ []) : s.testReadiness = s := by
  unfold State.testReadiness
  split <;> simp [h]

theorem awaits_iff (l : Lmc) (b : BankBlock) : l.awaits b = true ↔ ∃ bank, Instr.activeBankArrival b bank ∈ l.awaited := by
  simp only [Lmc.awaits, Bool.or_eq_true, decide_eq_true_eq]
  constructor
  · rintro (h | h) <;> exact ⟨_, h⟩
  · rintro ⟨⟨⟩ | ⟨⟩, h⟩
    · exact .inl h
    · exact .inr h

/-- While a block's change of active bank is awaited, the taking of a line mode adds to what is awaited and changes nothing else of
LMC's record. -/
theorem modeTaken_lmc (b : BankBlock) (n : Nat) :
    (s.modeTaken b n).lmc = { s.lmc with awaited := (s.modeTaken b n).lmc.awaited } := by
  unfold State.modeTaken
  split <;> rfl

theorem takeMode_lmc (b : ModeBlock) (m : LineMode) : (s.takeMode b m).lmc = s.lmc := (takeMode_frame s b m).lmc (by decide)

/-- A block's taking of a line mode leaves LMC's record but for what the test awaits. -/
theorem takeModeAs_lmc (b : ModeBlock) (m : LineMode) :
    (s.takeModeAs b m).lmc = { s.lmc with awaited := (s.takeModeAs b m).lmc.awaited } := by
  cases b <;> simp only [State.takeModeAs]
  · rw [modeTaken_lmc, takeMode_lmc]
  · rw [modeTaken_lmc, takeMode_lmc]
  all_goals rw [takeMode_lmc]

/-- While no change of active bank is awaited of a block, its taking of a line mode is its own part alone. -/
theorem modeTaken_of_not_awaited (b : BankBlock) (n : Nat) (h : ∀ k, Instr.activeBankArrival b k ∉ s.lmc.awaited) :
    s.modeTaken b n = s := by
  rw [State.modeTaken, if_neg]
  rw [awaits_iff]
  rintro ⟨k, hk⟩
  exact h k hk

theorem bankTaken_items (c : Instr) (n : Nat) : SameItems s.lmc (s.bankTaken c n).lmc := by
  unfold State.bankTaken
  split
  · have h : SameItems s.lmc (s.bankActed c n).lmc := ⟨rfl, rfl, rfl⟩
    exact h.trans (testReadiness_items _)
  · exact .refl _

theorem swapBanks_items (d : SwapDetail) : SameItems s.lmc (s.swapBanks d).lmc := ⟨rfl, rfl, rfl⟩

theorem enterRetarget_items : SameItems s.lmc s.enterRetarget.lmc := ⟨rfl, rfl, rfl⟩

theorem startChangeover_items : SameItems s.lmc s.startChangeover.lmc := by
  unfold State.startChangeover
  dsimp only
  split
  · exact (changeMode_items s _ _ _).trans (enterRetarget_items _)
  · exact changeMode_items s _ _ _

theorem demandSafe_items (c : ModeCause) : SameItems s.lmc (s.demandSafe c).lmc := by
  unfold State.demandSafe
  split
  · exact .refl _
  · exact ⟨rfl, rfl, rfl⟩
  all_goals exact changeMode_items s _ _ _

theorem setbackOr_items (c : ModeCause) : SameItems s.lmc (s.setbackOr c).lmc := by
  unfold State.setbackOr
  split
  · exact ⟨rfl, rfl, rfl⟩
  · exact changeMode_items s _ _ _

theorem idleExpired_items : SameItems s.lmc s.idleExpired.lmc := by
  unfold State.idleExpired
  split
  · exact ⟨rfl, rfl, rfl⟩
  · split
    · exact ⟨rfl, rfl, rfl⟩
    · exact changeMode_items s _ _ _

theorem superviseFrame_items : SameItems s.lmc s.superviseFrame.lmc := by
  unfold State.superviseFrame
  dsimp only
  split <;> exact ⟨rfl, rfl, rfl⟩

theorem superviseExpiry_items : SameItems s.lmc s.superviseExpiry.lmc := ⟨rfl, rfl, rfl⟩

theorem warmupRequest_items (taken : LineMode → Bool) (k : Byte) :
    SameItems s.lmc (s.warmupRequest taken k).state.lmc := by
  unfold State.warmupRequest
  split
  · exact .refl _
  · split
    · exact .refl _
    · split
      · exact .refl _
      · exact (changeMode_items s _ _ _).trans (testReadiness_items _)

theorem stopRequest_items : SameItems s.lmc s.stopRequest.state.lmc := by
  unfold State.stopRequest
  split
  · rw [done_state]
    split
    · exact (changeMode_items s _ _ _).trans (changeMode_items _ _ _ _)
    · exact changeMode_items s _ _ _
  all_goals exact .refl _

theorem swapBank_items : SameItems s.lmc s.swapBank.state.lmc := by
  unfold State.swapBank
  split
  all_goals try exact .refl _
  · split
    · exact startChangeover_items s
    · exact .refl _
  all_goals
    split
    · exact swapBanks_items s _
    · exact .refl _

theorem leaveMaintenance_items : SameItems s.lmc s.leaveMaintenance.state.lmc := by
  unfold State.leaveMaintenance
  split
  · rw [done_state]
    exact (changeMode_items s (if s.lmc.safeHeld then .safe else .standby) .none (.request 0x11)).trans ⟨rfl, rfl, rfl⟩
  · exact .refl _

theorem supervise_items (w : Nat) : SameItems s.lmc (s.supervise w).state.lmc := by
  unfold State.supervise
  split
  · exact .refl _
  · exact ⟨rfl, rfl, rfl⟩

theorem modeRequest_items :
    SameItems s.lmc s.stopHeat.state.lmc ∧ SameItems s.lmc s.enterMaintenance.state.lmc ∧
      SameItems s.lmc s.releaseSafe.state.lmc ∧ SameItems s.lmc s.cancelSwap.state.lmc := by
  refine ⟨?_, ?_, ?_, ?_⟩
  · unfold State.stopHeat
    split
    · exact changeMode_items s _ _ _
    · exact .refl _
  · unfold State.enterMaintenance
    split
    · exact changeMode_items s _ _ _
    · exact .refl _
  · unfold State.releaseSafe
    split
    · exact .refl _
    · split
      · exact .refl _
      · exact changeMode_items s _ _ _
  · unfold State.cancelSwap
    split
    · exact .refl _
    · split
      · exact changeMode_items s _ _ _
      · exact .refl _

/-- What holds of LMC's record where a request is received, and after its own operation, holds after the request. -/
theorem serve_lmc {α : Type} (P : Lmc → Lmc → Prop) (refl : ∀ l, P l l) (l : Link) (kind : Byte)
    (allowed : List Link) (args : Option α) (act : α → State → Served) (h : ∀ a u, u.lmc = s.lmc → P u.lmc (act a u).state.lmc) :
    P s.lmc (s.serve l kind allowed args act).lmc := by
  have hl : (s.received l).lmc = s.lmc := received_lmc s l
  unfold State.serve
  dsimp only
  split
  · rw [(owe_frame _ _ _ _).lmc (by decide), hl]; exact refl _
  · split
    · rw [reply_lmc, hl]; exact refl _
    · split
      · rw [reply_lmc, hl]; exact refl _
      · rw [reply_lmc]
        have := h (by assumption) (s.received l) hl
        rw [hl] at this
        exact this

end Sys2Proof.Machine
end

