-- ==== Sys2Proof/Laws/PerInstr.lean ====
section
/-! SUPPORT. Statements made instruction by instruction, as syntax. `RequestRoundTrip`: a request that a kind byte and a body make
(R181) gives back its link, its kind and its body, so no two frames make one request, and no other command is made by a frame. -/

-- Many short proofs at once would ask for a thread each; one after another they fit the stack limit.
set_option Elab.async false

namespace Sys2Proof.Laws

open Sys2Proof.Machine

/-- R181: the link, the kind and the body that make a request; none for a command that is no request. -/
def wireForm? : Instr → Option (Link × Nat × List Byte)
  | .readStatus l body => some (l, 0x01, body)
  | .readBoard l body => some (l, 0x02, body)
  | .readTable l body => some (l, 0x03, body)
  | .readAlarms l body => some (l, 0x04, body)
  | .ackAlarm l body => some (l, 0x05, body)
  | .writeConfig l body => some (l, 0x06, body)
  | .writeBank l body => some (l, 0x07, body)
  | .setZonesAll l body => some (l, 0x08, body)
  | .validateBank l body => some (l, 0x09, body)
  | .swapBank l body => some (l, 0x0A, body)
  | .cancelSwap l body => some (l, 0x0B, body)
  | .warmup l body => some (l, 0x0C, body)
  | .start l body => some (l, 0x0D, body)
  | .stop l body => some (l, 0x0E, body)
  | .stopHeat l body => some (l, 0x0F, body)
  | .enterMaintenance l body => some (l, 0x10, body)
  | .leaveMaintenance l body => some (l, 0x11, body)
  | .forceSignalChannel l body => some (l, 0x12, body)
  | .forceSignalContact l body => some (l, 0x12, body)
  | .releaseForce l body => some (l, 0x13, body)
  | .clearTrack l body => some (l, 0x14, body)
  | .refill l body => some (l, 0x15, body)
  | .selectTank l body => some (l, 0x16, body)
  | .selectFan l body => some (l, 0x17, body)
  | .clearStamps l body => some (l, 0x18, body)
  | .readRetained l body => some (l, 0x19, body)
  | .clearResetCauses l body => some (l, 0x1A, body)
  | .readEvents l body => some (l, 0x1B, body)
  | .subscribe l body => some (l, 0x1C, body)
  | .reset l body => some (l, 0x1D, body)
  | .assertInhibit l body => some (l, 0x1E, body)
  | .releaseInhibit l body => some (l, 0x1F, body)
  | .forceSafe l body => some (l, 0x20, body)
  | .releaseSafe l body => some (l, 0x21, body)
  | .supervise l body => some (l, 0x22, body)
  | .pushIdentity l body => some (l, 0x23, body)
  | .flushIdentities l body => some (l, 0x24, body)
  | .takeExitRecord l body => some (l, 0x25, body)
  | _ => none

/-- R181: the request that a frame makes gives the frame back. -/
theorem requestOf_wireForm (l : Link) (k : Nat) (body : List Byte) (i : Instr) (h : requestOf l k body = some i) :
    wireForm? i = some (l, k, body) := by
  unfold requestOf at h
  split at h
  all_goals first
    | (cases h; rfl)
    | (split at h <;> cases h <;> rfl)
    | cases h

/-- R175: what completes a valid frame carries out what the command of its request does. -/
theorem carryOut_eq_exec (l : Link) (k : Byte) (body : List Byte) (s : State) :
    s.carryOut l k body = exec ((requestOf l k.toNat body).getD (.unknownKind l k body)) s := by
  unfold State.carryOut
  generalize k.toNat = n
  cases e : requestOf l n body with
  | none => rfl
  | some i =>
    have h := requestOf_wireForm l n body i e
    cases i <;> cases h <;> rfl

/-- What is stated of each command: where a frame makes it, the command gives the frame back. -/
def RequestRoundTrip.Statement (i : Instr) : Prop :=
  ∀ (l : Link) (k : Nat) (body : List Byte), requestOf l k body = some i → wireForm? i = some (l, k, body)

theorem RequestRoundTrip.encoderPulse (entry exit : EyeLevel) : RequestRoundTrip.Statement (.encoderPulse entry exit) :=
  fun l k b => requestOf_wireForm l k b _

theorem RequestRoundTrip.speedWindowExpiry : RequestRoundTrip.Statement (.speedWindowExpiry) :=
  fun l k b => requestOf_wireForm l k b _

theorem RequestRoundTrip.stallTimerExpiry : RequestRoundTrip.Statement (.stallTimerExpiry) :=
  fun l k b => requestOf_wireForm l k b _

theorem RequestRoundTrip.nozzleReached (seq : Nat) (length : Option Nat) : RequestRoundTrip.Statement (.nozzleReached seq length) :=
  fun l k b => requestOf_wireForm l k b _

theorem RequestRoundTrip.cellBoundary (seq cell : Nat) : RequestRoundTrip.Statement (.cellBoundary seq cell) :=
  fun l k b => requestOf_wireForm l k b _

theorem RequestRoundTrip.nozzleCleared (seq : Nat) : RequestRoundTrip.Statement (.nozzleCleared seq) :=
  fun l k b => requestOf_wireForm l k b _

theorem RequestRoundTrip.gateReached (seq : Nat) : RequestRoundTrip.Statement (.gateReached seq) :=
  fun l k b => requestOf_wireForm l k b _

theorem RequestRoundTrip.waveEntered (seq : Nat) : RequestRoundTrip.Statement (.waveEntered seq) :=
  fun l k b => requestOf_wireForm l k b _

theorem RequestRoundTrip.waveLeft (seq : Nat) : RequestRoundTrip.Statement (.waveLeft seq) :=
  fun l k b => requestOf_wireForm l k b _

theorem RequestRoundTrip.passTimerExpiry : RequestRoundTrip.Statement (.passTimerExpiry) :=
  fun l k b => requestOf_wireForm l k b _

theorem RequestRoundTrip.priorityTimerExpiry : RequestRoundTrip.Statement (.priorityTimerExpiry) :=
  fun l k b => requestOf_wireForm l k b _

theorem RequestRoundTrip.conversionComplete (code : Code) : RequestRoundTrip.Statement (.conversionComplete code) :=
  fun l k b => requestOf_wireForm l k b _

theorem RequestRoundTrip.zoneSampleArrival (z : Zone) (value : Nat) (rep : ReportedState) : RequestRoundTrip.Statement (.zoneSampleArrival z value rep) :=
  fun l k b => requestOf_wireForm l k b _

theorem RequestRoundTrip.thermalSampleArrival (src : ThermalSource) (value : Nat) (rep : ReportedState) : RequestRoundTrip.Statement (.thermalSampleArrival src value rep) :=
  fun l k b => requestOf_wireForm l k b _

theorem RequestRoundTrip.ptsSampleArrival (value : Nat) (rep : ReportedState) : RequestRoundTrip.Statement (.ptsSampleArrival value rep) :=
  fun l k b => requestOf_wireForm l k b _

theorem RequestRoundTrip.plvSampleArrival (value : Nat) (rep : ReportedState) : RequestRoundTrip.Statement (.plvSampleArrival value rep) :=
  fun l k b => requestOf_wireForm l k b _

theorem RequestRoundTrip.wvhSampleArrival (value : Nat) (rep : ReportedState) : RequestRoundTrip.Statement (.wvhSampleArrival value rep) :=
  fun l k b => requestOf_wireForm l k b _

theorem RequestRoundTrip.dspSampleArrival (value : Nat) (rep : ReportedState) : RequestRoundTrip.Statement (.dspSampleArrival value rep) :=
  fun l k b => requestOf_wireForm l k b _

theorem RequestRoundTrip.fdpSampleArrival (value : Nat) (rep : ReportedState) : RequestRoundTrip.Statement (.fdpSampleArrival value rep) :=
  fun l k b => requestOf_wireForm l k b _

theorem RequestRoundTrip.flpSampleArrival (value : Nat) (rep : ReportedState) : RequestRoundTrip.Statement (.flpSampleArrival value rep) :=
  fun l k b => requestOf_wireForm l k b _

theorem RequestRoundTrip.contactPass (inputs : ContactInputs) : RequestRoundTrip.Statement (.contactPass inputs) :=
  fun l k b => requestOf_wireForm l k b _

theorem RequestRoundTrip.safetyContactTransition (c : SafetyContact) (t : Transition) : RequestRoundTrip.Statement (.safetyContactTransition c t) :=
  fun l k b => requestOf_wireForm l k b _

theorem RequestRoundTrip.fanRunTransition (f : Fan) (t : Transition) : RequestRoundTrip.Statement (.fanRunTransition f t) :=
  fun l k b => requestOf_wireForm l k b _

theorem RequestRoundTrip.pumpRunTransition (t : Transition) : RequestRoundTrip.Statement (.pumpRunTransition t) :=
  fun l k b => requestOf_wireForm l k b _

theorem RequestRoundTrip.wirePresentTransition (t : Transition) : RequestRoundTrip.Statement (.wirePresentTransition t) :=
  fun l k b => requestOf_wireForm l k b _

theorem RequestRoundTrip.upstreamAvailTransition (t : Transition) : RequestRoundTrip.Statement (.upstreamAvailTransition t) :=
  fun l k b => requestOf_wireForm l k b _

theorem RequestRoundTrip.alarmRaise (i : AlarmId) : RequestRoundTrip.Statement (.alarmRaise i) :=
  fun l k b => requestOf_wireForm l k b _

theorem RequestRoundTrip.alarmEnd (i : AlarmId) : RequestRoundTrip.Statement (.alarmEnd i) :=
  fun l k b => requestOf_wireForm l k b _

theorem RequestRoundTrip.sprayInhibitChange (active : Bool) : RequestRoundTrip.Statement (.sprayInhibitChange active) :=
  fun l k b => requestOf_wireForm l k b _

theorem RequestRoundTrip.preheatInhibitChange (active : Bool) : RequestRoundTrip.Statement (.preheatInhibitChange active) :=
  fun l k b => requestOf_wireForm l k b _

theorem RequestRoundTrip.waveInhibitChange (effect : WaveEffect) : RequestRoundTrip.Statement (.waveInhibitChange effect) :=
  fun l k b => requestOf_wireForm l k b _

theorem RequestRoundTrip.feedInhibitChange (active : Bool) : RequestRoundTrip.Statement (.feedInhibitChange active) :=
  fun l k b => requestOf_wireForm l k b _

theorem RequestRoundTrip.entryInhibitChange (active : Bool) : RequestRoundTrip.Statement (.entryInhibitChange active) :=
  fun l k b => requestOf_wireForm l k b _

theorem RequestRoundTrip.solderOccupancyArrival (occupied : Bool) : RequestRoundTrip.Statement (.solderOccupancyArrival occupied) :=
  fun l k b => requestOf_wireForm l k b _

theorem RequestRoundTrip.pumpFaultAcknowledged : RequestRoundTrip.Statement (.pumpFaultAcknowledged) :=
  fun l k b => requestOf_wireForm l k b _

theorem RequestRoundTrip.recordIdleArrival (r : FeederLock) : RequestRoundTrip.Statement (.recordIdleArrival r) :=
  fun l k b => requestOf_wireForm l k b _

theorem RequestRoundTrip.safeDemand (i : AlarmId) : RequestRoundTrip.Statement (.safeDemand i) :=
  fun l k b => requestOf_wireForm l k b _

theorem RequestRoundTrip.lineModeArrival (b : ModeBlock) (m : LineMode) : RequestRoundTrip.Statement (.lineModeArrival b m) :=
  fun l k b => requestOf_wireForm l k b _

theorem RequestRoundTrip.activeBankArrival (b : BankBlock) (bank : BankId) : RequestRoundTrip.Statement (.activeBankArrival b bank) :=
  fun l k b => requestOf_wireForm l k b _

theorem RequestRoundTrip.readinessArrival (r : Readiness) : RequestRoundTrip.Statement (.readinessArrival r) :=
  fun l k b => requestOf_wireForm l k b _

theorem RequestRoundTrip.feederArrival (state : FeederState) : RequestRoundTrip.Statement (.feederArrival state) :=
  fun l k b => requestOf_wireForm l k b _

theorem RequestRoundTrip.gatedArrival (pendingBoards : Nat) : RequestRoundTrip.Statement (.gatedArrival pendingBoards) :=
  fun l k b => requestOf_wireForm l k b _

theorem RequestRoundTrip.tableEmptyArrival : RequestRoundTrip.Statement (.tableEmptyArrival) :=
  fun l k b => requestOf_wireForm l k b _

theorem RequestRoundTrip.frameArrival : RequestRoundTrip.Statement (.frameArrival) :=
  fun l k b => requestOf_wireForm l k b _

theorem RequestRoundTrip.zoneHeaterWindow : RequestRoundTrip.Statement (.zoneHeaterWindow) :=
  fun l k b => requestOf_wireForm l k b _

theorem RequestRoundTrip.zoneHeaterOnEnd (z : Zone) : RequestRoundTrip.Statement (.zoneHeaterOnEnd z) :=
  fun l k b => requestOf_wireForm l k b _

theorem RequestRoundTrip.potHeaterWindow : RequestRoundTrip.Statement (.potHeaterWindow) :=
  fun l k b => requestOf_wireForm l k b _

theorem RequestRoundTrip.potHeaterOnEnd : RequestRoundTrip.Statement (.potHeaterOnEnd) :=
  fun l k b => requestOf_wireForm l k b _

theorem RequestRoundTrip.settleTimerExpiry : RequestRoundTrip.Statement (.settleTimerExpiry) :=
  fun l k b => requestOf_wireForm l k b _

theorem RequestRoundTrip.feedingSecond : RequestRoundTrip.Statement (.feedingSecond) :=
  fun l k b => requestOf_wireForm l k b _

theorem RequestRoundTrip.minuteTimerExpiry : RequestRoundTrip.Statement (.minuteTimerExpiry) :=
  fun l k b => requestOf_wireForm l k b _

theorem RequestRoundTrip.riseTimerExpiry : RequestRoundTrip.Statement (.riseTimerExpiry) :=
  fun l k b => requestOf_wireForm l k b _

theorem RequestRoundTrip.pumpRunTimerExpiry : RequestRoundTrip.Statement (.pumpRunTimerExpiry) :=
  fun l k b => requestOf_wireForm l k b _

theorem RequestRoundTrip.recoveryTimerExpiry : RequestRoundTrip.Statement (.recoveryTimerExpiry) :=
  fun l k b => requestOf_wireForm l k b _

theorem RequestRoundTrip.fanFaultTimerExpiry (f : Fan) : RequestRoundTrip.Statement (.fanFaultTimerExpiry f) :=
  fun l k b => requestOf_wireForm l k b _

theorem RequestRoundTrip.filterCheckTimerExpiry : RequestRoundTrip.Statement (.filterCheckTimerExpiry) :=
  fun l k b => requestOf_wireForm l k b _

theorem RequestRoundTrip.idleTimerExpiry : RequestRoundTrip.Statement (.idleTimerExpiry) :=
  fun l k b => requestOf_wireForm l k b _

theorem RequestRoundTrip.supervisionWindowExpiry : RequestRoundTrip.Statement (.supervisionWindowExpiry) :=
  fun l k b => requestOf_wireForm l k b _

theorem RequestRoundTrip.frameTimerExpiry (l : Link) : RequestRoundTrip.Statement (.frameTimerExpiry l) :=
  fun l k b => requestOf_wireForm l k b _

theorem RequestRoundTrip.badFrame (l : Link) (kind : Option Byte) : RequestRoundTrip.Statement (.badFrame l kind) :=
  fun l k b => requestOf_wireForm l k b _

theorem RequestRoundTrip.busyFrame (l : Link) (kind : Byte) (bad : Bool) : RequestRoundTrip.Statement (.busyFrame l kind bad) :=
  fun l k b => requestOf_wireForm l k b _

theorem RequestRoundTrip.unknownKind (l : Link) (kind : Byte) (body : List Byte) : RequestRoundTrip.Statement (.unknownKind l kind body) :=
  fun l k b => requestOf_wireForm l k b _

theorem RequestRoundTrip.replyEnd (l : Link) : RequestRoundTrip.Statement (.replyEnd l) :=
  fun l k b => requestOf_wireForm l k b _

theorem RequestRoundTrip.readStatus (l : Link) (body : List Byte) : RequestRoundTrip.Statement (.readStatus l body) :=
  fun l k b => requestOf_wireForm l k b _

theorem RequestRoundTrip.readBoard (l : Link) (body : List Byte) : RequestRoundTrip.Statement (.readBoard l body) :=
  fun l k b => requestOf_wireForm l k b _

theorem RequestRoundTrip.readTable (l : Link) (body : List Byte) : RequestRoundTrip.Statement (.readTable l body) :=
  fun l k b => requestOf_wireForm l k b _

theorem RequestRoundTrip.readAlarms (l : Link) (body : List Byte) : RequestRoundTrip.Statement (.readAlarms l body) :=
  fun l k b => requestOf_wireForm l k b _

theorem RequestRoundTrip.ackAlarm (l : Link) (body : List Byte) : RequestRoundTrip.Statement (.ackAlarm l body) :=
  fun l k b => requestOf_wireForm l k b _

theorem RequestRoundTrip.writeConfig (l : Link) (body : List Byte) : RequestRoundTrip.Statement (.writeConfig l body) :=
  fun l k b => requestOf_wireForm l k b _

theorem RequestRoundTrip.writeBank (l : Link) (body : List Byte) : RequestRoundTrip.Statement (.writeBank l body) :=
  fun l k b => requestOf_wireForm l k b _

theorem RequestRoundTrip.setZonesAll (l : Link) (body : List Byte) : RequestRoundTrip.Statement (.setZonesAll l body) :=
  fun l k b => requestOf_wireForm l k b _

theorem RequestRoundTrip.validateBank (l : Link) (body : List Byte) : RequestRoundTrip.Statement (.validateBank l body) :=
  fun l k b => requestOf_wireForm l k b _

theorem RequestRoundTrip.swapBank (l : Link) (body : List Byte) : RequestRoundTrip.Statement (.swapBank l body) :=
  fun l k b => requestOf_wireForm l k b _

theorem RequestRoundTrip.cancelSwap (l : Link) (body : List Byte) : RequestRoundTrip.Statement (.cancelSwap l body) :=
  fun l k b => requestOf_wireForm l k b _

theorem RequestRoundTrip.warmup (l : Link) (body : List Byte) : RequestRoundTrip.Statement (.warmup l body) :=
  fun l k b => requestOf_wireForm l k b _

theorem RequestRoundTrip.start (l : Link) (body : List Byte) : RequestRoundTrip.Statement (.start l body) :=
  fun l k b => requestOf_wireForm l k b _

theorem RequestRoundTrip.stop (l : Link) (body : List Byte) : RequestRoundTrip.Statement (.stop l body) :=
  fun l k b => requestOf_wireForm l k b _

theorem RequestRoundTrip.stopHeat (l : Link) (body : List Byte) : RequestRoundTrip.Statement (.stopHeat l body) :=
  fun l k b => requestOf_wireForm l k b _

theorem RequestRoundTrip.enterMaintenance (l : Link) (body : List Byte) : RequestRoundTrip.Statement (.enterMaintenance l body) :=
  fun l k b => requestOf_wireForm l k b _

theorem RequestRoundTrip.leaveMaintenance (l : Link) (body : List Byte) : RequestRoundTrip.Statement (.leaveMaintenance l body) :=
  fun l k b => requestOf_wireForm l k b _

theorem RequestRoundTrip.forceSignalChannel (l : Link) (body : List Byte) : RequestRoundTrip.Statement (.forceSignalChannel l body) :=
  fun l k b => requestOf_wireForm l k b _

theorem RequestRoundTrip.forceSignalContact (l : Link) (body : List Byte) : RequestRoundTrip.Statement (.forceSignalContact l body) :=
  fun l k b => requestOf_wireForm l k b _

theorem RequestRoundTrip.releaseForce (l : Link) (body : List Byte) : RequestRoundTrip.Statement (.releaseForce l body) :=
  fun l k b => requestOf_wireForm l k b _

theorem RequestRoundTrip.clearTrack (l : Link) (body : List Byte) : RequestRoundTrip.Statement (.clearTrack l body) :=
  fun l k b => requestOf_wireForm l k b _

theorem RequestRoundTrip.refill (l : Link) (body : List Byte) : RequestRoundTrip.Statement (.refill l body) :=
  fun l k b => requestOf_wireForm l k b _

theorem RequestRoundTrip.selectTank (l : Link) (body : List Byte) : RequestRoundTrip.Statement (.selectTank l body) :=
  fun l k b => requestOf_wireForm l k b _

theorem RequestRoundTrip.selectFan (l : Link) (body : List Byte) : RequestRoundTrip.Statement (.selectFan l body) :=
  fun l k b => requestOf_wireForm l k b _

theorem RequestRoundTrip.clearStamps (l : Link) (body : List Byte) : RequestRoundTrip.Statement (.clearStamps l body) :=
  fun l k b => requestOf_wireForm l k b _

theorem RequestRoundTrip.readRetained (l : Link) (body : List Byte) : RequestRoundTrip.Statement (.readRetained l body) :=
  fun l k b => requestOf_wireForm l k b _

theorem RequestRoundTrip.clearResetCauses (l : Link) (body : List Byte) : RequestRoundTrip.Statement (.clearResetCauses l body) :=
  fun l k b => requestOf_wireForm l k b _

theorem RequestRoundTrip.readEvents (l : Link) (body : List Byte) : RequestRoundTrip.Statement (.readEvents l body) :=
  fun l k b => requestOf_wireForm l k b _

theorem RequestRoundTrip.subscribe (l : Link) (body : List Byte) : RequestRoundTrip.Statement (.subscribe l body) :=
  fun l k b => requestOf_wireForm l k b _

theorem RequestRoundTrip.reset (l : Link) (body : List Byte) : RequestRoundTrip.Statement (.reset l body) :=
  fun l k b => requestOf_wireForm l k b _

theorem RequestRoundTrip.assertInhibit (l : Link) (body : List Byte) : RequestRoundTrip.Statement (.assertInhibit l body) :=
  fun l k b => requestOf_wireForm l k b _

theorem RequestRoundTrip.releaseInhibit (l : Link) (body : List Byte) : RequestRoundTrip.Statement (.releaseInhibit l body) :=
  fun l k b => requestOf_wireForm l k b _

theorem RequestRoundTrip.forceSafe (l : Link) (body : List Byte) : RequestRoundTrip.Statement (.forceSafe l body) :=
  fun l k b => requestOf_wireForm l k b _

theorem RequestRoundTrip.releaseSafe (l : Link) (body : List Byte) : RequestRoundTrip.Statement (.releaseSafe l body) :=
  fun l k b => requestOf_wireForm l k b _

theorem RequestRoundTrip.supervise (l : Link) (body : List Byte) : RequestRoundTrip.Statement (.supervise l body) :=
  fun l k b => requestOf_wireForm l k b _

theorem RequestRoundTrip.pushIdentity (l : Link) (body : List Byte) : RequestRoundTrip.Statement (.pushIdentity l body) :=
  fun l k b => requestOf_wireForm l k b _

theorem RequestRoundTrip.flushIdentities (l : Link) (body : List Byte) : RequestRoundTrip.Statement (.flushIdentities l body) :=
  fun l k b => requestOf_wireForm l k b _

theorem RequestRoundTrip.takeExitRecord (l : Link) (body : List Byte) : RequestRoundTrip.Statement (.takeExitRecord l body) :=
  fun l k b => requestOf_wireForm l k b _

theorem RequestRoundTrip.powerOnReset (inputs : ContactInputs) : RequestRoundTrip.Statement (.powerOnReset inputs) :=
  fun l k b => requestOf_wireForm l k b _

theorem RequestRoundTrip.externalReset (inputs : ContactInputs) : RequestRoundTrip.Statement (.externalReset inputs) :=
  fun l k b => requestOf_wireForm l k b _

theorem RequestRoundTrip.commandedReset (inputs : ContactInputs) : RequestRoundTrip.Statement (.commandedReset inputs) :=
  fun l k b => requestOf_wireForm l k b _

theorem RequestRoundTrip.syncByte (l : Link) (c : Byte) (stopBitGood : Bool) : RequestRoundTrip.Statement (.syncByte l c stopBitGood) :=
  fun l k b => requestOf_wireForm l k b _

theorem RequestRoundTrip.runClockTick : RequestRoundTrip.Statement (.runClockTick) :=
  fun l k b => requestOf_wireForm l k b _

theorem RequestRoundTrip.resetPinHeldLow : RequestRoundTrip.Statement (.resetPinHeldLow) :=
  fun l k b => requestOf_wireForm l k b _

end Sys2Proof.Laws
end

