-- ==== Sys2Proof/WellFormed.lean ====
section
/-! DEFINITION. Which commands the rules allow for: the ranges of the items that an arrival or a frame carries. -/

namespace Sys2Proof

/-- R13: a sequence number. -/
def seqOk (seq : Nat) : Bool := decide (1 ≤ seq) && decide (seq ≤ 65535)

/-- R15, R2: a recorded length is a distance on the track. -/
def lengthOk : Option Nat → Bool
  | some l => decide (l < 2 ^ 20)
  | none => true

/-- R173: the length byte counts the kind and the body, and is at most 250. -/
def bodyOk (body : List Byte) : Bool := decide (body.length ≤ 249)

/-- R28, R30: a sample lies within its channel's range. -/
def sampleOk (c : Channel) (value : Nat) : Bool := decide (value ≤ c.max)

/-- R40: a transition changes the reported level, and no level becomes UNKNOWN again. -/
def transitionOk (t : Transition) : Bool := decide (t.level ≠ t.previous) && decide (t.level ≠ .unknown)

/-- R181: a kind byte that names a request. -/
def kindKnown (kind : Byte) : Bool := decide (1 ≤ kind.toNat) && decide (kind.toNat ≤ 0x25)

/-- The channel of a thermal sample (R81). -/
def ThermalSource.channel : ThermalSource → Channel
  | .zone z => z.channel
  | .ambient => .amb

/-- The commands the rules allow for. -/
def wellFormed : Instr → Bool
  | .nozzleReached seq length => seqOk seq && lengthOk length
  | .cellBoundary seq cell => seqOk seq && decide (1 ≤ cell)
  | .nozzleCleared seq | .gateReached seq | .waveEntered seq | .waveLeft seq => seqOk seq
  | .zoneSampleArrival z v _ => sampleOk z.channel v
  | .thermalSampleArrival src v _ => sampleOk src.channel v
  | .ptsSampleArrival v _ => sampleOk .pts v
  | .plvSampleArrival v _ => sampleOk .plv v
  | .wvhSampleArrival v _ => sampleOk .wvh v
  | .dspSampleArrival v _ => sampleOk .dsp v
  | .fdpSampleArrival v _ => sampleOk .fdp v
  | .flpSampleArrival v _ => sampleOk .flp v
  | .safetyContactTransition _ t | .fanRunTransition _ t | .pumpRunTransition t | .wirePresentTransition t
  | .upstreamAvailTransition t => transitionOk t
  | .safeDemand i => decide (i = Alarm.estopOpen) || decide (i = Alarm.supervisionExpired)
  | .gatedArrival n => decide (n ≤ Config.tableCapacity)
  | .unknownKind _ kind body => !kindKnown kind && bodyOk body
  | .readStatus _ b | .readBoard _ b | .readTable _ b | .readAlarms _ b | .ackAlarm _ b | .writeConfig _ b | .writeBank _ b
  | .setZonesAll _ b | .validateBank _ b | .swapBank _ b | .cancelSwap _ b | .warmup _ b | .start _ b | .stop _ b
  | .stopHeat _ b | .enterMaintenance _ b | .leaveMaintenance _ b | .forceSignalChannel _ b | .forceSignalContact _ b
  | .releaseForce _ b | .clearTrack _ b | .refill _ b | .selectTank _ b | .selectFan _ b | .clearStamps _ b
  | .readRetained _ b | .clearResetCauses _ b | .readEvents _ b | .subscribe _ b | .reset _ b | .assertInhibit _ b
  | .releaseInhibit _ b | .forceSafe _ b | .releaseSafe _ b | .supervise _ b | .pushIdentity _ b | .flushIdentities _ b
  | .takeExitRecord _ b => bodyOk b
  | .encoderPulse _ _ | .speedWindowExpiry | .stallTimerExpiry | .passTimerExpiry | .priorityTimerExpiry
  | .conversionComplete _ | .contactPass _ | .alarmRaise _ | .alarmEnd _ | .sprayInhibitChange _ | .preheatInhibitChange _
  | .waveInhibitChange _ | .feedInhibitChange _ | .entryInhibitChange _ | .solderOccupancyArrival _ | .pumpFaultAcknowledged
  | .recordIdleArrival _ | .lineModeArrival _ _ | .activeBankArrival _ _ | .readinessArrival _ | .feederArrival _
  | .tableEmptyArrival | .frameArrival | .zoneHeaterWindow | .zoneHeaterOnEnd _ | .potHeaterWindow | .potHeaterOnEnd
  | .settleTimerExpiry | .feedingSecond | .minuteTimerExpiry | .riseTimerExpiry | .pumpRunTimerExpiry
  | .recoveryTimerExpiry | .fanFaultTimerExpiry _ | .filterCheckTimerExpiry | .idleTimerExpiry | .supervisionWindowExpiry
  | .frameTimerExpiry _ | .badFrame _ _ | .busyFrame _ _ _ | .replyEnd _ | .powerOnReset _ | .externalReset _
  | .commandedReset _ | .syncByte _ _ _ | .runClockTick | .resetPinHeldLow => true

end Sys2Proof
end

