-- ==== Sys2Proof/Tests/Slice0.lean ====
section
/-! SUPPORT. The author's tests: ill-formed commands that each check of `wellFormed` refuses, the manual's worked examples, and for
every statement with hypotheses the states and operands that meet them, clause by clause. -/

-- Many short proofs at once would ask for a thread each; one after another they fit the stack limit.
set_option Elab.async false

namespace Sys2Proof.Tests

open Sys2Proof Sys2Proof.Machine

/-! ### Ill-formed commands -/

theorem test_wf_seq_zero : wellFormed (.gateReached 0) = false ∧ wellFormed (.gateReached 1) = true := by decide
theorem test_wf_seq_high : wellFormed (.waveLeft 65536) = false ∧ wellFormed (.waveLeft 65535) = true := by decide
theorem test_wf_length : wellFormed (.nozzleReached 1 (some 1048576)) = false ∧
    wellFormed (.nozzleReached 1 (some 1048575)) = true := by decide
theorem test_wf_cell_zero : wellFormed (.cellBoundary 1 0) = false ∧ wellFormed (.cellBoundary 1 1) = true := by decide
theorem test_wf_sample : wellFormed (.ptsSampleArrival 4001 .good) = false ∧ wellFormed (.ptsSampleArrival 4000 .good) = true := by
  decide
theorem test_wf_transition : wellFormed (.pumpRunTransition ⟨.closed, .closed, .scan⟩) = false ∧
    wellFormed (.pumpRunTransition ⟨.unknown, .closed, .scan⟩) = false ∧
    wellFormed (.pumpRunTransition ⟨.closed, .unknown, .scan⟩) = true := by decide
theorem test_wf_safe_demand : wellFormed (.safeDemand 1) = false ∧ wellFormed (.safeDemand 36) = true := by decide
theorem test_wf_gated : wellFormed (.gatedArrival 17) = false ∧ wellFormed (.gatedArrival 16) = true := by decide
theorem test_wf_known_kind : wellFormed (.unknownKind .machine 0x25 []) = false ∧
    wellFormed (.unknownKind .machine 0x26 []) = true := by decide
theorem test_wf_body : wellFormed (.readStatus .machine (List.replicate 250 0)) = false ∧
    wellFormed (.readStatus .machine (List.replicate 249 0)) = true := by
  simp only [wellFormed, bodyOk, List.length_replicate]; decide

/-! ### Worked examples of the manual -/

/-- Section 1.2, the trim example: with trim 3, indices 0, 512 and 1,024 are discarded and 1,536 is not. -/
theorem test_trim_example : ([0, 512, 1024, 1536].map fun n : PulseIndex => discards 3 n) = [true, true, true, false] := by decide

/-- Section 2.3, the scaling example: PLV with gain 10,000 and offset −50, then ZS2 with the defaults. -/
theorem test_scaling : ([2560, 10, 4095].map (engineering ⟨10000, -50, 100, 9900⟩ 10000)) = [6200, 0, 9948] ∧
    ([4095, 1536].map (engineering ⟨4000, 0, 0, 3900⟩ 4000)) = [3999, 1500] := by decide

/-- Section 3.1, the spray map example: 4 cells of action 0, 10 of action 1, 2 of action 3, 6 of action 2. -/
theorem test_spray_map : ([0, 3, 4, 13, 14, 15, 16, 21, 22].map (actionAt [⟨4, 0⟩, ⟨10, 1⟩, ⟨2, 3⟩, ⟨6, 2⟩])) =
    [0, 0, 1, 1, 3, 3, 2, 2, 0] := by decide

/-- Section 4.5, runs of the heater law with setpoint 1,500: the five rows of the table. -/
theorem test_heater_law : heaterLaw 512 8 1500 1450 20000 = ⟨180, 20400⟩ ∧ heaterLaw 512 8 1500 1200 60000 = ⟨255, 60000⟩ ∧
    heaterLaw 512 8 1500 1540 1000 = ⟨0, 1000⟩ ∧ heaterLaw 512 8 1500 1500 25728 = ⟨101, 25728⟩ ∧
    heaterLaw 16 200 1500 1490 64000 = ⟨251, 64000⟩ := by
  unfold heaterLaw; simp [candidateIntegral, clampInt, lawOutput, roundDiv, Config.integralMax, Config.dutyMax]

/-- Section 5.4, two ordinary updates and the updates at their limits. -/
theorem test_updates : updatedEstimate 250 1500 205 = 313 ∧ updatedEstimate 313 1500 205 = 372 ∧
    updatedEstimate 1497 1500 205 = 1498 ∧ updatedEstimate 1502 1500 205 = 1501 ∧ updatedEstimate 1000 1006 1024 = 1002 ∧
    updatedEstimate 1006 1000 1024 = 1004 ∧ updatedEstimate 0 4000 1 = 1 ∧ updatedEstimate 4000 0 4095 = 1 ∧
    updatedEstimate 0 4000 4095 = 3999 := by decide

/-- Section 6.4, the compensated level: rows 1 to 5 and 7 of the table. -/
theorem test_level : compensatedLevel { PotItems.default with alpha := 20, dPump := 350 } 6250 2600 false = 6230 ∧
    compensatedLevel { PotItems.default with alpha := 20, dPump := 350 } 6250 2600 true = 6580 ∧
    compensatedLevel { PotItems.default with alpha := 20, dPump := 350 } 6250 2450 false = 6260 ∧
    compensatedLevel { PotItems.default with alpha := 25 } 6250 2502 false = 6249 ∧
    compensatedLevel { PotItems.default with alpha := 25 } 6250 2498 false = 6251 ∧
    compensatedLevel { PotItems.default with alpha := 20, dPump := 350 } 9900 2500 true = 10000 := by decide

/-- R148: a deferred cause waits while a SOLDER board is on the wave, and an ACTIVE state does not fall back to PENDING. -/
theorem test_wave_effect : waveNext .inactive false true true = .pending ∧ waveNext .active false true true = .active ∧
    waveNext .pending true true true = .active ∧ waveNext .pending false false true = .inactive := by decide

/-- R138, R145: DOOR_OPEN (FLUX) is a SAFETY record that does not latch; a returned PROCESS record holds nothing. -/
theorem test_alarm_list : alarmClass 1 = .safety ∧ alarmLatching 1 = false ∧ holdsCauses 17 .returnedUnack = true ∧
    holdsCauses 18 .returnedUnack = false := by decide

/-- R174: the CRC of polynomial 0x1021 from 0xFFFF, over the nine characters whose published check value is 0x29B1. -/
theorem test_crc : checkBytes [0x31, 0x32, 0x33, 0x34, 0x35, 0x36, 0x37, 0x38, 0x39] = [0x29, 0xB1] := by
  have h1 : crcByte 0xFFFF 0x31 = 0xC782 := by decide
  have h2 : crcByte 0xC782 0x32 = 0x3DBA := by decide
  have h3 : crcByte 0x3DBA 0x33 = 0x5BCE := by decide
  have h4 : crcByte 0x5BCE 0x34 = 0x5349 := by decide
  have h5 : crcByte 0x5349 0x35 = 0x4560 := by decide
  have h6 : crcByte 0x4560 0x36 = 0x2EF4 := by decide
  have h7 : crcByte 0x2EF4 0x37 = 0x7718 := by decide
  have h8 : crcByte 0x7718 0x38 = 0xA12B := by decide
  have h9 : crcByte 0xA12B 0x39 = 0x29B1 := by decide
  simp only [checkBytes, crc16, List.foldl, h1, h2, h3, h4, h5, h6, h7, h8, h9]
  decide

/-! ### Witnesses: states and operands that meet the hypotheses of each statement, clause by clause -/

/-- The reset state in a line mode. -/
def inMode (m : LineMode) (ph : ChangeoverPhase := .none) : State :=
  State.reset.setLmc { Lmc.reset with mode := m, phase := ph }

/-- The reset state with the given banks. -/
def inBanks (x y : Bank) : State := State.reset.setLmc { Lmc.reset with banks := ⟨x, y⟩ }

/-- A board with sequence number 1, in slot 0. -/
def aBoard : BoardRecord := newBoard 0 1 none .b0 0 false (250, false)

/-- Another, with sequence number 2, an identity, a length, and bank 1. -/
def bBoard : BoardRecord := { newBoard 1 2 (some [0x41]) .b1 300 true (0, true) with length := some 200 }

/-- The reset state with a board table. -/
def onTrack (bs : List BoardRecord) : State := State.reset.setTrk { Trk.reset with table := bs }

/-- The reset state with exit records that wait in the log. -/
def logged (rs : List ExitRecord) : State := State.reset.setTrk { Trk.reset with exitLog := rs }

/-- The reset state with one link's record. -/
def linkIs (l : Link) (k : LinkState) : State := State.reset.setLink l k

/-- A link in the middle of a reply of a kind. -/
def replying (kind : Byte) (owed : List Owed) : LinkState :=
  { LinkState.reset ⟨true, true, true, true, true⟩ with sending := some ⟨kind, .ok, []⟩, owed := owed }

/-- A link whose receiver is in a state, with the bytes received. -/
def receiving (r : RxState) (bytes : List Byte) : LinkState :=
  { LinkState.reset ⟨true, true, true, true, true⟩ with receiver := { state := r, bytes := bytes, timer := .running 50 } }

/-- The reset state with the pot's record changed. -/
def potIs (f : Pot → Pot) : State := State.reset.setPot (f Pot.reset)

/-- The reset state with the extraction record changed. -/
def exmIs (f : Exm → Exm) : State := State.reset.setExm (f Exm.reset)

/-- The reset state with the flux record changed. -/
def flxIs (f : Flx → Flx) : State := State.reset.setFlx (f Flx.reset)

/-- The reset state with the alarm record `i` in a state. -/
def alarmIs (i : AlarmId) (st : RecordState) : State :=
  State.reset.setAim { Aim.reset with records := Aim.reset.records.set i ⟨st, some 0, some 0, 1⟩ }

theorem witness_StepRunsFrontCommand :
    ({ State.reset with pending := [.runClockTick, .passTimerExpiry] } : State).pending = .runClockTick :: [.passTimerExpiry] := rfl

theorem witness_EveryCommandCompletesInItsParts :
    timeOrReset (.encoderPulse .clear .blocked) = false ∧ timeOrReset (.readStatus .trace []) = false := by decide

theorem witness_PostingsAndRequestsAreTaken :
    State.reset.pending = [] ∧ State.reset.posted = .alarmRaise 23 :: [.alarmRaise 24] ∧
    ({ State.reset with posted := [] } : State).posted = [] ∧ Instr.alarmRaise 24 ∈ State.reset.posted ∧
    Instr.alarmRaise 25 ∉ State.reset.posted ∧ Link.machine ≠ Link.safety ∧
    (State.reset.setLmc { Lmc.reset with supervision := ⟨true, 100, .running 100, false⟩ }).lmc.supervision.running = true := by
  decide

theorem witness_RequestsAreCheckedInOrder :
    requestOf .trace 0x22 [0] = some (.supervise .trace [0]) ∧ requestOf .safety 0x22 [0] = some (.supervise .safety [0]) ∧
    requestOf .machine 0x12 [1] = some (.forceSignalContact .machine [1]) ∧
    ((linkIs .trace (replying 0x23 [])).link .trace).sending ≠ none ∧ (State.reset.link .safety).sending = none ∧
    ((linkIs .trace (replying 0x23 (List.replicate 4 ⟨0, .busy⟩))).link .trace).owed.length = 4 ∧
    (State.reset.link .trace).sending = none ∧ Link.trace ∉ permitted 0x22 ∧ Link.safety ∈ permitted 0x22 ∧
    bodyLength? 0x22 = some 2 ∧ ([0] : List Byte).length ≠ 2 := by decide

theorem witness_CharactersMoveTheReceiver :
    (State.reset.link .machine).receiver.state = .hunt ∧
    ((linkIs .safety (receiving .length [])).link .safety).receiver.state = .length ∧
    1 ≤ (1 : Byte).toNat ∧ (250 : Byte).toNat ≤ 250 ∧ (0 : Byte).toNat = 0 ∧ 251 ≤ (251 : Byte).toNat ∧
    ((linkIs .trace (receiving (.body 3) [1, 1])).link .trace).receiver.state = .body 3 ∧
    ((linkIs .trace (receiving (.body 3) [1, 1])).link .trace).receiver.bytes.length < 3 ∧
    ((linkIs .trace (receiving (.body 3) [1, 1, 0])).link .trace).receiver.bytes.length = 3 ∧
    frameGood ([1, 1, 0] ++ [0]) = false := by
  have h1 : crcByte 0xFFFF 1 = 0xF1D1 := by decide
  have h2 : crcByte 0xF1D1 1 = 0x3E1F := by decide
  have h : frameGood ([1, 1, 0] ++ [0]) = false := by
    simp only [frameGood, checkBytes, crc16, List.cons_append, List.nil_append, List.length_cons, List.length_nil, List.take,
      List.foldl, h1, h2]
    decide
  exact ⟨by decide, by decide, by decide, by decide, by decide, by decide, by decide, by decide, by decide, h⟩

theorem witness_FrameIsReceivedWhole :
    (List.replicate 249 (0 : Byte)).length ≤ 249 ∧ ([] : List Byte).length ≤ 249 ∧
    (State.reset.link .trace).receiver.state = .hunt ∧
    ((linkIs .safety (replying 0x04 [])).link .safety).receiver.state = .hunt ∧
    ((linkIs .safety (replying 0x04 [])).link .safety).sending ≠ none ∧
    (replying 0x04 (List.replicate 3 ⟨0, .busy⟩)).owed.length < 4 ∧
    ¬(replying 0x04 (List.replicate 4 ⟨0, .busy⟩)).owed.length < 4 := by
  simp only [List.length_replicate]; decide

theorem witness_OtherFramesAndReplyEnds :
    ((linkIs .machine (replying 0x1D [])).link .machine).sending ≠ none ∧
    (State.reset.link .machine).sending = none ∧ Reply.resets .machine ⟨0x1D, .ok, []⟩ = true ∧
    ((linkIs .machine (replying 0x1D [])).link .machine).sending = some ⟨0x1D, .ok, []⟩ ∧
    Reply.resets .safety ⟨0x1D, .ok, []⟩ = false ∧ Reply.resets .machine ⟨0x1D, .frameBad, []⟩ = false ∧
    ((linkIs .trace (replying 0x01 [])).link .trace).owed = [] ∧
    ((linkIs .trace (replying 0x01 [⟨0, .frameBad⟩])).link .trace).owed = ⟨0, .frameBad⟩ :: [] ∧
    ((linkIs .machine (receiving .length [])).link .machine).receiver.timer.isRunning = true := by decide

theorem witness_ReadsAnswerAndChangeNothing :
    (∀ l, (State.reset.link l).sending = none) ∧ Link.safety ≠ .machine ∧ Link.safety ≠ .trace ∧ Link.trace ≠ .safety ∧
    (36 : Byte).toNat ≤ 36 ∧ 37 ≤ (37 : Byte).toNat ∧
    (onTrack [aBoard, bBoard]).trk.board? (256 * (0 : Byte).toNat + (2 : Byte).toNat) = some bBoard ∧
    (onTrack [aBoard]).trk.board? 2 = none ∧
    (logged [aBoard.exitRecord .lost 8, bBoard.exitRecord .normal 7]).trk.board? 2 = none ∧
    (logged [aBoard.exitRecord .lost 8, bBoard.exitRecord .normal 7]).trk.exitLog.find? (fun r => r.seq == 2) =
      some (bBoard.exitRecord .normal 7) ∧
    State.reset.trk.exitLog.find? (fun r => r.seq == 2) = none ∧
    (onTrack []).trk.board? 2 = none ∧
    (State.reset.setTrk (Trk.reset.removeOldest (bBoard.exitRecord .normal 7) [])).trk.exitLog.find? (fun r => r.seq == 2) = none ∧
    (State.reset.setTrk (Trk.reset.removeOldest (bBoard.exitRecord .normal 7) [])).trk.removed.find? (fun r => r.seq == 2) =
      some (bBoard.exitRecord .normal 7) ∧
    State.reset.lmc.idleTimer = .stopped ∧ State.reset.exm.recoveryTimer = .stopped ∧
    (exmIs fun e => { e with filterTimer := .stopped }).exm.filterTimer = .stopped ∧ 10000 ≤ 10000 ∧
    State.reset.exm.filterTimer = .running 600000 ∧ 600000 ≤ State.reset.exm.filterInterval ∧
    State.reset.exm.fanTimers.fan .b = .stopped ∧ State.reset.exm.fanTimers.fan .a = .running 5000 ∧
    60000 ≤ (1 : Nat) * 60000 := by
  refine ⟨fun l => by cases l <;> rfl, ?_⟩; decide

theorem witness_AcknowledgementsFollowTheirChecks :
    (State.reset.link .safety).sending = none ∧ (36 : AlarmId).val = (36 : Byte).toNat ∧ 37 ≤ (37 : Byte).toNat ∧ alarmClass 3 = .safety ∧ alarmClass 18 ≠ .safety ∧
    (alarmIs 0 .idle).aim.records[(0 : AlarmId)].state = .idle ∧
    (alarmIs 0 .activeAck).aim.records[(0 : AlarmId)].state = .activeAck ∧
    (alarmIs Alarm.pumpFault .activeUnack).aim.records[Alarm.pumpFault].state = .activeUnack ∧
    (alarmIs Alarm.potLevelHigh .returnedUnack).aim.records[Alarm.potLevelHigh].state = .returnedUnack ∧
    (alarmIs Alarm.feedRunaway .returnedUnack).aim.records[Alarm.feedRunaway].state = .returnedUnack := by decide

theorem witness_AssertionsSetOneFlag :
    (State.reset.link .safety).sending = none ∧ 5 ≤ (5 : Byte).toNat ∧ Inhibit.entry.code.toNat = 4 ∧
    State.reset.aim.asserted.get .wave = false ∧ State.reset.aim.asserted.get .wave ≠ true := by decide

/-- The trim at its limit of 127 and above it, and a nozzle position that breaks the geometry's order. -/
theorem witness_WriteConfigIsCheckedAndStored :
    (State.reset.link .machine).sending = none ∧ configBody [0, 5, 0, 0, 127] = some (.geometry .trim, 127) ∧
    (inMode .idle).lmc.mode ≠ .standby ∧ (inMode .idle).lmc.mode ≠ .maintenance ∧
    (inMode .maintenance).lmc.mode = .maintenance ∧ (onTrack [aBoard]).trk.table ≠ [] ∧ State.reset.trk.table = [] ∧
    (ConfigItem.geometry .trim).inRange 128 = false ∧ (ConfigItem.geometry .trim).inRange 127 = true ∧
    State.reset.configConflict (.geometry .pFlux) 1600 = some .geometryInvalid ∧
    State.reset.configConflict (.geometry .trim) 127 = none ∧ configBody [0, 5, 0, 0] = none ∧
    256 * (0 : Byte).toNat + (6 : Byte).toNat ∉ [5, 11, 31, 60, 62, 65, 98, 105, 107, 123, 159] ∧
    configItem? 5 255 0 = none ∧ ConfigItem.tankLow.inRange 1 = true := by decide

theorem witness_BankWritesAreCheckedAndStored :
    (State.reset.link .machine).sending = none ∧ bankBody [1, 0, 164, 17, 1, 0x0B, 0xB8] = some (.b1, .number .hDip 3000) ∧
    bankBody [0, 0, 164, 9, 0, 1, 255, 7] = some (.b0, .map [⟨255, 7⟩]) ∧
    bankBody [1, 0, 164, 8, 7, 1, 255, 0, 1] = some (.b1, .action 7 ⟨true, 255, false, true⟩) ∧ bankBody [] = none ∧
    2 ≤ (2 : Byte).toNat ∧ 256 * (0 : Byte).toNat + (165 : Byte).toNat ≠ 164 ∧ 18 ≤ (18 : Byte).toNat := by decide

theorem witness_SetZonesAll : 256 * (1 : Byte).toNat + (0xF3 : Byte).toNat < 500 ∧
    500 ≤ 256 * (1 : Byte).toNat + (0xF4 : Byte).toNat ∧ 256 * (0x0D : Byte).toNat + (0xAC : Byte).toNat ≤ 3500 ∧
    3500 < 256 * (0x0D : Byte).toNat + (0xAD : Byte).toNat ∧ (State.reset.link .machine).sending = none ∧
    ((inMode .changeover .drainOld).lmc.mode = .changeover ∧ (inMode .changeover .drainOld).lmc.phase = .drainOld) ∧
    ¬((inMode .changeover .retarget).lmc.mode = .changeover ∧ (inMode .changeover .retarget).lmc.phase = .drainOld) ∧
    (∃ r ∈ (onTrack [aBoard, bBoard]).trk.table, r.bank = .b1) ∧ (∀ r ∈ (onTrack [aBoard]).trk.table, r.bank ≠ .b1) ∧
    State.reset.lmc.active = .b0 ∧ State.reset.lmc.active.other = .b1 := by decide

theorem witness_BankKept : ∀ i, Instr.encoderPulse .clear .clear ≠ .powerOnReset i ∧
    Instr.encoderPulse .clear .clear ≠ .externalReset i ∧ Instr.encoderPulse .clear .clear ≠ .commandedReset i :=
  fun _ => ⟨nofun, nofun, nofun⟩

/-- Each of the four conditions at the value that breaks it, beside the starting values, which meet all four. -/
theorem witness_BanksAreValidatedAndSwapped :
    (State.reset.link .machine).sending = none ∧ ((inMode .production).link .machine).sending = none ∧
    ((inMode .changeover).link .machine).sending = none ∧ (inBanks .empty .empty).lmc.bank .b1 = .empty ∧
    (inBanks .empty (.valid .starting)).lmc.bank .b1 = .valid .starting ∧
    (inBanks .empty (.unchecked .starting)).lmc.bank .b1 = .unchecked .starting ∧
    ({ BankItems.starting with minLength := 1201 }).maxLength < ({ BankItems.starting with minLength := 1201 }).minLength ∧
    (({ BankItems.starting with potSetpoint := 2249 }).potSetpoint : Int) - 50 < PotItems.default.pumpSafe ∧
    ({ BankItems.starting with hDip := 1000 }).hLo ≤ ({ BankItems.starting with hDip := 1000 }).hDip ∧
    ({ BankItems.starting with dipSpeed := 700 }).waveSpeed ≤ ({ BankItems.starting with dipSpeed := 700 }).dipSpeed ∧
    ¬(BankItems.starting.maxLength < BankItems.starting.minLength) ∧
    ¬((BankItems.starting.potSetpoint : Int) - BankItems.starting.potBand < PotItems.default.pumpSafe) ∧
    ¬(BankItems.starting.hLo ≤ BankItems.starting.hDip) ∧ ¬(BankItems.starting.waveSpeed ≤ BankItems.starting.dipSpeed) ∧
    (inMode .safe).lmc.mode ∈ [LineMode.drain, .safe, .maintenance] ∧ (inMode .changeover).lmc.mode = .changeover ∧
    (inMode .production).lmc.mode ∉ [LineMode.drain, .safe, .maintenance, .changeover] ∧
    (inMode .standby).lmc.mode ≠ .production ∧ (inMode .changeover .drainOld).lmc.phase = .drainOld ∧
    (inMode .changeover .retarget).lmc.phase ≠ .drainOld := by decide

theorem witness_AModeChangeIsHandedOn : (inMode .maintenance).lmc.mode = .maintenance ∧ (inMode .idle).lmc.mode ≠ .maintenance := by
  decide

theorem witness_WarmupAndStartAreChecked :
    (State.reset.link .machine).sending = none ∧ (inMode .production).lmc.mode ∉ [LineMode.standby, .idle, .setback] ∧
    (inMode .standby).lmc.mode ∉ [LineMode.idle, .setback] ∧ (inMode .standby).lmc.mode ∈ [LineMode.standby, .idle, .setback] ∧
    (inMode .setback).lmc.mode ∈ [LineMode.idle, .setback] ∧ (∀ i, State.reset.lmc.bank .b0 ≠ .valid i) ∧
    (inBanks (.valid .starting) .empty).lmc.bank .b0 = .valid .starting ∧ State.reset.trk.trackUnknown = true ∧
    (State.reset.setTrk { Trk.reset with trackUnknown := false }).trk.trackUnknown = false := by
  refine ⟨?_, ?_, ?_, ?_, ?_, fun _ => nofun, ?_, ?_, ?_⟩ <;> decide

theorem witness_StopsAndMaintenanceGoByTheMode :
    ((inMode .maintenance).link .machine).sending = none ∧ ((inMode .production).link .machine).sending = none ∧ (inMode .maintenance).lmc.mode = .maintenance ∧
    (inMode .standby).lmc.mode ≠ .maintenance := by decide

theorem witness_SafeIsEnteredAndReleased : (State.reset.link .safety).sending = none ∧ ((inMode .safe).link .safety).sending = none := by decide

theorem witness_SupervisionIsKept :
    (State.reset.link .safety).sending = none ∧ 256 * (0 : Byte).toNat + (99 : Byte).toNat < 100 ∧ 100 ≤ 256 * (0 : Byte).toNat + (100 : Byte).toNat ∧
    256 * (0x13 : Byte).toNat + (0x88 : Byte).toNat ≤ 5000 ∧ 5000 < 256 * (0x13 : Byte).toNat + (0x89 : Byte).toNat ∧
    State.reset.lmc.supervision.running = false ∧ State.reset.lmc.supervision.timer.isRunning = false ∧
    (State.reset.setLmc { Lmc.reset with supervision := ⟨true, 100, .running 100, true⟩ }).lmc.supervision.running = true ∧
    (State.reset.setLmc { Lmc.reset with supervision := ⟨true, 100, .running 100, true⟩ }).lmc.supervision.timer.isRunning = true := by
  decide

theorem witness_LineModeArrivalsAreActedOn :
    (⟨⟨true, true, true⟩, true, .on, true, false⟩ : View).ready = true ∧ Lmc.reset.view.ready = false ∧
    (inMode .warmup).lmc.mode = .warmup ∧ State.reset.lmc.awaited = [] ∧
    ({ Lmc.reset.view with waveBankActive := false } : View).waveBankActive = false ∧
    Instr.activeBankArrival .znc .b1 ∉ State.reset.lmc.awaited ∧
    Instr.activeBankArrival .znc .b1 ∈ (State.swapBanks .immediate State.reset).lmc.awaited ∧
    (∃ bank, Instr.activeBankArrival .pot bank ∈ (State.swapBanks .immediate State.reset).lmc.awaited) ∧
    (∀ bank, Instr.activeBankArrival .pot bank ∉ State.reset.lmc.awaited) ∧
    (inMode .changeover .retarget).lmc.mode = .changeover ∧ (inMode .changeover .retarget).lmc.phase = .retarget ∧
    (inMode .idle).lmc.mode ≠ .warmup ∧ ¬((inMode .idle).lmc.mode = .changeover ∧ (inMode .idle).lmc.phase = .retarget) ∧
    (State.reset.setLmc { Lmc.reset with mode := .idle, idleTimer := .running 1 }).lmc.idleTimer.isRunning = true ∧
    ¬((inMode .idle).lmc.mode = .idle ∧ (inMode .idle).lmc.idleTimer.isRunning = true) := by
  refine ⟨?_, ?_, ?_, ?_, ?_, ?_, ?_, ⟨.b1, ?_⟩, (by intro b; simp [State.reset, Lmc.reset]), ?_, ?_, ?_, ?_, ?_, ?_⟩ <;> decide

theorem witness_ZonesTakeTheirSetpoints :
    LineMode.idle ∈ [LineMode.warmup, .production, .changeover, .drain, .idle] ∧
    LineMode.maintenance ∈ [LineMode.standby, .safe, .maintenance] ∧
    (Instr.lineModeArrival .znc .setback = .lineModeArrival .znc .setback) ∧
    ((∃ b, Instr.activeBankArrival .znc .b1 = .activeBankArrival .znc b) ∧ LineMode.standby = State.reset.lmc.mode) ∧
    ({ ZoneRec.reset with state := .fault } : ZoneRec).state = .fault ∧ ZoneRec.reset.state ≠ .fault ∧
    zoneEffective .standby (.valid .starting) .z1 = 0 ∧ zoneEffective .setback (.valid .starting) .z1 = 900 ∧
    (∀ b, Instr.activeBankArrival .znc b ∉ State.reset.lmc.awaited) ∧
    Instr.activeBankArrival .znc .b1 ∈ (State.swapBanks .immediate State.reset).lmc.awaited ∧
    ({ ZoneRec.reset with state := .ready } : ZoneRec).state ≠ .off ∧ isQualified .ready = true ∧
    isQualified .heating = false := by
  refine ⟨?_, ?_, rfl, ⟨⟨.b1, rfl⟩, rfl⟩, ?_, ?_, ?_, ?_, (by intro b; simp [State.reset, Lmc.reset]), ?_⟩ <;> decide

theorem witness_ForcesAreSetAndReleased :
    ((inMode .maintenance).link .machine).sending = none ∧ (inMode .standby).lmc.mode ≠ .maintenance ∧
    (inMode .maintenance).lmc.mode = .maintenance ∧ 10 ≤ (10 : Byte).toNat ∧ Channel.dsp.index.val = (9 : Byte).toNat ∧
    256 * (0x07 : Byte).toNat + (0xD0 : Byte).toNat ≤ Channel.dsp.max ∧
    Channel.dsp.max < 256 * (0x07 : Byte).toNat + (0xD1 : Byte).toNat ∧ Contact.upstreamAvail.index.val = (9 : Byte).toNat ∧
    levelOf 2 = some .closed ∧ (0 : Byte) ≠ 1 ∧ (0 : Byte) ≠ 2 ∧ 3 ≤ (3 : Byte).toNat ∧ (2 : Byte).toNat ≤ 2 ∧
    (∀ body ∈ ([[], [2, 0, 0], [2, 0, 0, 0], [0, 0, 0], [1, 0, 1, 0]] : List (List Byte)),
      (∀ n hi lo : Byte, body ≠ [0, n, hi, lo]) ∧ (∀ n v : Byte, body ≠ [1, n, v])) := by
  refine ⟨by decide, by decide, by decide, by decide, by decide, by decide, by decide, by decide, by decide, by decide, by decide,
    by decide, by decide, ?_⟩
  simp

theorem witness_ConversionsAreMadeAndQualified :
    State.reset.saq.converting = some .wvh ∧
    (State.reset.setSaq { Saq.reset with converting := none }).saq.converting = none ∧ Channel.dsp ≠ .wvh ∧
    engineering ⟨10000, -50, 100, 9900⟩ 10000 (4095 : Code) = 9948 ∧ (100 : Nat) ≤ 9948 ∧
    engineering ⟨4000, 0, 0, 3900⟩ 4000 (4095 : Code) = 3999 ∧ 3900 < 3999 ∧
    ({ ChannelRec.reset with state := .faulted, goodRun := 1 } : ChannelRec).goodRun + 1 < 3 ∧
    3 ≤ ({ ChannelRec.reset with state := .faulted, goodRun := 2 } : ChannelRec).goodRun + 1 ∧
    ChannelRec.reset.state ≠ .faulted ∧ ({ ChannelRec.reset with state := .good } : ChannelRec).state = .good ∧
    ChannelRec.reset.state = .initial ∧ ({ ChannelRec.reset with state := .suspect, badRun := 1 } : ChannelRec).badRun + 1 < 3 ∧
    3 ≤ ({ ChannelRec.reset with state := .suspect, badRun := 2 } : ChannelRec).badRun + 1 ∧
    ((((0 : Code).toNat * 10000 + 2048) / 4096 : Nat) : Int) + (-1) < 0 ∧
    ((4000 : Nat) : Int) < ((((4095 : Code).toNat * 4000 + 2048) / 4096 : Nat) : Int) + 2 := by decide

theorem witness_ContactPassesAcceptLevels :
    (State.reset.saq.contact .pumpRun).accepted = .unknown ∧
    (∀ n, n ∈ [1, 2] →
      (({ accepted := .closed, count := n, forced := none } : ContactRec).accepted ≠ .unknown ∧
        ({ accepted := .closed, count := n, forced := none } : ContactRec).accepted ≠ .opened)) ∧ 1 < 2 ∧ 2 ≤ 2 := by decide

theorem witness_EventsAreQueuedReadAndShown :
    (State.reset.link .trace).sending = none ∧ (0x1F : Byte).toNat < 32 ∧ 32 ≤ (0x20 : Byte).toNat ∧
    State.reset.resetPin = .high ∧ (State.reset.setResetPin .low).resetPin ≠ .high := by decide

theorem witness_IdentitiesAndExitRecordsAreTaken :
    (State.reset.link .trace).sending = none ∧ ([0x1F] : List Byte).length < 256 ∧
    ¬(1 ≤ ([] : List Byte).length ∧ ([] : List Byte).length ≤ 20 ∧ ∀ c ∈ ([] : List Byte), 0x20 ≤ c.toNat ∧ c.toNat ≤ 0x7E) ∧
    ¬(∀ c ∈ ([0x7F] : List Byte), 0x20 ≤ c.toNat ∧ c.toNat ≤ 0x7E) ∧ (List.replicate 20 (0x7E : Byte)).length ≤ 20 ∧
    (∀ c ∈ ([0x20, 0x7E] : List Byte), 0x20 ≤ c.toNat ∧ c.toNat ≤ 0x7E) ∧
    8 ≤ (State.reset.setTrk { Trk.reset with identities := List.replicate 8 [0x41] }).trk.identities.length ∧
    State.reset.trk.identities.length < 8 ∧ State.reset.trk.exitLog = [] ∧
    (logged [aBoard.exitRecord .lost 9]).trk.exitLog = aBoard.exitRecord .lost 9 :: [] ∧
    (∀ body ∈ ([[], [2, 0x41], [1, 0x41, 0x42]] : List (List Byte)),
      ∀ (n : Byte) (cs : List Byte), cs.length = n.toNat → body ≠ n :: cs) := by
  refine ⟨by decide, by decide, by decide, by decide, by decide, by decide, by decide, by decide, by decide, by decide, ?_⟩
  intro body hb n cs h e
  subst e
  simp only [List.mem_cons, List.cons.injEq, List.not_mem_nil, or_false, reduceCtorEq, false_or] at hb
  rcases hb with ⟨rfl, rfl⟩ | ⟨rfl, rfl⟩ <;> simp at h

theorem witness_ResetsRestoreEveryBlock :
    State.reset.resetPin ≠ .lowSincePowerOn ∧ (State.reset.setResetPin .lowSincePowerOn).resetPin = .lowSincePowerOn ∧
    ∃ b, (linkIs .machine (replying 0x1D [])).links.machine.sending = some ⟨0x1D, .ok, b⟩ := ⟨nofun, rfl, [], rfl⟩

theorem witness_ResetRequestsThePinAndTheReply :
    (State.reset.link .machine).sending = none ∧ (¬∃ b, State.reset.links.machine.sending = some ⟨0x1D, .ok, b⟩) ∧
    (linkIs .machine (replying 0x1D [])).links.machine.sending = some ⟨0x1D, .ok, []⟩ :=
  ⟨rfl, (by rintro ⟨b, h⟩; cases h), rfl⟩

theorem witness_PulsesAreCountedButForTheTrim : 127 ≤ 127 ∧
    discards (State.reset.setTrk { Trk.reset with geometry := { Geometry.default with trim := 1 } }).trk.geometry.trim
      State.reset.trk.rawIndex = true ∧
    discards State.reset.trk.geometry.trim State.reset.trk.rawIndex = false := by decide

theorem witness_EyesAcceptAtTheFourthCount :
    (⟨.clear, .clear, 0, 0⟩ : EyeFilter).accepted = EyeLevel.accepted .clear ∧
    EyeFilter.reset.accepted ≠ EyeLevel.accepted .blocked ∧ EyeFilter.reset.count = 0 ∧
    (⟨.blocked, .clear, 1, 9⟩ : EyeFilter).accepted ≠ EyeLevel.accepted .clear ∧ (⟨.blocked, .clear, 2, 9⟩ : EyeFilter).count ≤ 2 ∧
    (⟨.blocked, .clear, 3, 9⟩ : EyeFilter).candidate = .clear ∧
    discards State.reset.trk.geometry.trim State.reset.trk.rawIndex = false := by decide

/-- READY high, an unrequested entry with 15 boards in the table, and the table full. -/
theorem witness_LeadingEdgesAdmitBoards :
    (State.reset.setTrk { Trk.reset with entryOcc := .ignored }).trk.entryOcc ≠ .none ∧ State.reset.trk.entryOcc = .none ∧
    (State.reset.setTrk { Trk.reset with ready := true }).trk.ready = true ∧
    (onTrack (List.replicate 15 aBoard)).trk.table.length < 16 ∧ State.reset.trk.table = [] ∧
    (onTrack (List.replicate 15 aBoard)).trk.table.length + (onTrack (List.replicate 15 aBoard)).trk.exitLog.length < 32 ∧
    ¬((onTrack (List.replicate 16 aBoard)).trk.table.length < 16 ∧
      (onTrack (List.replicate 16 aBoard)).trk.table.length + (onTrack (List.replicate 16 aBoard)).trk.exitLog.length < 32) ∧
    (onTrack (List.replicate 16 aBoard)).trk.ready = false := by decide

/-- A count that the trim does not discard; the five entry occupants; a board at and beyond the overrun travel. -/
theorem witness_TheEntryEyeMeasuresBoards :
    discards State.reset.trk.geometry.trim State.reset.trk.rawIndex = false ∧ State.reset.trk.entryOcc = .none ∧
    (State.reset.setTrk { Trk.reset with entryOcc := .untracked }).trk.entryOcc = .untracked ∧
    ((onTrack [aBoard]).setTrk { Trk.reset with table := [aBoard], entryOcc := .board 1 }).trk.entryOcc = .board 1 ∧
    (onTrack [aBoard]).trk.board? 1 = some aBoard ∧ aBoard.phase = .entering ∧
    (onTrack [{ aBoard with phase := .inTrack }]).trk.board? 1 = some { aBoard with phase := .inTrack } ∧
    1240 < ((1241 : Position) - aBoard.lead).toNat ∧ ¬1240 < ((1240 : Position) - aBoard.lead).toNat ∧
    State.reset.trk.entryEye.count = 0 ∧ (⟨.blocked, .clear, 1, 9⟩ : EyeFilter).count ≠ 0 := by decide

/-- A board at both ends of the exit window and a count below it, and beyond the window and the held eye's travel. -/
theorem witness_TheExitEyeMatchesBoards :
    (∀ g, g = Geometry.default → g.inExitWindow (g.pExit - g.tolerance) = true ∧ g.inExitWindow (g.pExit + g.tolerance) = true ∧
      g.inExitWindow (g.pExit - g.tolerance - 1) = false ∧ g.inExitWindow (g.pExit + g.tolerance + 1) = false) ∧
    (onTrack [aBoard, { bBoard with phase := .inTrack }]).trk.table.find? (fun b => b.phase == .inTrack) =
      some { bBoard with phase := .inTrack } ∧
    (onTrack [aBoard]).trk.table.find? (fun b => b.phase == .inTrack) = none ∧
    (∀ b ∈ (onTrack [aBoard]).trk.table, b.phase ≠ .inTrack) ∧ State.reset.trk.exitOcc = .none ∧
    (∀ o, (State.reset.setTrk { Trk.reset with exitOcc := o }).trk.exitOcc = o) ∧ bBoard.decision = .pending ∧
    (State.leaveTable 1 .lost (onTrack [aBoard])).trk.table = [] ∧
    (State.leaveTable 1 .lost (onTrack [aBoard, bBoard])).trk.table ≠ [] := by
  refine ⟨fun g h => by subst h; decide, ?_, ?_, ?_, ?_, fun _ => rfl, ?_, ?_, ?_⟩ <;> decide

theorem witness_BoardsLeaveThroughTheLog :
    (onTrack [aBoard, bBoard]).trk.board? 2 = some bBoard ∧ ((onTrack [aBoard]).link .machine).sending = none ∧
    (inMode .production).lmc.mode = .production ∧ (inMode .safe).lmc.mode ≠ .production ∧ (inMode .safe).lmc.mode ≠ .changeover ∧
    ((onTrack [aBoard]).setTrk { (onTrack [aBoard]).trk with exitOcc := .board 1 }).trk.exitOcc = .board aBoard.seq ∧
    (∀ q, (onTrack [aBoard]).trk.exitOcc ≠ .board q) ∧
    (potIs fun p => { p with onWave := [1] }).pot.onWave ≠ [] ∧ State.reset.pot.onWave = [] ∧
    ((onTrack [aBoard, bBoard]).trk.table.map (·.seq)).Nodup := by
  refine ⟨?_, ?_, ?_, ?_, ?_, ?_, fun _ => nofun, ?_, ?_, ?_⟩ <;> decide

theorem witness_StallAndReadyFollowTheirRules :
    State.reset.trk.stallTimer.isRunning = true ∧
    (State.reset.setTrk { Trk.reset with stallTimer := .expired }).trk.stallTimer.isRunning = false ∧
    ((onTrack [aBoard]).trk.table ≠ [] ∧ (inMode .drain).lmc.mode ∈ [LineMode.production, .changeover, .drain] ∧
      State.reset.trk.stallPresent = false) ∧
    ¬(State.reset.trk.table ≠ [] ∧ State.reset.lmc.mode ∈ [LineMode.production, .changeover, .drain] ∧
      State.reset.trk.stallPresent = false) := by decide

theorem witness_RunsCoverTheirCells :
    (([⟨4, 0⟩, ⟨10, 1⟩] : List Run).map (·.cells)).sum ≤ 14 ∧ 15 < (([⟨4, 0⟩, ⟨10, 1⟩] : List Run).map (·.cells)).sum + 2 ∧
    mapBody [1, 255, 7] = some [⟨255, 7⟩] := by decide

/-- A dose equal to the active tank, one above it, and one above both. -/
theorem witness_ADrawTakesItsDose :
    5 ≤ (flxIs fun f => { f with amounts := ⟨5, 6⟩ }).flx.amounts.tank .t0 ∧
    (flxIs fun f => { f with amounts := ⟨5, 6⟩ }).flx.amounts.tank .t0 < 6 ∧
    0 < (flxIs fun f => { f with amounts := ⟨5, 6⟩ }).flx.amounts.tank Tank.t0.other ∧
    6 ≤ (flxIs fun f => { f with amounts := ⟨5, 6⟩ }).flx.amounts.tank Tank.t0.other ∧
    (flxIs fun f => { f with amounts := ⟨5, 6⟩ }).flx.amounts.tank Tank.t0.other < 7 ∧
    State.reset.flx.amounts.tank .t0 < 1 ∧ State.reset.flx.amounts.tank Tank.t0.other = 0 ∧
    State.reset.rtr.amounts = State.reset.flx.amounts ∧ State.reset.rtr.activeTank = State.reset.flx.activeTank ∧
    ((flxIs fun f => { f with amounts := ⟨5, 6⟩ }).draw 5).2 = true := by decide

theorem witness_RefillsAndSelectionsSetTheTanks :
    (State.reset.link .machine).sending = none ∧ 2 ≤ (2 : Byte).toNat ∧ Tank.t1.code = 1 ∧
    16777216 * (2 : Byte).toNat + 65536 * (0xFA : Byte).toNat + 256 * (0xF0 : Byte).toNat + (0x80 : Byte).toNat ≤ 50000000 ∧
    50000000 < 16777216 * (2 : Byte).toNat + 65536 * (0xFA : Byte).toNat + 256 * (0xF0 : Byte).toNat + (0x81 : Byte).toNat ∧
    0 < (flxIs fun f => { f with amounts := ⟨0, 1⟩ }).flx.amounts.tank .t1 ∧ State.reset.flx.amounts.tank .t1 ≤ 0 ∧
    (∃ b ∈ (onTrack [{ aBoard with fluxStatus := .spraying }]).trk.table, b.fluxStatus = .spraying) ∧
    (∀ b ∈ (onTrack [aBoard]).trk.table, b.fluxStatus ≠ .spraying) ∧ Tank.t0 = State.reset.flx.activeTank ∧
    Tank.t1 ≠ State.reset.flx.activeTank := by decide

theorem witness_CellsAreTreatedByTheFirstCase :
    (onTrack [aBoard]).trk.board? 2 = none ∧ (onTrack [aBoard]).trk.board? 1 = some aBoard ∧
    (flxIs fun f => { f with board := some 1 }).flx.board = some 1 ∧ State.reset.flx.board ≠ some 1 ∧
    ((onTrack [aBoard]).applyCell aBoard 0).flx.outcome ≠ .sprayed ∧
    ((onTrack [aBoard]).applyCell aBoard 0).flx.outcome ≠ .empty := by decide

/-- Spray ON in PRODUCTION: a filled tank sprays, and two empty ones leave the cell EMPTY. -/
theorem witness_CellsSprayed :
    ((((inMode .production).setLmc { Lmc.reset with mode := .production, banks := ⟨.valid { BankItems.starting with
      actions := #v[⟨true, 1, false, false⟩, ⟨true, 1, false, false⟩, ⟨true, 1, false, false⟩, ⟨true, 1, false, false⟩,
        ⟨true, 1, false, false⟩, ⟨true, 1, false, false⟩, ⟨true, 1, false, false⟩, ⟨true, 1, false, false⟩] }, .empty⟩ }).setFlx
      { Flx.reset with mode := .production, amounts := ⟨1, 0⟩ }).applyCell aBoard 0).flx.outcome = .sprayed ∧
    ((((inMode .production).setLmc { Lmc.reset with mode := .production, banks := ⟨.valid { BankItems.starting with
      actions := #v[⟨true, 1, false, false⟩, ⟨true, 1, false, false⟩, ⟨true, 1, false, false⟩, ⟨true, 1, false, false⟩,
        ⟨true, 1, false, false⟩, ⟨true, 1, false, false⟩, ⟨true, 1, false, false⟩, ⟨true, 1, false, false⟩] }, .empty⟩ }).setFlx
      { Flx.reset with mode := .production }).applyCell aBoard 0).flx.outcome = .empty := by decide

/-- R54: a cell applied between AIM's change of the SPRAY inhibit and FLX's taking of it is applied with the old state. -/
theorem test_cell_before_inhibit :
    ((((alarmIs 1 .activeUnack).setLmc { Lmc.reset with mode := .production, banks := ⟨.valid { BankItems.starting with
      actions := Vector.replicate 8 ⟨true, 1, false, false⟩ }, .empty⟩ }).setFlx
      { Flx.reset with mode := .production, amounts := ⟨1, 0⟩ }).applyCell aBoard 0).flx.outcome = .sprayed ∧
    (alarmIs 1 .activeUnack).aim.inhibitActive .spray = true := by decide

/-- R75: a zone's sample taken before PREHEAT_INHIBIT_CHANGE runs the law, and one taken after it finds no duty. -/
theorem test_sample_before_inhibit :
    ((alarmIs 2 .activeUnack).setZnc { Znc.reset with zones := ⟨{ ZoneRec.reset with state := .heating, setpoint := 1500, band := 50 },
      .reset, .reset⟩ } |>.zoneSample .z1 1200 .good).znc.zones.z1.computed = 255 ∧
    ((alarmIs 2 .activeUnack).setZnc { Znc.reset with preheatInhibit := true, zones := ⟨{ ZoneRec.reset with
      state := .heating, setpoint := 1500, band := 50 }, .reset, .reset⟩ } |>.zoneSample .z1 1200 .good).znc.zones.z1.computed = 0 := by
  decide

/-- R169: a line mode arrival that reaches ZNC before the change of active bank evaluates the zones on the new bank, and the test
waits for the readiness arrival that this hands on. -/
theorem test_mode_arrival_before_bank :
    (match exec (.lineModeArrival .znc .changeover) ((State.reset.setZnc { Znc.reset with zones := ⟨{ ZoneRec.reset with
        state := .ready, setpoint := 1500 }, .reset, .reset⟩ }).swapBanks .changeover) with
      | .next t => t.lmc.awaited
      | _ => []) = [.activeBankArrival .znc .b1, .activeBankArrival .pot .b1, .readinessArrival (.zone .z1 .off)] := by decide

/-- R18, R22: a record of the log is read with its source; TAKE_EXIT_RECORD removes it from the log; and then its sequence number
is NOT_FOUND, as is one that the log never held. -/
theorem test_log_is_read_and_taken :
    ((logged [bBoard.exitRecord .normal 7]).readBoard 2).body = 1 :: (bBoard.exitRecord .normal 7).encode ∧
    (logged [bBoard.exitRecord .normal 7]).takeExitRecord.state.trk.exitLog = [] ∧
    ((logged [bBoard.exitRecord .normal 7]).takeExitRecord.state.readBoard 2).status = .notFound ∧
    ((logged [bBoard.exitRecord .normal 7]).takeExitRecord.state.readBoard 3).status = .notFound := by decide

/-- R175: the last character of READ_TABLE's frame carries the request out, in that step. -/
theorem test_last_character_carries_out :
    (match exec (.syncByte .machine 0x5D true) (linkIs .machine (receiving (.body 3) [1, 3, 0x1E])) with
      | .next t => (t.link .machine).sending
      | _ => none) = some ⟨0x03, .ok, [0]⟩ := by
  have h1 : crcByte 0xFFFF 1 = 0xF1D1 := by decide
  have h2 : crcByte 0xF1D1 3 = 0x1E5D := by decide
  have h : frameGood [1, 3, 0x1E, 0x5D] = true := by
    simp only [frameGood, checkBytes, crc16, List.length_cons, List.length_nil, List.take, List.foldl, h1, h2]
    decide
  have e := (receive_last (linkIs .machine (receiving (.body 3) [1, 3, 0x1E])) .machine 3 0x5D rfl rfl).trans
    (frameComplete_good _ _ _ h)
  have x (s : State) : exec (.syncByte .machine 0x5D true) s = s.receive .machine 0x5D := by
    simp only [exec, execSyncByte, if_true]
  rw [x, e]
  decide

/-- R178: a damaged frame behind a request's frame joins the owed list. -/
theorem test_frame_behind_a_request :
    (match execAll [.readTable .machine [], .badFrame .machine none] State.reset with
      | .next t => (t.link .machine).owed
      | _ => []) = [⟨0x00, .frameBad⟩] := by decide

theorem witness_SprayIsCutAndPressureJudged :
    (flxIs fun f => { f with valve := .opened }).flx.valve = .opened ∧ State.reset.flx.valve = .closed ∧
    LineMode.idle ∉ [LineMode.production, .changeover, .drain] ∧ LineMode.drain ∈ [LineMode.production, .changeover, .drain] ∧
    usable .faulted = false ∧ usable .good = true ∧ Flx.reset.pressureMin ≤ 120 ∧ 119 < Flx.reset.pressureMin ∧
    (flxIs fun f => { f with pressureLow := 2 }).flx.pressureLow ≤ 2 ∧
    3 ≤ (flxIs fun f => { f with pressureLow := 3 }).flx.pressureLow := by decide

theorem witness_UpdatesMoveTowardTheSample :
    4000 ≤ 4000 ∧ 4095 ≤ 4095 ∧ updatedEstimate 4000 0 4095 = 1 ∧
    (onTrack [aBoard, bBoard]).trk.table[1]? = some bBoard ∧ bBoard.decision = .pending ∧ bBoard.length = some 200 ∧
    aBoard.length = none ∧ usable .good = true ∧ usable .faulted = false ∧
    sourceCovers .ambient (Geometry.default.region (bBoard.travel 500 - 200 / 2)) = true ∧
    (inBanks .empty (.valid .starting)).lmc.bank bBoard.bank = .valid .starting ∧ State.reset.lmc.bank bBoard.bank = .empty ∧
    (inBanks .empty (.unchecked .starting)).lmc.bank bBoard.bank = .unchecked .starting := by decide

theorem witness_TheGateTakesTheFirstFailure :
    gateReason bBoard .starting false = some .unrequested ∧ gateReason aBoard .starting true = some .waveUnavailable ∧
    gateReason { aBoard with fluxStatus := .ok } .starting false = none ∧
    (onTrack [aBoard]).trk.board? 2 = none ∧ (onTrack [aBoard]).trk.board? 1 = some aBoard ∧ aBoard.decision = .pending ∧
    ({ aBoard with decision := .dry } : BoardRecord).decision ≠ .pending := by decide

theorem witness_HeatersFollowTheLawAndTheWindow :
    0 < 255 ∧ 65280 ≤ 65280 ∧ 255 ≤ 255 ∧
    (255 < roundDiv (((1500 : Int) - 1200) * 512 + clampInt 0 65280 (60000 + (1500 - 1200) * 8)) 256 ∧ (0 : Int) < 1500 - 1200) ∧
    (roundDiv (((1500 : Int) - 1540) * 512 + clampInt 0 65280 (1000 + (1500 - 1540) * 8)) 256 < 0 ∧ (1500 : Int) - 1540 < 0) ∧
    ¬(255 < roundDiv (((1500 : Int) - 1450) * 512 + clampInt 0 65280 (20000 + (1500 - 1450) * 8)) 256) := by decide

/-- A zone's record in a state, with its counts. -/
def zoneIn (st : ZoneState) (ready out : Nat) : ZoneRec :=
  { ZoneRec.reset with state := st, setpoint := 1500, band := 50, readyCount := ready, outCount := out }

theorem witness_ZoneSamplesAreWorkedInOrder :
    usable .faulted = false ∧ usable .good = true ∧
    (judgeOvertemp 3800 1500 150 1650 false false).holds = false ∧ (judgeOvertemp 3800 1500 150 1651 true false).holds = true ∧
    (judgeOvertemp 3800 1500 150 1600 true true).holds = false ∧ (judgeOvertemp 3800 1500 150 1601 true true).holds = true ∧
    (judgeOvertemp 3800 0 150 3800 false false).holds = false ∧ (judgeOvertemp 3800 0 150 3801 false false).holds = true ∧
    ZoneRec.reset.setpoint = 0 ∧ (zoneIn .heating 19 0).setpoint ≠ 0 ∧ State.reset.znc.preheatInhibit = false ∧
    (State.reset.setZnc { Znc.reset with preheatInhibit := true }).znc.preheatInhibit = true ∧
    (zoneIn .heating 19 0).state ∈ [ZoneState.heating, .setback, .fault] ∧
    absDiff 1550 1500 ≤ (zoneIn .heating 19 0).band ∧ (zoneIn .heating 19 0).band < absDiff 1551 1500 ∧
    20 ≤ (zoneIn .heating 19 0).readyCount + 1 ∧ (zoneIn .heating 18 0).readyCount + 1 < 20 ∧
    (zoneIn .ready 20 2).state ∈ [ZoneState.ready, .setbackReady] ∧ (zoneIn .ready 20 2).outCount + 1 < 4 ∧
    4 ≤ (zoneIn .ready 20 3).outCount + 1 := by decide

/-- The pot's record in a state, with its counts. -/
def potIn (st : PotState) (ready out : Nat) : PotRec :=
  { PotRec.reset with state := st, setpoint := 2600, band := 50, readyCount := ready, outCount := out }

theorem witness_PotSamplesAreWorkedInOrder :
    usable .faulted = false ∧ usable .good = true ∧ (judgeOvertemp 3400 2600 100 2700 true false).holds = false ∧
    (judgeOvertemp 3400 2600 100 2701 true false).raised = true ∧ (judgeOvertemp 3400 2600 100 2650 true true).ended = true ∧
    PotRec.reset.setpoint = 0 ∧ (potIn .heating 119 0).setpoint ≠ 0 ∧ 2199 < PotItems.default.pumpSafe ∧
    PotItems.default.pumpSafe ≤ 2200 ∧ (inMode .setback).lmc.mode = .setback ∧ State.reset.lmc.mode = .standby ∧
    (inMode .idle).lmc.mode ≠ .setback ∧ (inMode .idle).lmc.mode ≠ .standby ∧
    (potIn .heating 119 0).state ∈ [PotState.heating, .cold, .fault] ∧ absDiff 2650 2600 ≤ (potIn .ready 120 0).band ∧
    (potIn .ready 120 0).band < absDiff 2651 2600 ∧ 120 ≤ (potIn .heating 119 0).readyCount + 1 ∧
    (potIn .heating 118 0).readyCount + 1 < 120 ∧ (potIn .ready 120 8).outCount + 1 < 10 ∧ 10 ≤ (potIn .ready 120 9).outCount + 1 ∧
    ¬((potIn .ready 0 0).state = .ready ↔ (potIn .fault 0 0).state = .ready) := by decide

theorem witness_ThePotTakesItsSetpoint :
    LineMode.idle ∈ [LineMode.warmup, .production, .changeover, .drain, .idle] ∧
    (Instr.lineModeArrival .pot .setback = .lineModeArrival .pot .setback) ∧
    (∀ b, Instr.activeBankArrival .pot b ∉ State.reset.lmc.awaited) ∧ (∃ b, Instr.activeBankArrival .pot .b1 = .activeBankArrival .pot b) ∧ LineMode.standby = State.reset.lmc.mode ∧
    (potIn .fault 0 0).state = .fault ∧ (potIn .off 0 0).state ≠ .fault ∧ (potIn .off 0 0).state = .off ∧
    potEffective .setback (.valid .starting) .default = 2300 ∧ potEffective .safe (.valid .starting) .default = 0 ∧
    (potIn .ready 0 0).state ≠ .off ∧ (potIn .ready 0 0).setpoint ≠ 2300 ∧ (potIn .hold 0 0).state = .hold ∧
    (potIn .cold 0 0).state = .cold := by
  refine ⟨?_, rfl, (by intro b; simp [State.reset, Lmc.reset]), ⟨.b1, rfl⟩, rfl, ?_⟩ <;> decide

/-- Each case of the statement on the feeder meets its hypotheses: an unusable and a usable PLV sample, a record that becomes IDLE,
the settle timer's expiry, a minute's end, the wire's two transitions, and the FEED inhibit. -/
theorem witness_TheFeederFollowsItsTable (h : Obligations.TheFeederFollowsItsTable) :
    (∃ t, exec (.plvSampleArrival 0 .faulted) State.reset = .next t ∧ t.pot.levelValidity = .unknown) ∧
    (∃ t, exec (.plvSampleArrival 5000 .good) State.reset = .next t ∧ t.pot.level = 5000) ∧
    (∃ t, exec (.recordIdleArrival .levelHigh) (potIs fun p => { p with levelHighIdle := false }) = .next t ∧
      t.pot.levelHighIdle = true) ∧
    (∃ t, exec (.recordIdleArrival .runaway) (potIs fun p => { p with runawayIdle := false }) = .next t ∧
      t.pot.runawayIdle = true) ∧
    (∃ t, exec .settleTimerExpiry State.reset = .next t ∧ t.pot.settleTimer = .expired) ∧
    (∃ t, exec .minuteTimerExpiry State.reset = .next t ∧ t.pot.minuteTimer = .running 60000) ∧
    (∃ t, exec (.wirePresentTransition ⟨.opened, .closed, .scan⟩) State.reset = .next t ∧ t.pot.wireOut = true) ∧
    (∃ t, exec (.wirePresentTransition ⟨.closed, .opened, .scan⟩) State.reset = .next t ∧ t.pot.wireOut = false) ∧
    (∃ t, exec (.feedInhibitChange false) State.reset = .next t ∧ t.pot.feeder = .off) := by
  have h := h.2.2
  refine ⟨?_, ?_, ?_, ?_, ?_, ?_, ?_, ?_, ?_⟩
  · obtain ⟨t, e, -, hp, -⟩ := h State.reset _ _ [] _ _ (.inl ⟨rfl, rfl, .inl ⟨0, .faulted, rfl, .inl ⟨rfl, rfl, rfl⟩⟩⟩)
    exact ⟨t, e, by rw [hp]⟩
  · obtain ⟨t, e, -, hp, -⟩ := h State.reset _ _ _ _ _
      (.inl ⟨rfl, rfl, .inl ⟨5000, .good, rfl, .inr ⟨rfl, _, rfl, rfl, rfl⟩⟩⟩)
    exact ⟨t, e, by rw [hp]; decide⟩
  · obtain ⟨t, e, -, hp, -⟩ := h (potIs fun p => { p with levelHighIdle := false }) _ _ _ _ _
      (.inl ⟨rfl, rfl, .inr (.inl ⟨.levelHigh, rfl, rfl, rfl⟩)⟩)
    exact ⟨t, e, by rw [hp]⟩
  · obtain ⟨t, e, -, hp, -⟩ := h (potIs fun p => { p with runawayIdle := false }) _ _ _ _ _
      (.inl ⟨rfl, rfl, .inr (.inl ⟨.runaway, rfl, rfl, rfl⟩)⟩)
    exact ⟨t, e, by rw [hp]⟩
  · obtain ⟨t, e, -, hp, -⟩ := h State.reset _ _ _ _ _ (.inl ⟨rfl, rfl, .inr (.inr (.inl ⟨rfl, rfl, rfl, rfl⟩))⟩)
    exact ⟨t, e, by rw [hp]⟩
  · obtain ⟨t, e, -, hp, -⟩ := h State.reset _ _ _ _ _ (.inl ⟨rfl, rfl, .inr (.inr (.inr ⟨rfl, _, rfl, rfl, rfl⟩))⟩)
    exact ⟨t, e, by rw [hp]⟩
  · obtain ⟨t, e, -, hp, -⟩ := h State.reset _ _ _ _ _
      (.inr (.inl ⟨rfl, ⟨.opened, .closed, .scan⟩, rfl, rfl, .inl ⟨rfl, rfl, rfl⟩⟩))
    exact ⟨t, e, by rw [hp]⟩
  · obtain ⟨t, e, -, hp, -⟩ := h State.reset _ _ _ _ _
      (.inr (.inl ⟨rfl, ⟨.closed, .opened, .scan⟩, rfl, rfl, .inr ⟨rfl, rfl, rfl⟩⟩))
    exact ⟨t, e, by rw [hp]⟩
  · obtain ⟨t, e, -, hp, -⟩ := h State.reset (.feedInhibitChange false) State.reset.pot [] false _ (.inr (.inr ⟨rfl, rfl, rfl, rfl⟩))
    exact ⟨t, e, by rw [hp]; decide⟩

theorem witness_TheWaveFollowsItsTarget :
    waveTarget .warmup .inactive true none = .wave ∧ waveTarget .drain .pending true (some .dry) = .dip ∧
    waveTarget .idle .inactive true none = .off ∧ State.reset.pot.wave = .off ∧ WaveState.rising ≠ State.reset.pot.wave ∧
    (State.reset.pot.pumpSpeed = 0 ∨ (State.reset.saq.contact .pumpRun).reported = .closed) ∧
    (potIs fun p => { p with pumpSpeed := 1 }).pot.pumpSpeed ≠ 0 ∧ (State.reset.saq.contact .pumpRun).reported ≠ .closed := by decide

theorem witness_TheWaveMeetsItsBoards :
    (potIs fun p => { p with wave := .rising, riseCount := 3 }).pot.wave = .rising ∧
    (potIs fun p => { p with wave := .dipping }).pot.wave = .dipping ∧ State.reset.pot.wave ≠ .rising ∧
    State.reset.pot.wave ≠ .dipping ∧ usable .good = true ∧ usable .faulted = false ∧ (Bank.valid .starting).hLo ≤ 1000 ∧
    999 < (Bank.valid .starting).hLo ∧ 300 ≤ (Bank.valid .starting).hDip ∧ (Bank.valid .starting).hDip < 301 ∧
    State.reset.trk.hasBoard 1 = false ∧ (onTrack [aBoard]).trk.hasBoard 1 = true ∧ 1 ∉ State.reset.pot.onWave ∧
    1 ∈ (potIs fun p => { p with onWave := [1] }).pot.onWave ∧
    (potIs fun p => { p with schedule := [⟨1, .b0, .solder⟩] }).pot.entry? 1 = some ⟨1, .b0, .solder⟩ ∧
    State.reset.pot.schedule = [] ∧ (potIs fun p => { p with schedule := [⟨1, .b0, .solder⟩] }).pot.schedule ≠ [] ∧
    (∃ e ∈ (potIs fun p => { p with schedule := [⟨1, .b0, .solder⟩] }).pot.schedule, e.seq = 1) ∧
    (∀ e ∈ (potIs fun p => { p with schedule := [⟨1, .b0, .solder⟩] }).pot.schedule, e.seq ≠ 2) := by decide

theorem witness_FeedingSecondsAndPumpFaults :
    State.reset.pot.feeder ≠ .feeding ∧ (potIs fun p => { p with feeder := .feeding }).pot.feeder = .feeding ∧
    State.reset.pot.buckets = 0 :: List.replicate 9 0 ∧
    (potIs fun p => { p with settleTimer := .expired }).pot.settleTimer.isRunning = false ∧
    State.reset.pot.runaway = false ∧ (potIs fun p => { p with runaway := true }).pot.runaway = true ∧
    180 < (min 60 (60 + 1) :: [60, 60, 1]).sum ∧ (min 60 (59 + 1) :: [60, 60]).sum ≤ PotItems.default.budget := by decide

theorem witness_TheDuctFollowsItsSuction :
    State.reset.exm.duct = .normal ∧ (exmIs fun e => { e with duct := .lost }).exm.duct ≠ .normal ∧ usable .good = true ∧
    usable .faulted = false ∧ State.reset.exm.items.ductTrip ≤ 300 ∧ 299 < State.reset.exm.items.ductTrip ∧
    State.reset.exm.items.ductTrip + State.reset.exm.items.ductHyst ≤ 360 ∧
    359 < State.reset.exm.items.ductTrip + State.reset.exm.items.ductHyst ∧
    (exmIs fun e => { e with lowCount := 38 }).exm.lowCount + 1 < 40 ∧
    40 ≤ (exmIs fun e => { e with lowCount := 39 }).exm.lowCount + 1 ∧
    (exmIs fun e => { e with recoveryCount := 38 }).exm.recoveryCount + 1 < 40 ∧
    40 ≤ (exmIs fun e => { e with recoveryCount := 39 }).exm.recoveryCount + 1 ∧
    State.reset.exm.outputs.fan State.reset.exm.duty.other = false ∧ State.reset.exm.outputs.fan State.reset.exm.duty = true := by
  decide

theorem witness_FansAreWatchedAndSelected :
    ((exmIs fun e => { e with duct := .changeover, recoveryTimer := .running 1 }).exm.recoveryTimer.isRunning = true ∧
      (exmIs fun e => { e with duct := .changeover, recoveryTimer := .running 1 }).exm.duct = .changeover) ∧
    ¬(State.reset.exm.recoveryTimer.isRunning = true ∧ State.reset.exm.duct = .changeover) ∧
    (State.reset.exm.fanTimers.fan .a).isRunning = true ∧ (State.reset.exm.fanTimers.fan .b).isRunning = false ∧
    (State.reset.link .machine).sending = none ∧ 2 ≤ (2 : Byte).toNat ∧ Fan.code .b = 1 ∧ State.reset.exm.duct = .normal ∧
    (exmIs fun e => { e with duct := .lost }).exm.duct ≠ .normal ∧
    (Fan.a = State.reset.exm.duty ∧ State.reset.exm.outputs.fan Fan.a.other = false) ∧
    ¬(Fan.b = State.reset.exm.duty ∧ State.reset.exm.outputs.fan Fan.b.other = false) ∧
    ContactLevel.closed = .closed ∧ ContactLevel.opened ≠ .closed := by decide

theorem witness_TheFilterIsChecked : 50 ≤ 50 ∧ filterJudge true 700 50 650 = true ∧ filterJudge true 700 50 649 = false ∧
    filterJudge false 700 50 699 = false ∧ filterJudge false 700 50 700 = true ∧ usable State.reset.exm.fdpState = false ∧
    usable (exmIs fun e => { e with fdpState := .good }).exm.fdpState = true := by decide

theorem witness_RaisesAndEndsMoveTheRecord :
    (∀ st, (alarmIs 17 st).aim.records[(17 : AlarmId)].state = st) ∧ alarmLatching 17 = true ∧ alarmLatching 1 = false ∧
    (State.reset.link .machine).mask.alarm = true ∧ (State.reset.link .machine).queue.length < 16 := by
  refine ⟨fun st => by cases st <;> rfl, ?_⟩; decide

theorem witness_InhibitsFollowTheirCauses : WaveEffect.pending ≠ .active ∧ WaveEffect.inactive ≠ .active := by decide

/-- A state with a command waiting, a board in the table, another link subscribed to everything, and one tank filled. -/
def waiting : State :=
  { ((onTrack [aBoard]).setRtr { Rtr.powerOn with amounts := ⟨5, 0⟩ }).setFlx { Flx.reset with amounts := ⟨5, 0⟩ } with
    pending := [.speedWindowExpiry] }

theorem witness_steps : step waiting = .next ({ waiting with pending := [] }.setTrk { waiting.trk with
    measuredSpeed := 0, windowCount := 0, speedTimer := .running 1000 }) := rfl

theorem witness_EveryStepKeepsTheTanksAndTheValve : TanksRetained waiting ∧ ValveSound waiting := by
  constructor
  · unfold TanksRetained; decide
  · unfold ValveSound; decide

theorem witness_EveryStepKeepsTheTrackWithinCapacity : WithinCapacity waiting := by unfold WithinCapacity; decide

theorem witness_EveryStepKeepsTheWaveAndTheDuctSound : WaveSound waiting ∧ DuctSound waiting := by
  constructor
  · unfold WaveSound; decide
  · unfold DuctSound; decide

theorem witness_EveryStepKeepsTheAlarmsAndTheLinksSound : AlarmsSound waiting ∧ WaveEffectSound waiting ∧ LinksSound waiting := by
  refine ⟨?_, ?_, ?_⟩
  · unfold AlarmsSound RecordSound; decide
  · unfold WaveEffectSound; decide
  · unfold LinksSound LinkSound; decide

theorem witness_EveryStepKeepsTheConfigurationSound : ConfigSound waiting := by
  refine ⟨fun i => ?_, by decide, by intro c; cases c <;> decide, by decide, by decide⟩
  cases i with
  | geometry g => cases g <;> decide
  | channel c k => cases c <;> cases k <;> decide
  | zoneKp z => cases z <;> decide
  | zoneKi z => cases z <;> decide
  | _ => decide

/-- The kept properties do not hold of every state. -/
theorem witness_KeptPropertiesSaySomething :
    ¬TanksRetained (flxIs fun f => { f with amounts := ⟨1, 0⟩ }) ∧ ¬ValveSound (flxIs fun f => { f with valve := .opened }) ∧
    ¬WithinCapacity (onTrack (List.replicate 17 aBoard)) ∧ ¬WaveSound (potIs fun p => { p with wave := .on }) ∧
    ¬DuctSound (exmIs fun e => { e with duct := .lost }) ∧ ¬AlarmsSound (alarmIs 1 .returnedUnack) ∧
    ¬LinksSound (linkIs .trace { (State.reset.link .trace) with owed := [⟨0, .busy⟩] }) := by
  refine ⟨?_, ?_, ?_, ?_, ?_, ?_, ?_⟩
  · unfold TanksRetained; decide
  · unfold ValveSound; decide
  · unfold WithinCapacity; decide
  · unfold WaveSound; decide
  · unfold DuctSound; decide
  · intro h; exact absurd ((h 1).2.2 (by decide)) (by decide)
  · unfold LinksSound LinkSound; decide

end Sys2Proof.Tests
end

/-! Proofs about the track count and the eyes (chapter 1): which pulse indices the trim discards, what an eye filter makes of a
sampled level, and that the work a count does on boards leaves the counters, the timers and the eye filters alone. -/

namespace Sys2Proof.Machine

/-! ### The indices that the trim discards (R1) -/

theorem discards_iff (trim : Nat) (i : PulseIndex) :
    discards trim i = true ↔ i.toNat % 512 = 0 ∧ i.toNat < 512 * trim := by
  simp [discards]

/-- The discarded indices of a block of 65,536 are the first `trim` multiples of 512. -/
theorem filter_discards_eq_image (trim : Nat) (h : trim ≤ 127) :
    ((Finset.range 65536).filter fun n => discards trim (BitVec.ofNat 16 n) = true) =
      (Finset.range trim).image (512 * ·) := by
  ext n
  simp only [Finset.mem_filter, Finset.mem_range, Finset.mem_image, discards_iff, BitVec.toNat_ofNat]
  constructor
  · rintro ⟨hn, hmod, hlt⟩
    exact ⟨n / 512, by omega, by omega⟩
  · rintro ⟨k, hk, rfl⟩
    omega

theorem length_filter_range (p : Nat → Bool) (n : Nat) :
    ((List.range n).filter p).length = ((Finset.range n).filter fun k => p k = true).card := by
  rw [← Nat.count_eq_card_filter_range, Nat.count, List.countP_eq_length_filter]
  simp only [Bool.decide_eq_true]

/-- A block of 65,536 pulses loses one pulse for each trim step. -/
theorem length_filter_discards (trim : Nat) (h : trim ≤ 127) :
    ((List.range 65536).filter fun n => discards trim (BitVec.ofNat 16 n)).length = trim := by
  rw [length_filter_range, filter_discards_eq_image trim h,
    Finset.card_image_of_injective _ (mul_right_injective₀ (by decide : (512 : Nat) ≠ 0)), Finset.card_range]

theorem length_filter_not_discards (trim : Nat) (h : trim ≤ 127) :
    ((List.range 65536).filter fun n => !discards trim (BitVec.ofNat 16 n)).length = 65536 - trim := by
  have hsplit := List.length_eq_length_filter_add (l := List.range 65536) fun n => discards trim (BitVec.ofNat 16 n)
  rw [List.length_range, length_filter_discards trim h] at hsplit
  omega

/-! ### The eye filter (R8) -/

section Eye

variable {f : EyeFilter} {l : EyeLevel}

theorem sample_accepted (p : Position) (ha : f.accepted = EyeLevel.accepted l) :
    f.sample l p = ({ f with count := 0 }, none) := if_pos ha

theorem sample_starts (p : Position) (ha : f.accepted ≠ EyeLevel.accepted l) (hc : f.count = 0 ∨ f.candidate ≠ l) :
    f.sample l p = ({ f with candidate := l, first := p, count := 1 }, none) := by
  rw [EyeFilter.sample, if_neg ha, if_pos hc]

theorem sample_counts (p : Position) (ha : f.accepted ≠ EyeLevel.accepted l) (hl : f.candidate = l) (h1 : 1 ≤ f.count)
    (h2 : f.count ≤ 2) : f.sample l p = ({ f with count := f.count + 1 }, none) := by
  have hc : ¬(f.count = 0 ∨ f.candidate ≠ l) := by simp only [hl, ne_eq, not_true_eq_false, or_false]; omega
  rw [EyeFilter.sample, if_neg ha, if_neg hc, if_pos (by omega)]

theorem sample_accepts (p : Position) (ha : f.accepted ≠ EyeLevel.accepted l) (hl : f.candidate = l) (h3 : f.count = 3) :
    f.sample l p =
      ({ f with accepted := EyeLevel.accepted l, count := 0 }, some (acceptedChange f.accepted l f.first)) := by
  have hc : ¬(f.count = 0 ∨ f.candidate ≠ l) := by simp [hl, h3]
  rw [EyeFilter.sample, if_neg ha, if_neg hc, if_neg (by omega)]

theorem acceptedChange_unknown (l : EyeLevel) (p : Position) : acceptedChange .unknown l p = .first l := rfl

/-- The only level a filter that has accepted CLEAR can still accept is BLOCKED: a leading edge. -/
theorem acceptedChange_clear (p : Position) (ha : .clear ≠ EyeLevel.accepted l) : acceptedChange .clear l p = .leading p := by
  cases l with
  | clear => exact absurd rfl ha
  | blocked => rfl

theorem acceptedChange_blocked (p : Position) (ha : .blocked ≠ EyeLevel.accepted l) :
    acceptedChange .blocked l p = .trailing p := by
  cases l with
  | clear => rfl
  | blocked => exact absurd rfl ha

/-- A level seen at four counts in a row from count 0 is accepted, and the first of the four positions is kept. -/
theorem sample_four_times (p q r u : Position) (ha : f.accepted ≠ EyeLevel.accepted l) (h0 : f.count = 0) :
    ((((f.sample l p).1.sample l q).1.sample l r).1.sample l u).1 =
      { accepted := EyeLevel.accepted l, candidate := l, count := 0, first := p } := by
  have hfirst := sample_starts p ha (.inl h0)
  have hsecond := sample_counts (f := { f with candidate := l, first := p, count := 1 }) q ha rfl (le_refl 1) (Nat.le_succ 1)
  have hthird := sample_counts (f := { f with candidate := l, first := p, count := 2 }) r ha rfl (Nat.le_succ 1) (le_refl 2)
  have hfourth := sample_accepts (f := { f with candidate := l, first := p, count := 3 }) u ha rfl rfl
  simp only [hfirst, hsecond, hthird, hfourth]

end Eye

/-! ### What the work on boards leaves of TRK -/

/-- The counters, the configuration and the eye filters stay as they are; a stall that is not present does not begin, and a stall
timer that has just been started stays so, though an admission to an empty table may start it (R4). -/
structure CountKept (t u : Trk) : Prop where
  rawIndex      : u.rawIndex = t.rawIndex
  position      : u.position = t.position
  windowCount   : u.windowCount = t.windowCount
  measuredSpeed : u.measuredSpeed = t.measuredSpeed
  speedTimer    : u.speedTimer = t.speedTimer
  geometry      : u.geometry = t.geometry
  idRequired    : u.idRequired = t.idRequired
  trackUnknown  : u.trackUnknown = t.trackUnknown
  entryEye      : u.entryEye = t.entryEye
  exitEye       : u.exitEye = t.exitEye
  noStall       : t.stallPresent = false → u.stallPresent = false
  stallStarted  : t.stallTimer = .start Config.stallMs → u.stallTimer = .start Config.stallMs

namespace CountKept

variable {t u v : Trk}

theorem refl (t : Trk) : CountKept t t := ⟨rfl, rfl, rfl, rfl, rfl, rfl, rfl, rfl, rfl, rfl, id, id⟩

theorem of_eq (h : u = t) : CountKept t u := h ▸ .refl t

theorem trans (h : CountKept t u) (h' : CountKept u v) : CountKept t v where
  rawIndex := h'.rawIndex.trans h.rawIndex
  position := h'.position.trans h.position
  windowCount := h'.windowCount.trans h.windowCount
  measuredSpeed := h'.measuredSpeed.trans h.measuredSpeed
  speedTimer := h'.speedTimer.trans h.speedTimer
  geometry := h'.geometry.trans h.geometry
  idRequired := h'.idRequired.trans h.idRequired
  trackUnknown := h'.trackUnknown.trans h.trackUnknown
  entryEye := h'.entryEye.trans h.entryEye
  exitEye := h'.exitEye.trans h.exitEye
  noStall := h'.noStall ∘ h.noStall
  stallStarted := h'.stallStarted ∘ h.stallStarted

theorem ite {c : Prop} [Decidable c] {a b : State} (ha : CountKept t a.trk) (hb : CountKept t b.trk) :
    CountKept t (if c then a else b).trk := by
  split <;> assumption

/-- The occupants, the gap reference, the table and its neighbours, the mismatch set and READY are not among what is kept. -/
theorem boards (t : Trk) {entryOcc exitOcc : Occupant} {gapRef : Option Position} {nextSeq : Nat} {table : List BoardRecord}
    {exitLog removed : List ExitRecord} {identities : List Identity} {mismatch : MismatchCauses} {ready : Bool} :
    CountKept t { t with
      entryOcc := entryOcc, exitOcc := exitOcc, gapRef := gapRef, nextSeq := nextSeq, table := table, exitLog := exitLog,
      removed := removed, identities := identities, mismatch := mismatch, ready := ready } :=
  ⟨rfl, rfl, rfl, rfl, rfl, rfl, rfl, rfl, rfl, rfl, id, id⟩

/-- Sampling the exit eye does the same to two records that agree on what is kept. -/
theorem sampleExit (h : CountKept t u) (l : EyeLevel) :
    CountKept { t with exitEye := (t.exitEye.sample l t.position).1 }
      { u with exitEye := (u.exitEye.sample l u.position).1 } :=
  { h with exitEye := by rw [h.exitEye, h.position] }

end CountKept

variable (s : State)

/-! ### FLX and POT at a board's leaving -/

theorem updateBoard_kept (q : Nat) (f : BoardRecord → BoardRecord) : CountKept s.trk (s.updateBoard q f).trk := .boards _

theorem removeSprayed_kept (q : Nat) : CountKept s.trk (s.removeSprayed q).trk := by
  unfold State.removeSprayed
  split
  · exact updateBoard_kept s _ _
  · exact .refl _

theorem enterWave_kept (w : WaveState) : CountKept s.trk (s.enterWave w).trk := by
  rw [enterWave_trk]; exact .boards _

theorem evalWave_kept : CountKept s.trk s.evalWave.trk := by
  unfold State.evalWave State.evalWaveOn
  dsimp only
  split
  · exact .refl _
  · exact .trans (.of_eq (setPot_trk s _)) (enterWave_kept _ _)

theorem updateWaveBank_kept : CountKept s.trk s.updateWaveBank.trk := by
  unfold State.updateWaveBank
  split
  · exact .trans (.of_eq (setPot_trk s _)) (enterWave_kept _ _)
  · exact .refl _

theorem noteOccupancy_kept : CountKept s.trk s.noteOccupancy.trk := .of_eq ((noteOccupancy_frame s).trk (by decide))

theorem leaveWave_kept (q : Nat) : CountKept s.trk (s.leaveWave q).trk := by
  unfold State.leaveWave
  dsimp only
  have hlists := noteOccupancy_kept (s.setPot { s.pot with
    schedule := s.pot.schedule.filter (fun e => e.seq != q), onWave := s.pot.onWave.filter (fun x => x != q) })
  split
  · split
    · exact hlists.trans (updateWaveBank_kept _)
    · exact (hlists.trans (evalWave_kept _)).trans (updateWaveBank_kept _)
  · exact hlists

/-! ### Leaving the table (R22) -/

theorem removeMismatch_kept (k : MismatchCause) : CountKept s.trk (s.removeMismatch k).trk := by
  rw [removeMismatch_trk]; exact .boards _

theorem addMismatch_kept (k : MismatchCause) : CountKept s.trk (s.addMismatch k).trk := .boards _

theorem endStall_kept : CountKept s.trk s.endStall.trk := by
  rw [endStall_trk]
  exact { CountKept.refl s.trk with noStall := fun _ => rfl }

theorem noteEmptyTable_kept : CountKept s.trk s.noteEmptyTable.trk := by
  unfold State.noteEmptyTable
  dsimp only
  split
  · split <;> exact endStall_kept s
  · exact .refl _

theorem leaveTable_kept (q : Nat) (o : ExitOutcome) : CountKept s.trk (s.leaveTable q o).trk := by
  unfold State.leaveTable
  dsimp only
  split
  · exact removeSprayed_kept s q
  next b _ =>
    have hmoved : CountKept s.trk (((s.removeSprayed q).setTrk
        ((s.removeSprayed q).trk.moveOut b o (s.removeSprayed q).clock)).event (.boardExited q o)).trk :=
      (removeSprayed_kept s q).trans (.boards _)
    refine .trans (.ite ?_ ?_) (noteEmptyTable_kept _)
    all_goals
      refine .trans (.ite ?_ hmoved) (leaveWave_kept _ q)
      refine .trans ?_ (removeMismatch_kept _ _)
      exact hmoved.trans (.boards _)

/-! ### The eyes' edges (R13 to R15, R19, R23) -/

theorem createBoard_kept (p : Position) (r : Bool) : CountKept s.trk (s.createBoard p r).trk := by
  have hstarted : s.trk.stallTimer = .start Config.stallMs → (s.createBoard p r).trk.stallTimer = .start Config.stallMs :=
    fun h => by simp [State.createBoard, h]
  exact ⟨rfl, rfl, rfl, rfl, rfl, rfl, rfl, rfl, rfl, rfl, id, hstarted⟩

theorem entryLeading_kept (p : Position) : CountKept s.trk (s.entryLeading p).trk := by
  unfold State.entryLeading
  dsimp only
  split
  · exact .refl _
  · split
    · exact createBoard_kept s _ _
    · split
      · exact createBoard_kept s _ _
      · exact .boards _

theorem entryCleared_kept (p : Position) : CountKept s.trk (s.entryCleared p).trk := .boards _

theorem entryTrailing_kept (p : Position) : CountKept s.trk (s.entryTrailing p).trk := by
  unfold State.entryTrailing
  split
  · split
    · split
      · exact (updateBoard_kept s _ _).trans (entryCleared_kept _ _)
      · exact (removeMismatch_kept s _).trans (entryCleared_kept _ _)
    · exact entryCleared_kept s _
  · exact entryCleared_kept (s.endAlarm _) _
  · exact .boards _
  · exact .refl _

theorem exitUntrackedBoard_kept : CountKept s.trk s.exitUntrackedBoard.trk := .boards _

theorem exitLeading_kept (p : Position) : CountKept s.trk (s.exitLeading p).trk := by
  unfold State.exitLeading
  split
  · exact .refl _
  · split
    · split
      · refine .trans ?_ (removeMismatch_kept _ _)
        exact .boards _
      · exact exitUntrackedBoard_kept s
    · exact exitUntrackedBoard_kept s

theorem exitTrailing_kept : CountKept s.trk s.exitTrailing.trk := by
  unfold State.exitTrailing
  dsimp only
  split
  · exact (leaveTable_kept s _ _).trans (.boards _)
  · exact (removeMismatch_kept s _).trans (.boards _)
  · exact .boards _
  · exact .refl _

/-! ### The eyes at a count -/

/-- The entry eye's sample replaces its filter; what TRK then does with the change leaves the rest alone. -/
theorem entryEyeSample_kept (l : EyeLevel) :
    CountKept { s.trk with entryEye := (s.trk.entryEye.sample l s.trk.position).1 } (s.entryEyeSample l).trk := by
  unfold State.entryEyeSample
  dsimp only
  split
  · exact .refl _
  · exact .boards _
  · exact entryLeading_kept (s.setTrk _) _
  · exact entryTrailing_kept (s.setTrk _) _

theorem exitEyeSample_kept (l : EyeLevel) :
    CountKept { s.trk with exitEye := (s.trk.exitEye.sample l s.trk.position).1 } (s.exitEyeSample l).trk := by
  unfold State.exitEyeSample
  dsimp only
  split
  · exact .refl _
  · exact .boards _
  · exact exitLeading_kept (s.setTrk _) _
  · exact exitTrailing_kept (s.setTrk _)

/-! ### The overrun checks (R16, R20) -/

theorem loseBoards_kept : ∀ (n : Nat) (s : State), CountKept s.trk (s.loseBoards n).trk
  | 0, s => .refl _
  | n + 1, s => by
    unfold State.loseBoards
    split
    · split
      · exact ((leaveTable_kept s _ _).trans (addMismatch_kept _ _)).trans (loseBoards_kept n _)
      · exact .refl _
    · exact .refl _

theorem exitHeld_kept : CountKept s.trk s.exitHeld.trk := by
  unfold State.exitHeld
  dsimp only
  split
  · split
    · split
      · refine .trans ?_ (addMismatch_kept _ _)
        exact (leaveTable_kept s _ _).trans (.boards _)
      · exact .refl _
    · exact .refl _
  · exact .refl _

theorem exitOverrun_kept : CountKept s.trk s.exitOverrun.trk := (loseBoards_kept _ s).trans (exitHeld_kept _)

theorem entryOverrun_kept : CountKept s.trk s.entryOverrun.trk := by
  unfold State.entryOverrun
  dsimp only
  split
  · split
    · split
      · split <;> exact (updateBoard_kept s _ _).trans (addMismatch_kept _ _)
      · exact .refl _
    · exact .refl _
  · exact .refl _

theorem evalReady_kept : CountKept s.trk s.evalReady.trk := .boards _

/-! ### The count (R1 to R3, R11) -/

/-- TRK's own part of a track count, before any board is looked at: the counters, the ended stall, and both eyes' samples. -/
def Trk.counted (t : Trk) (entry exit : EyeLevel) : Trk :=
  { t.advance with
    stallPresent := false
    entryEye := (t.entryEye.sample entry (t.position + 1)).1
    exitEye := (t.exitEye.sample exit (t.position + 1)).1 }

theorem trackCount_kept (entry exit : EyeLevel) : CountKept (s.trk.counted entry exit) (s.trackCount entry exit).trk := by
  have hstall : (s.setTrk s.trk.advance).endStall.trk = { s.trk.advance with stallPresent := false } := endStall_trk _
  have hentry := entryEyeSample_kept (s.setTrk s.trk.advance).endStall entry
  rw [hstall] at hentry
  have heyes := (hentry.sampleExit exit).trans (exitEyeSample_kept _ exit)
  exact heyes.trans
    (((exitOverrun_kept (State.postPositions _ _)).trans (entryOverrun_kept _)).trans (evalReady_kept _))

theorem evalReady_ready : s.evalReady.trk.ready =
    s.evalReady.trk.readyNow s.evalReady.lmc.mode (s.evalReady.aim.inhibitActive .entry)
      s.evalReady.lmc.activeBank.items.minGap := rfl

/-- R11: READY is evaluated last, on the state that the count leaves. -/
theorem trackCount_ready (entry exit : EyeLevel) : (s.trackCount entry exit).trk.ready =
    (s.trackCount entry exit).trk.readyNow s.lmc.mode (s.aim.inhibitActive .entry) s.lmc.activeBank.items.minGap := by
  have hframe := trackCount_frame s entry exit
  obtain ⟨u, hlast⟩ : ∃ u : State, s.trackCount entry exit = u.evalReady := ⟨_, rfl⟩
  rw [← hframe.lmc (by decide), ← hframe.aim (by decide), hlast]
  exact evalReady_ready u

/-- R1: a discarded pulse moves the raw index alone. -/
theorem exec_encoderPulse_discarded (entry exit : EyeLevel) (h : discards s.trk.geometry.trim s.trk.rawIndex = true) :
    exec (.encoderPulse entry exit) s = .next (s.setTrk { s.trk with rawIndex := s.trk.rawIndex + 1 }) :=
  congrArg Host.Outcome.next (if_pos h)

/-- R1, R2: every other pulse is a track count, with the raw index moved first. -/
theorem exec_encoderPulse_counted (entry exit : EyeLevel) (h : discards s.trk.geometry.trim s.trk.rawIndex = false) :
    exec (.encoderPulse entry exit) s =
      .next ((s.setTrk { s.trk with rawIndex := s.trk.rawIndex + 1 }).trackCount entry exit) :=
  congrArg Host.Outcome.next (if_neg (by simp [h]))

/-- R3: the speed window hands its counter to the measured speed and starts again. -/
theorem exec_speedWindowExpiry : exec .speedWindowExpiry s = .next (s.setTrk { s.trk with
    measuredSpeed := s.trk.windowCount, windowCount := 0, speedTimer := .running 1000 }) := rfl

/-! ### The statements -/

/-- Settles O31: each case of the filter is one branch of its sample, four samples in a row take the branches in turn, and the
filters after a count are the sampled ones because the work on boards leaves them alone. -/
theorem eyesAcceptAtTheFourthCount : Obligations.EyesAcceptAtTheFourthCount := by
  refine ⟨fun f l p => ⟨sample_accepted p, sample_starts p, fun ha hl => ⟨sample_counts p ha hl, fun h3 => ?_⟩⟩,
    fun f l p q r u => sample_four_times p q r u, rfl, rfl, rfl, rfl, fun s entry exit h => ?_⟩
  · rw [sample_accepts p ha hl h3]
    refine ⟨rfl, fun hu => ?_, fun hc => ?_, fun hb => ?_⟩
    · rw [hu, acceptedChange_unknown]
    · rw [hc, acceptedChange_clear _ (hc ▸ ha)]
    · rw [hb, acceptedChange_blocked _ (hb ▸ ha)]
  · have hkept := trackCount_kept (s.setTrk { s.trk with rawIndex := s.trk.rawIndex + 1 }) entry exit
    exact ⟨_, exec_encoderPulse_counted s entry exit h, hkept.entryEye, hkept.exitEye⟩

/-- Settles O30: the discarded indices are counted as multiples of 512, and a count's fields are read off what the work on boards
keeps of `Trk.counted`. -/
theorem pulsesAreCountedButForTheTrim : Obligations.PulsesAreCountedButForTheTrim := by
  refine ⟨discards_iff, length_filter_not_discards, fun s entry exit =>
    ⟨exec_encoderPulse_discarded s entry exit, fun h => ?_, exec_speedWindowExpiry s⟩⟩
  have hkept := trackCount_kept (s.setTrk { s.trk with rawIndex := s.trk.rawIndex + 1 }) entry exit
  exact ⟨_, exec_encoderPulse_counted s entry exit h, (setTrk_frame s _).after (trackCount_frame _ _ _), hkept.rawIndex,
    hkept.position, hkept.windowCount, hkept.stallStarted rfl, hkept.noStall rfl, hkept.measuredSpeed, hkept.speedTimer,
    hkept.geometry, hkept.idRequired, hkept.trackUnknown, hkept.entryEye, hkept.exitEye, trackCount_ready _ _ _⟩

end Sys2Proof.Machine

/-! Proofs about fluxing (chapter 3): which run covers a cell, what the reader of a spray map takes, and what REFILL and
SELECT_TANK answer and set. -/

namespace Sys2Proof.Machine

/-! ### The run that covers a cell (R46) -/

/-- Cells are counted over the runs in list order: those of the runs passed are taken off the cell's number. -/
theorem actionAt_append_of_sum_le (before rest : List Run) (n : Nat) (h : (before.map (·.cells)).sum ≤ n) :
    actionAt (before ++ rest) n = actionAt rest (n - (before.map (·.cells)).sum) := by
  induction before generalizing n with
  | nil => rfl
  | cons r rs ih =>
    rw [List.map_cons, List.sum_cons] at h ⊢
    calc actionAt (r :: rs ++ rest) n
        = actionAt (rs ++ rest) (n - r.cells) := if_neg (by omega)
      _ = actionAt rest (n - r.cells - (rs.map (·.cells)).sum) := ih _ (by omega)
      _ = actionAt rest (n - (r.cells + (rs.map (·.cells)).sum)) := by rw [Nat.sub_sub]

theorem actionAt_cons_of_lt {r : Run} {n : Nat} (after : List Run) (h : n < r.cells) :
    actionAt (r :: after) n = r.action := if_pos h

/-- A cell beyond the last run. -/
theorem actionAt_of_sum_le (runs : List Run) (n : Nat) (h : (runs.map (·.cells)).sum ≤ n) : actionAt runs n = 0 := by
  have hpassed := actionAt_append_of_sum_le runs [] n h
  rwa [List.append_nil] at hpassed

/-! ### The reader of a spray map (R46, R180) -/

/-- Two bytes make one run, of at least one cell and of a known action. -/
theorem runsOf_cons_cons_eq_some {c a : Byte} {rest : List Byte} {runs : List Run} :
    runsOf (c :: a :: rest) = some runs ↔
      ∃ n rs, actionNumber? a.toNat = some n ∧ runsOf rest = some rs ∧ c ≠ 0 ∧ ⟨c.toNat, n⟩ :: rs = runs := by
  simp [runsOf, Option.bind_eq_some_iff]

theorem runsOf_length : ∀ {bs : List Byte} {runs : List Run}, runsOf bs = some runs → bs.length = 2 * runs.length
  | [], _, h => by cases h; rfl
  | _ :: _ :: rest, _, h => by
    obtain ⟨_, rs, _, hrest, _, rfl⟩ := runsOf_cons_cons_eq_some.mp h
    have hlen := runsOf_length hrest
    simp only [List.length_cons]
    omega

theorem runsOf_cells : ∀ {bs : List Byte} {runs : List Run}, runsOf bs = some runs →
    ∀ r ∈ runs, 1 ≤ r.cells ∧ r.cells ≤ 255
  | [], _, h => by cases h; exact nofun
  | c :: _ :: rest, _, h => by
    obtain ⟨_, rs, _, hrest, hc, rfl⟩ := runsOf_cons_cons_eq_some.mp h
    have hfirst : 1 ≤ c.toNat ∧ c.toNat ≤ 255 := by bv_omega
    exact List.forall_mem_cons.mpr ⟨hfirst, runsOf_cells hrest⟩

theorem mapBody_eq_some {bs : List Byte} {runs : List Run} (h : mapBody bs = some runs) :
    ∃ n rest, bs = n :: rest ∧ 1 ≤ n.toNat ∧ n.toNat ≤ 32 ∧ rest.length = 2 * n.toNat ∧ runsOf rest = some runs := by
  cases bs with
  | nil => cases h
  | cons n rest =>
    obtain ⟨⟨hlow, hhigh, hlen⟩, hruns⟩ := Option.ite_none_right_eq_some.mp h
    exact ⟨n, rest, rfl, hlow, hhigh, hlen, hruns⟩

/-- Settles O35: the runs before the covering one are passed over by induction, and the reader of a map is taken apart run by
run. -/
theorem runsCoverTheirCells : Obligations.RunsCoverTheirCells := by
  refine ⟨fun before r after n hpassed hcovered => ?_, actionAt_of_sum_le, fun n => ⟨rfl, fun i => rfl⟩, fun bs runs h => ?_⟩
  · rw [actionAt_append_of_sum_le before _ n hpassed]
    exact actionAt_cons_of_lt after (by omega)
  · obtain ⟨n, rest, _, hlow, hhigh, hlen, hruns⟩ := mapBody_eq_some h
    have hcount := runsOf_length hruns
    exact ⟨by omega, by omega, runsOf_cells hruns⟩

/-! ### The tank that a byte names -/

@[simp] theorem Tank.ofNat?_code (k : Tank) : Tank.ofNat? k.code.toNat = some k := by cases k <;> rfl

theorem Tank.ofNat?_of_two_le : ∀ {n : Nat}, 2 ≤ n → Tank.ofNat? n = none
  | _ + 2, _ => rfl

theorem Tank.ofNat?_of_code_eq {k : Tank} {n : Byte} (h : k.code = n) : Tank.ofNat? n.toNat = some k := h ▸ k.ofNat?_code

/-- R191: a refill makes the record valid where the other tank has been refilled before. -/
theorem sawRefill_eq (r : Rtr) (k : Tank) : r.sawRefill k = { r with
    refillSeen := r.refillSeen.setTank k true, validity := r.validity || r.refillSeen.tank k.other } := by
  cases k <;> simp [Rtr.sawRefill, Pair.setTank, Pair.tank, Tank.other]

/-! ### What REFILL and SELECT_TANK come to (R58, R59) -/

section Tanks

variable (s : State)

theorem refill_noTank {n : Nat} (v : Nat) (h : Tank.ofNat? n = none) : s.refill n v = s.refuse .invalid := by
  rw [State.refill, h]

theorem refill_refused {n v : Nat} {k : Tank} (hk : Tank.ofNat? n = some k)
    (h : Config.tankMax < v ∨ v < s.flx.amounts.tank k) : s.refill n v = s.refuse .invalid := by
  rw [State.refill, hk]
  by_cases hmax : Config.tankMax < v
  · exact if_pos hmax
  · exact (if_neg hmax).trans (if_pos (h.resolve_left hmax))

theorem refill_accepted {n v : Nat} {k : Tank} (hk : Tank.ofNat? n = some k) (hmax : v ≤ Config.tankMax)
    (hheld : s.flx.amounts.tank k ≤ v) : s.refill n v =
      (((s.setAmount k v).clearFailedDraw).setRtr ((s.setAmount k v).clearFailedDraw.rtr.sawRefill k)).done := by
  rw [State.refill, hk]
  exact (if_neg (Nat.not_lt.mpr hmax)).trans (if_neg (Nat.not_lt.mpr hheld))

theorem selectTank_noTank {n : Nat} (h : Tank.ofNat? n = none) : s.selectTank n = s.refuse .invalid := by
  rw [State.selectTank, h]

theorem anySpraying_iff : (s.trk.table.any fun b => b.fluxStatus == .spraying) = true ↔
    ∃ b ∈ s.trk.table, b.fluxStatus = .spraying := by
  simp

theorem selectTank_spraying {n : Nat} {k : Tank} (hk : Tank.ofNat? n = some k)
    (h : ∃ b ∈ s.trk.table, b.fluxStatus = .spraying) : s.selectTank n = s.refuse .busy := by
  rw [State.selectTank, hk]
  exact if_pos ((anySpraying_iff s).mpr h)

theorem selectTank_idle {n : Nat} {k : Tank} (hk : Tank.ofNat? n = some k)
    (h : ∀ b ∈ s.trk.table, b.fluxStatus ≠ .spraying) : s.selectTank n =
      if k = s.flx.activeTank then s.done else ((s.setActiveTank k).event (.tankSwitched k .selected 0)).done := by
  rw [State.selectTank, hk]
  refine if_neg fun hany => ?_
  obtain ⟨b, hb, hspraying⟩ := (anySpraying_iff s).mp hany
  exact h b hb hspraying

/-! ### What an accepted request sets (R57, R60, R61) -/

/-- The amount is set and the failed-draw flag cleared, with both conditions as they stand then. -/
theorem setAmount_clearFailedDraw_flx (k : Tank) (v : Nat) : ∀ f,
    f = { s.flx with amounts := s.flx.amounts.setTank k v, failedDraw := false } →
    (s.setAmount k v).clearFailedDraw.flx =
      { f with tankLow := f.tankLowNow, supplyEmpty := f.supplyEmptyNow s.lmc.activeBank.supplyThreshold } := by
  intro f h
  rw [clearFailedDraw_flx _ _ rfl, setAmount_flx _ _ _ _ rfl, (setAmount_frame s k v).lmc (by decide), h]
  rfl

theorem setAmount_clearFailedDraw_sawRefill (k : Tank) (v : Nat) : (s.setAmount k v).clearFailedDraw.rtr.sawRefill k = { s.rtr with
    amounts := s.rtr.amounts.setTank k v, refillSeen := s.rtr.refillSeen.setTank k true,
    validity := s.rtr.validity || s.rtr.refillSeen.tank k.other } := by
  rw [clearFailedDraw_rtr, setAmount_rtr, sawRefill_eq]

/-- A reply reads and writes the links alone. -/
theorem reply_links_congr {s t : State} (h : s.links = t.links) (l : Link) (kind : Byte) (st : Status) (body : List Byte) :
    (s.reply l kind st body).links = (t.reply l kind st body).links := by
  simp only [reply_links, State.link, h]

/-- An event reads the run clock and the links, and writes the links alone. -/
theorem event_links_congr {s t : State} (hlinks : s.links = t.links) (hclock : s.clock = t.clock) (e : Event) :
    (s.event e).links = (t.event e).links := by
  rw [event_links, event_links, hlinks, hclock]

/-! ### The two requests' frames carried out -/

variable {s}

theorem exec_refill (hidle : (s.link .machine).sending = none) (n a3 a2 a1 a0 : Byte) :
    ∀ v, v = 16777216 * a3.toNat + 65536 * a2.toNat + 256 * a1.toNat + a0.toNat →
    ∀ r, r = (s.received .machine).refill n.toNat v →
      exec (.refill .machine [n, a3, a2, a1, a0]) s = .next (r.state.reply .machine 0x15 r.status r.body) := by
  intro v hv r hr
  have hamount : natOf [a3, a2, a1, a0] = v := by
    simp only [natOf, List.foldl_cons, List.foldl_nil]
    omega
  subst hr
  rw [← hamount]
  exact congrArg Host.Outcome.next (serve_some s .machine 0x15 [.machine] _ (n.toNat, natOf [a3, a2, a1, a0]) hidle (by decide))

theorem exec_selectTank (hidle : (s.link .machine).sending = none) (n : Byte) :
    ∀ r, r = (s.received .machine).selectTank n.toNat →
      exec (.selectTank .machine [n]) s = .next (r.state.reply .machine 0x16 r.status r.body) := by
  intro r hr
  have hnumber : natOf [n] = n.toNat := by simp [natOf]
  subst hr
  rw [← hnumber]
  exact congrArg Host.Outcome.next (serve_some s .machine 0x16 [.machine] _ (natOf [n]) hidle (by decide))

/-- What a request's own operation writes, with the links and what is posted. -/
theorem served_frame {ps : List Part} {l : Link} {u : State} (h : SameBut ps (s.received l) u) (kind : Byte) (st : Status)
    (body : List Byte) (hlinks : ∀ p ∈ [Part.links], p ∈ ps := by decide)
    (hposted : ∀ p ∈ [Part.links, .posted], p ∈ ps := by decide) : SameBut ps s (u.reply l kind st body) :=
  (((received_frame s l).mono hposted).trans h).trans ((reply_frame u l kind st body).mono hlinks)

end Tanks

/-! ### The statement on the tanks -/

/-- Settles O37: `exec_refill` and `exec_selectTank` carry the frame out, the checks pick the case in their order, and an accepted
request's fields are read off the equations of the tank operations. -/
theorem refillsAndSelectionsSetTheTanks : Obligations.RefillsAndSelectionsSetTheTanks := by
  rintro s _ rfl
  refine ⟨?_, ?_⟩
  · rintro n a3 a2 a1 a0 _ rfl v hv _ hidle rfl
    have hexec := exec_refill hidle n a3 a2 a1 a0 v hv _ rfl
    refine ⟨fun hn => ?_, fun k hcode => ?_⟩
    · rw [hexec, refill_noTank _ v (Tank.ofNat?_of_two_le hn)]; rfl
    have hk := Tank.ofNat?_of_code_eq hcode
    have hflx := received_flx s .machine
    refine ⟨fun hbad => ?_, fun hmax hheld => ?_⟩
    · rw [hexec, refill_refused _ hk (by rwa [hflx])]; rfl
    · have hframe := refill_frame (s.received .machine) n.toNat v
      rw [refill_accepted _ hk hmax (by rwa [hflx])] at hexec hframe
      refine ⟨_, hexec, served_frame hframe.mono _ _ _, ?_, ?_, ?_⟩
      · rw [reply_flx, done_state, setRtr_flx, setAmount_clearFailedDraw_flx _ _ _ _ rfl, hflx, received_lmc]; rfl
      · rw [reply_rtr, done_state, setRtr_rtr, setAmount_clearFailedDraw_sawRefill, received_rtr]
      · exact reply_links_congr (hframe.links (by decide)) _ _ _ _
  · rintro n _ hidle rfl
    have hexec := exec_selectTank hidle n _ rfl
    refine ⟨fun hn => ?_, fun k hcode => ?_⟩
    · rw [hexec, selectTank_noTank _ (Tank.ofNat?_of_two_le hn)]; rfl
    have hk := Tank.ofNat?_of_code_eq hcode
    have hflx := received_flx s .machine
    have htrk := received_trk s .machine
    refine ⟨fun hspraying => ?_, fun hnone => ⟨fun hsame => ?_, fun hother => ?_⟩⟩
    · rw [hexec, selectTank_spraying _ hk (by rwa [htrk])]; rfl
    · rw [hexec, selectTank_idle _ hk (by rwa [htrk]), hflx, if_pos hsame]; rfl
    · have hframe := setActiveTank_frame (s.received .machine) k
      rw [selectTank_idle _ hk (by rwa [htrk]), hflx, if_neg hother] at hexec
      refine ⟨_, hexec, served_frame (hframe.after (event_frame _ _)) _ _ _, ?_, ?_, ?_⟩
      · rw [reply_flx, done_state, event_flx, setActiveTank_flx _ _ _ rfl, hflx, received_lmc]; rfl
      · rw [reply_rtr, done_state, event_rtr, setActiveTank_rtr, received_rtr]
      · exact reply_links_congr (event_links_congr (hframe.links (by decide)) hframe.clock _) _ _ _ _

end Sys2Proof.Machine

/-! Proofs about the line mode (chapter 9): how SAFE is entered by a demand or FORCE_SAFE, and left by RELEASE_SAFE. -/

namespace Sys2Proof.Machine

section Safe

variable (s : State)

/-! ### What a demand for SAFE makes of each mode (R161, R163) -/

theorem demandSafe_eq (c : ModeCause) : s.demandSafe c =
    if s.lmc.mode = .safe then s
    else if s.lmc.mode = .maintenance then s.setLmc { s.lmc with safeHeld := true }
    else s.changeMode .safe .none c := by
  unfold State.demandSafe
  cases s.lmc.mode <;> rfl

/-! ### What RELEASE_SAFE comes to, in the order of its checks (R162) -/

theorem releaseSafe_outside (h : s.lmc.mode ≠ .safe) : s.releaseSafe = s.refuse .wrongMode := if_pos h

theorem releaseSafe_held (h : s.lmc.mode = .safe)
    (hraised : s.aim.records[Alarm.estopOpen].state ≠ .idle ∨ s.aim.records[Alarm.supervisionExpired].state ≠ .idle) :
    s.releaseSafe = s.refuse .busy :=
  (if_neg (not_not_intro h)).trans (if_pos hraised)

theorem releaseSafe_accepted (h : s.lmc.mode = .safe)
    (hidle : ¬(s.aim.records[Alarm.estopOpen].state ≠ .idle ∨ s.aim.records[Alarm.supervisionExpired].state ≠ .idle)) :
    s.releaseSafe = (s.changeMode .standby .none (.request 0x21)).done :=
  (if_neg (not_not_intro h)).trans (if_neg hidle)

/-! ### The demand and the two requests carried out -/

theorem exec_safeDemand (i : AlarmId) :
    exec (.safeDemand i) s = .next ((s.taken (.safeDemand i)).demandSafe (.safeDemand i)) := rfl

variable {s}

theorem exec_forceSafe (hfree : (s.link .safety).sending = none) : exec (.forceSafe .safety []) s =
    .next (((s.received .safety).demandSafe (.request 0x20)).reply .safety 0x20 .ok []) :=
  congrArg Host.Outcome.next (serve_some s .safety 0x20 [.safety] _ () hfree (by decide))

theorem exec_releaseSafe (hfree : (s.link .safety).sending = none) :
    ∀ r, r = (s.received .safety).releaseSafe →
      exec (.releaseSafe .safety []) s = .next (r.state.reply .safety 0x21 r.status r.body) := by
  rintro _ rfl
  exact congrArg Host.Outcome.next (serve_some s .safety 0x21 [.safety] _ () hfree (by decide))

end Safe

/-! ### The statement on SAFE -/

/-- Settles O19: `demandSafe_eq` gives what the demand and FORCE_SAFE do in each mode, and the checks of RELEASE_SAFE, which read
the mode and the records as they stood before the frame was received, pick its case in their order. -/
theorem safeIsEnteredAndReleased : Obligations.SafeIsEnteredAndReleased := by
  intro s
  refine ⟨?_, ?_, ?_⟩
  · rintro i _ rfl
    rw [exec_safeDemand, demandSafe_eq, taken_lmc]
  · rintro _ hfree rfl
    rw [exec_forceSafe hfree, demandSafe_eq, received_lmc]
  · rintro _ hfree rfl
    have hexec := exec_releaseSafe hfree _ rfl
    have hlmc := received_lmc s .safety
    have haim := received_aim s .safety
    by_cases hmode : s.lmc.mode = .safe
    · rw [if_neg (not_not_intro hmode)]
      split
      next hraised => rw [hexec, releaseSafe_held _ (by rwa [hlmc]) (by rwa [haim])]; rfl
      next hidle => rw [hexec, releaseSafe_accepted _ (by rwa [hlmc]) (by rwa [haim])]; rfl
    · rw [if_pos hmode, hexec, releaseSafe_outside _ (by rwa [hlmc])]; rfl

end Sys2Proof.Machine

/-! Proofs about the block as a whole: what the characters of a frame come to, and which parts each command writes. -/

namespace Sys2Proof.Machine

section Whole

variable (s : State)

/-! ### What a character comes to (R173 to R175) -/

/-- A character leaves the state alone, moves its link's receiver, or does what another command does: a request, a bad frame or
one of an unknown kind, on the same link. -/
inductive CharacterDoes (l : Link) (s : State) : Host.Outcome State Fault Refusal → Prop
  | nothing : CharacterDoes l s (.next s)
  | receives (r : Receiver) : CharacterDoes l s (.next (s.setLink l { s.link l with receiver := r }))
  | bad (k : Option Byte) : CharacterDoes l s (exec (.badFrame l k) s)
  | unknown (k : Byte) (body : List Byte) : CharacterDoes l s (exec (.unknownKind l k body) s)
  | request (k : Nat) (body : List Byte) (i : Instr) (h : Laws.wireForm? i = some (l, k, body)) : CharacterDoes l s (exec i s)

theorem frameComplete_does (l : Link) (bs : List Byte) : CharacterDoes l s (s.frameComplete l bs) := by
  by_cases hgood : frameGood bs = true
  · rw [frameComplete_good s l bs hgood, Laws.carryOut_eq_exec]
    cases hreq : requestOf l (bs.getD 1 0x00).toNat ((bs.drop 2).take (bs.length - 4)) with
    | none => exact .unknown _ _
    | some i => exact .request _ _ _ (Laws.requestOf_wireForm _ _ _ _ hreq)
  · rw [frameComplete_bad s l bs (by simpa using hgood)]
    exact .bad _

theorem receive_does (l : Link) (c : Byte) : CharacterDoes l s (s.receive l c) := by
  cases hstate : (s.link l).receiver.state with
  | hunt =>
    rw [State.receive, hstate]
    dsimp only
    split
    · exact .receives _
    · exact .nothing
  | length =>
    rw [State.receive, hstate]
    dsimp only
    split
    · exact .receives _
    · exact .bad none
  | body n =>
    rw [State.receive, hstate]
    dsimp only
    split
    · exact frameComplete_does s l _
    · exact .receives _

theorem exec_syncByte_does (l : Link) (c : Byte) (good : Bool) : CharacterDoes l s (exec (.syncByte l c good) s) := by
  cases good with
  | false => exact .nothing
  | true => exact receive_does s l c

/-! ### The parts that each command writes -/

/-- The commands that move time, reset the part or hold its pin. -/
def movesTimeOrResets : Instr → Bool
  | .runClockTick | .powerOnReset _ | .externalReset _ | .commandedReset _ | .resetPinHeldLow => true
  | _ => false

/-- The commands that are one character of a frame. -/
def isCharacter : Instr → Bool
  | .syncByte _ _ _ => true
  | _ => false

theorem gatedArrival_frame (n : Nat) : SameBut [.lmc, .links, .posted] s
    (if s.lmc.mode = .changeover ∧ s.lmc.phase = .drainOld ∧ n = 0 then s.enterRetarget else s) :=
  SameBut.ite (enterRetarget_frame s) (.refl _ s)

theorem feederArrival_frame (st : FeederState) : SameBut [.lmc, .links, .posted] s
    (if s.lmc.mode = .idle ∧ s.lmc.setbackPending = true ∧ st ≠ .feeding then s.setbackOr .feederStopped
      else s.testReadiness) := by
  split
  next h => exact setbackOr_frame s _ (by simp [h.1])
  next => exact testReadiness_frame s

theorem tableEmptyArrival_frame : SameBut [.lmc, .links, .posted] s
    (if s.lmc.mode = .drain then s.changeMode .idle .none .tableEmpty else s) := by
  split
  next h => exact changeMode_frame_of_ne s _ _ _ (by simp [h])
  next => exact .refl _ s

theorem upstreamAvail_frame (t : Transition) : SameBut [.lmc, .links, .posted] s
    (if s.lmc.mode = .setback ∧ t.level = .closed ∧ s.lmc.wakeEnabled = true then s.enterWarmup .wake else s) := by
  split
  next h => exact enterWarmup_frame s _ (by simp [h.1])
  next => exact .refl _ s

theorem idleTimerExpiry_frame : SameBut [.lmc, .links, .posted] s
    (if s.lmc.mode = .idle ∧ s.lmc.idleTimer.isRunning = true then s.idleExpired else s) := by
  split
  next h => exact idleExpired_frame s (by simp [h.1])
  next => exact .refl _ s

theorem stallTimerExpiry_frame : SameBut [.trk, .flx, .posted] s (if s.trk.stallTimer.isRunning then
      let s := s.setTrk { s.trk with stallTimer := .expired }
      if s.trk.table ≠ [] ∧ s.lmc.mode.running = true ∧ s.trk.stallPresent = false then s.beginStall else s
    else s) := by
  refine SameBut.ite ?_ (.refl _ s)
  dsimp only
  split
  · exact (setTrk_frame s _).after (beginStall_frame _)
  · exact (setTrk_frame s _).mono

theorem minuteTimerExpiry_frame (p : Pot) (c : Prop) [Decidable c] : SameBut [.pot, .posted] s
    (if c then ((s.setPot p).setPot { (s.setPot p).pot with runaway := false }).endAlarm Alarm.feedRunaway
      else s.setPot p).evalFeeder := by
  refine SameBut.after (ps := [.pot, .posted]) (SameBut.ite ?_ (setPot_frame s _).mono) (evalFeeder_frame _)
  exact ((setPot_frame s _).trans (setPot_frame _ _)).after (endAlarm_frame _ _)

theorem takeModeAs_block_frame (b : ModeBlock) (m : LineMode) :
    SameBut (touches (.lineModeArrival b m)) s (s.takeModeAs b m) := by
  cases b <;> dsimp only [touches]
  case znc => exact (evaluateZones_frame s m).after (modeTaken_frame _ _ _)
  case pot => exact (potMode_frame s m).after (modeTaken_frame _ _ _)
  case flx => exact (flxMode_frame s m).mono
  case trk => exact trkMode_frame s m
  case exm => exact (exmMode_frame s m).mono

theorem takeBankAs_block_frame (b : BankBlock) (c : Instr) (bank : BankId) :
    SameBut (touches (.activeBankArrival b bank)) s (s.takeBankAs b c) := by
  cases b <;> dsimp only [touches]
  case znc => exact (evaluateZones_frame s _).after (bankTaken_frame _ _ _)
  case pot => exact (potBank_frame s).after (bankTaken_frame _ _ _)
  case flx => exact evalSupplyEmpty_frame s
  case trk => exact (evalReady_frame s).mono

theorem posted_mem_touches_mode (b : ModeBlock) (m : LineMode) : ∀ p ∈ [Part.posted], p ∈ touches (.lineModeArrival b m) := by
  cases b <;> simp [touches]

theorem posted_mem_touches_bank (b : BankBlock) (k : BankId) : ∀ p ∈ [Part.posted], p ∈ touches (.activeBankArrival b k) := by
  cases b <;> simp [touches]

/-- A request that answers with the state as it stands. -/
theorem serve_frame_of_read {α : Type} (l : Link) (kind : Byte) (allowed : List Link) (args : Option α)
    (act : α → State → Served) (h : ∀ a u, (act a u).state = u) :
    SameBut [.links, .posted] s (s.serve l kind allowed args act) :=
  serve_frame s l kind allowed args act fun a u => by rw [h a u]; exact .refl _ u

/-- READ_STATUS writes its link and posts, and where it is carried out on the machine link it takes free values. -/
theorem execReadStatus_frame (l : Link) (b : List Byte) : ∃ n, SameBut [.links, .posted] (s.useFree n)
    (s.serve l 0x01 [.machine, .safety, .trace] (emptyBody b) fun _ s => s.readStatus l) ∧ (l ≠ .machine → n = 0) := by
  by_cases hl : l = .machine
  · subst hl
    by_cases hserved : (s.link .machine).sending = none ∧ b = []
    · obtain ⟨hidle, rfl⟩ := hserved
      refine ⟨5, ?_, fun h => absurd rfl h⟩
      rw [show emptyBody [] = some () from rfl, serve_some _ _ _ _ _ _ hidle (by decide)]
      exact (received_frame (s.useFree 5) .machine).after (reply_frame _ _ _ _ _)
    · refine ⟨0, ?_, fun h => absurd rfl h⟩
      by_cases hidle : (s.link .machine).sending = none
      · have hb : emptyBody b = none := if_neg fun hb => hserved ⟨hidle, hb⟩
        rw [hb, serve_invalid _ _ _ _ _ hidle (by decide)]
        exact (received_frame s .machine).after (reply_frame _ _ _ _ _)
      · rw [serve_busy _ _ _ _ _ _ (Option.ne_none_iff_isSome.mp hidle)]
        exact (received_frame s .machine).after (owe_frame _ _ _ _)
  · exact ⟨0, serve_frame_of_read s _ _ _ _ _ fun _ u => if_neg hl, fun _ => rfl⟩

theorem completes_in {ps : List Part} {c : Instr} {s t : State} {b : Bool} (h : exec c s = .next t) (hframe : SameBut ps s t) :
    ∃ t n, exec c s = .next t ∧ SameBut ps (s.useFree n) t ∧ (b = false → n = 0) :=
  ⟨t, 0, h, hframe, fun _ => rfl⟩

/-- Of the commands that are no character and move no time, each writes its own parts alone, but for the free values that a read
of the machine link's status takes. -/
theorem exec_frame (c : Instr) (hchar : isCharacter c = false) (htime : movesTimeOrResets c = false) :
    ∃ t n, exec c s = .next t ∧ SameBut (touches c) (s.useFree n) t ∧ (timeOrReset c = false → n = 0) := by
  cases c <;> dsimp only [touches]
  case encoderPulse e x =>
    refine completes_in rfl ?_
    dsimp only
    split
    · exact (setTrk_frame s _).mono
    · exact (setTrk_frame s _).after (trackCount_frame _ _ _)
  case speedWindowExpiry => exact completes_in rfl (setTrk_frame s _)
  case stallTimerExpiry => exact completes_in rfl (stallTimerExpiry_frame s)
  case nozzleReached q l => exact completes_in rfl ((taken_frame s _).after (flxNozzleReached_frame _ _ _))
  case cellBoundary q n => exact completes_in rfl ((taken_frame s _).after (flxCellBoundary_frame _ _ _))
  case nozzleCleared q => exact completes_in rfl ((taken_frame s _).after (flxNozzleCleared_frame _ _))
  case gateReached q => exact completes_in rfl ((taken_frame s _).after (gateReached_frame _ _))
  case waveEntered q => exact completes_in rfl ((taken_frame s _).after (boardEntersWave_frame _ _))
  case waveLeft q => exact completes_in rfl ((taken_frame s _).after (SameBut.ite (leaveWave_frame _ _) (.refl _ _)))
  case passTimerExpiry => exact completes_in rfl (setSaq_frame s _)
  case priorityTimerExpiry => exact completes_in rfl (setSaq_frame s _)
  case conversionComplete code =>
    refine completes_in rfl ?_
    split
    · exact convert_frame s _ _
    · exact .refl _ s
  case zoneSampleArrival z v r => exact completes_in rfl ((taken_frame s _).after (zoneSample_frame _ _ _ _))
  case thermalSampleArrival x v r => exact completes_in rfl ((taken_frame s _).after (thermalSample_frame _ _ _ _))
  case ptsSampleArrival v r => exact completes_in rfl ((taken_frame s _).after (potSample_frame _ _ _))
  case plvSampleArrival v r => exact completes_in rfl ((taken_frame s _).after (levelSample_frame _ _ _))
  case wvhSampleArrival v r =>
    exact completes_in rfl (((taken_frame s _).after (qualifyWave_frame _ _ _) : SameBut [.trk, .pot, .posted] _ _).after
      (judgeBoards_frame _ _ _))
  case dspSampleArrival v r => exact completes_in rfl ((taken_frame s _).after (suctionSample_frame _ _ _))
  case fdpSampleArrival v r => exact completes_in rfl ((taken_frame s _).after (setExm_frame _ _))
  case flpSampleArrival v r => exact completes_in rfl ((taken_frame s _).after (pressureSample_frame _ _ _))
  case contactPass i => exact completes_in rfl ((contactPass_frame s i).after (setSaq_frame _ _))
  case safetyContactTransition k t => exact completes_in rfl ((taken_frame s _).after (safetyContact_frame _ _ _))
  case fanRunTransition f t => exact completes_in rfl ((taken_frame s _).after (fanTransition_frame _ _ _))
  case pumpRunTransition t => exact completes_in rfl ((taken_frame s _).after (setPot_frame _ _))
  case wirePresentTransition t => exact completes_in rfl ((taken_frame s _).after (wireTransition_frame _ _))
  case upstreamAvailTransition t => exact completes_in rfl ((taken_frame s _).after (upstreamAvail_frame _ _))
  case alarmRaise i => exact completes_in rfl ((taken_frame s _).after (takeRaise_frame _ _))
  case alarmEnd i => exact completes_in rfl ((taken_frame s _).after (takeEnd_frame _ _))
  case sprayInhibitChange a => exact completes_in rfl ((taken_frame s _).after (sprayChange_frame _ _))
  case preheatInhibitChange a => exact completes_in rfl ((taken_frame s _).after (preheatChange_frame _ _))
  case waveInhibitChange e => exact completes_in rfl ((taken_frame s _).after (evalWaveOn_frame _ _ _))
  case feedInhibitChange a => exact completes_in rfl ((taken_frame s _).after (feederOn_frame _ _ _))
  case entryInhibitChange a => exact completes_in rfl ((taken_frame s _).after (evalReadyOn_frame _ _ _))
  case solderOccupancyArrival o => exact completes_in rfl ((taken_frame s _).after (aimBecomes_frame _ _))
  case pumpFaultAcknowledged =>
    exact completes_in rfl (((taken_frame s _).after (setPot_frame _ _) : SameBut [.pot, .posted] _ _).after (endAlarm_frame _ _))
  case recordIdleArrival r =>
    exact completes_in rfl (((taken_frame s _).after (setPot_frame _ _) : SameBut [.pot, .posted] _ _).after (evalFeeder_frame _))
  case safeDemand i => exact completes_in rfl ((taken_frame s _).after (demandSafe_frame _ _))
  case lineModeArrival b m =>
    exact completes_in rfl (((taken_frame s _).mono (posted_mem_touches_mode b m)).trans (takeModeAs_block_frame _ b m))
  case activeBankArrival b k =>
    exact completes_in rfl (((taken_frame s _).mono (posted_mem_touches_bank b k)).trans (takeBankAs_block_frame _ b _ k))
  case readinessArrival r =>
    exact completes_in rfl (((taken_frame s _).after (setLmc_frame _ _) : SameBut [.lmc, .posted] _ _).after
      (testReadiness_frame _))
  case feederArrival st =>
    exact completes_in rfl (((taken_frame s _).after (setLmc_frame _ _) : SameBut [.lmc, .posted] _ _).after
      (feederArrival_frame _ st))
  case gatedArrival n => exact completes_in rfl ((taken_frame s _).after (gatedArrival_frame _ _))
  case tableEmptyArrival => exact completes_in rfl ((taken_frame s _).after (tableEmptyArrival_frame _))
  case frameArrival => exact completes_in rfl ((taken_frame s _).after (SameBut.ite (superviseFrame_frame _) (.refl _ _)))
  case zoneHeaterWindow => exact completes_in rfl (setZnc_frame s _)
  case zoneHeaterOnEnd z => exact completes_in rfl (setZnc_frame s _)
  case potHeaterWindow => exact completes_in rfl (setPot_frame s _)
  case potHeaterOnEnd => exact completes_in rfl (setPot_frame s _)
  case settleTimerExpiry => exact completes_in rfl (SameBut.ite (settle_frame s) (.refl _ s))
  case feedingSecond => exact completes_in rfl (SameBut.ite (feedSecond_frame s) (.refl _ s))
  case minuteTimerExpiry => exact completes_in rfl (minuteTimerExpiry_frame s _ _)
  case riseTimerExpiry => exact completes_in rfl (SameBut.ite ((setPot_frame s _).after (raiseAlarm_frame _ _)) (.refl _ s))
  case pumpRunTimerExpiry => exact completes_in rfl (SameBut.ite ((setPot_frame s _).after (raiseAlarm_frame _ _)) (.refl _ s))
  case recoveryTimerExpiry => exact completes_in rfl (SameBut.ite (loseDuct_frame s) (.refl _ s))
  case fanFaultTimerExpiry f => exact completes_in rfl (SameBut.ite (fanFault_frame s f) (.refl _ s))
  case filterCheckTimerExpiry => exact completes_in rfl ((filterCheck_frame s).after (startFilterTimer_frame _ _))
  case idleTimerExpiry => exact completes_in rfl (idleTimerExpiry_frame s)
  case supervisionWindowExpiry => exact completes_in rfl (SameBut.ite (superviseExpiry_frame s) (.refl _ s))
  case frameTimerExpiry l =>
    exact completes_in rfl (SameBut.ite ((receiverToHunt_frame s l).trans (frameBad_frame _ _ _)) (.refl _ s))
  case badFrame l k => exact completes_in rfl ((receiverToHunt_frame s l).trans (frameBad_frame _ _ _))
  case busyFrame l k b =>
    refine completes_in rfl (SameBut.ite (SameBut.ite ?_ ?_) (.refl _ s))
    · exact (receiverToHunt_frame s l).after (owe_frame _ _ _ _)
    · exact (received_frame s l).after (owe_frame _ _ _ _)
  case unknownKind l k b =>
    refine completes_in rfl (SameBut.ite ?_ ?_)
    · exact (received_frame s l).after (owe_frame _ _ _ _)
    · exact (received_frame s l).after (reply_frame _ _ _ _ _)
  case replyEnd l =>
    refine completes_in rfl ?_
    split
    · exact .refl _ s
    · exact SameBut.ite (.refl _ s) (setLink_frame s _ _)
  case readStatus l b =>
    obtain ⟨n, hframe, hn⟩ := execReadStatus_frame s l b
    exact ⟨_, n, rfl, hframe, fun h => hn fun hl => by subst hl; cases h⟩
  case readBoard l b => exact completes_in rfl (serve_frame_of_read s _ _ _ _ _ fun q u => readBoard_state u q)
  case readTable l b => exact completes_in rfl (serve_frame_of_read s _ _ _ _ _ fun _ _ => rfl)
  case readAlarms l b => exact completes_in rfl (serve_frame_of_read s _ _ _ _ _ fun n u => readAlarms_state u n)
  case readRetained l b => exact completes_in rfl (serve_frame_of_read s _ _ _ _ _ fun _ _ => rfl)
  case reset l b => exact completes_in rfl (serve_frame_of_read s _ _ _ _ _ fun _ _ => rfl)
  case readEvents l b => exact completes_in rfl (serve_frame s _ _ _ _ _ fun _ u => (setLink_frame u _ _).mono)
  case subscribe l b => exact completes_in rfl (serve_frame s _ _ _ _ _ fun _ u => (setLink_frame u _ _).mono)
  case ackAlarm l b => exact completes_in rfl (serve_frame s _ _ _ _ _ fun n u => ackAlarm_frame u l n)
  case assertInhibit l b => exact completes_in rfl (serve_frame s _ _ _ _ _ fun n u => assertInhibit_frame u n true)
  case releaseInhibit l b => exact completes_in rfl (serve_frame s _ _ _ _ _ fun n u => assertInhibit_frame u n false)
  case writeConfig l b => exact completes_in rfl (serve_frame s _ _ _ _ _ fun a u => (writeConfig_frame u a.1 a.2).mono)
  case writeBank l b => exact completes_in rfl (serve_frame s _ _ _ _ _ fun a u => (writeBank_frame u a.1 a.2).mono)
  case setZonesAll l b => exact completes_in rfl (serve_frame s _ _ _ _ _ fun v u => (setZonesAll_frame u v).mono)
  case validateBank l b => exact completes_in rfl (serve_frame s _ _ _ _ _ fun _ u => (validateBank_frame u).mono)
  case swapBank l b => exact completes_in rfl (serve_frame s _ _ _ _ _ fun _ u => swapBank_frame u)
  case cancelSwap l b => exact completes_in rfl (serve_frame s _ _ _ _ _ fun _ u => cancelSwap_frame u)
  case warmup l b => exact completes_in rfl (serve_frame s _ _ _ _ _ fun _ u => warmupRequest_frame u _ _ rfl)
  case start l b => exact completes_in rfl (serve_frame s _ _ _ _ _ fun _ u => warmupRequest_frame u _ _ rfl)
  case stop l b => exact completes_in rfl (serve_frame s _ _ _ _ _ fun _ u => stopRequest_frame u)
  case stopHeat l b => exact completes_in rfl (serve_frame s _ _ _ _ _ fun _ u => stopHeat_frame u)
  case enterMaintenance l b => exact completes_in rfl (serve_frame s _ _ _ _ _ fun _ u => enterMaintenance_frame u)
  case leaveMaintenance l b => exact completes_in rfl (serve_frame s _ _ _ _ _ fun _ u => leaveMaintenance_frame u)
  case forceSafe l b => exact completes_in rfl (serve_frame s _ _ _ _ _ fun _ u => forceSafe_frame u)
  case releaseSafe l b => exact completes_in rfl (serve_frame s _ _ _ _ _ fun _ u => releaseSafe_frame u)
  case supervise l b => exact completes_in rfl (serve_frame s _ _ _ _ _ fun w u => (supervise_frame u w).mono)
  case forceSignalChannel l b =>
    exact completes_in rfl (serve_frame s _ _ _ _ _ fun a u => (forceSignalChannel_frame u a.1 a.2).mono)
  case forceSignalContact l b =>
    exact completes_in rfl (serve_frame s _ _ _ _ _ fun a u => (forceSignalContact_frame u a.1 a.2).mono)
  case releaseForce l b => exact completes_in rfl (serve_frame s _ _ _ _ _ fun t u => (releaseForce_frame u t).mono)
  case clearTrack l b => exact completes_in rfl (serve_frame s _ _ _ _ _ fun _ u => clearTrack_frame u)
  case refill l b => exact completes_in rfl (serve_frame s _ _ _ _ _ fun a u => (refill_frame u a.1 a.2).mono)
  case selectTank l b => exact completes_in rfl (serve_frame s _ _ _ _ _ fun k u => selectTank_frame u k)
  case selectFan l b => exact completes_in rfl (serve_frame s _ _ _ _ _ fun f u => (selectFan_frame u f).mono)
  case clearStamps l b => exact completes_in rfl (serve_frame s _ _ _ _ _ fun _ u => (setExm_frame u _).mono)
  case clearResetCauses l b => exact completes_in rfl (serve_frame s _ _ _ _ _ fun _ u => (setRtr_frame u _).mono)
  case pushIdentity l b => exact completes_in rfl (serve_frame s _ _ _ _ _ fun i u => (pushIdentity_frame u i).mono)
  case flushIdentities l b =>
    exact completes_in rfl (serve_frame s _ _ _ _ _ fun _ u => ((setTrk_frame u _).trans (evalReady_frame _)).mono)
  case takeExitRecord l b => exact completes_in rfl (serve_frame s _ _ _ _ _ fun _ u => (takeExitRecord_frame u).mono)
  case syncByte l c g => cases hchar
  case powerOnReset i => cases htime
  case externalReset i => cases htime
  case commandedReset i => cases htime
  case runClockTick => cases htime
  case resetPinHeldLow => cases htime

/-- A request of a link other than the machine link moves no time and takes no free value. -/
theorem timeOrReset_of_wireForm {l : Link} {k : Nat} {body : List Byte} {i : Instr} (h : Laws.wireForm? i = some (l, k, body))
    (hl : l ≠ .machine) : timeOrReset i = false := by
  cases i <;> simp_all [Laws.wireForm?, timeOrReset]

theorem wireForm_plain {l : Link} {k : Nat} {body : List Byte} {i : Instr} (h : Laws.wireForm? i = some (l, k, body)) :
    isCharacter i = false ∧ movesTimeOrResets i = false := by
  cases i <;> simp_all [Laws.wireForm?, isCharacter, movesTimeOrResets]

/-- What the last character of a frame may write is everything but time, the pin, the queue and the free values. -/
theorem mem_touches_syncByte (l : Link) (c : Byte) (good : Bool) (p : Part) : p ∈ touches (.syncByte l c good) := by
  cases p <;> simp [touches]

/-- A character does what a command without characters does, or touches its receiver alone. -/
theorem exec_syncByte_frame (l : Link) (c : Byte) (good : Bool) : ∃ t n, exec (.syncByte l c good) s = .next t ∧
    SameBut (touches (.syncByte l c good)) (s.useFree n) t ∧ (timeOrReset (.syncByte l c good) = false → n = 0) := by
  have command {i : Instr} (hchar : isCharacter i = false) (htime : movesTimeOrResets i = false)
      (hfree : timeOrReset (.syncByte l c good) = false → timeOrReset i = false) : ∃ t n, exec i s = .next t ∧
      SameBut (touches (.syncByte l c good)) (s.useFree n) t ∧ (timeOrReset (.syncByte l c good) = false → n = 0) := by
    obtain ⟨t, n, ht, hframe, hn⟩ := exec_frame s i hchar htime
    exact ⟨t, n, ht, hframe.mono fun p _ => mem_touches_syncByte l c good p, fun h => hn (hfree h)⟩
  have hdoes := exec_syncByte_does s l c good
  generalize exec (.syncByte l c good) s = o at hdoes
  cases hdoes with
  | nothing => exact ⟨s, 0, rfl, .refl _ s, fun _ => rfl⟩
  | receives r =>
    exact ⟨_, 0, rfl, (setLink_frame s l _).mono fun p _ => mem_touches_syncByte l c good p, fun _ => rfl⟩
  | bad k => exact command rfl rfl fun _ => rfl
  | unknown k body => exact command rfl rfl fun _ => rfl
  | request k body i h =>
    obtain ⟨hchar, htime⟩ := wireForm_plain h
    refine command hchar htime fun hfree => timeOrReset_of_wireForm h fun hl => ?_
    subst hl
    cases hfree

theorem exec_completes_of_movesTimeOrResets {c : Instr} (h : movesTimeOrResets c = true) : ∃ t, exec c s = .next t := by
  cases c <;> first | exact ⟨_, rfl⟩ | cases h

/-- Settles O2: each command's frame is read off the frames of the operations that its meaning is made of. -/
theorem everyCommandCompletesInItsParts : Obligations.EveryCommandCompletesInItsParts := by
  intro c s
  by_cases htime : movesTimeOrResets c = true
  · have hreset : timeOrReset c = true := by cases c <;> first | rfl | cases htime
    obtain ⟨t, ht⟩ := exec_completes_of_movesTimeOrResets s htime
    exact ⟨t, ht, fun h => absurd h (by simp [hreset])⟩
  · have hplain : ∃ t n, exec c s = .next t ∧ SameBut (touches c) (s.useFree n) t ∧ (timeOrReset c = false → n = 0) := by
      by_cases hchar : isCharacter c = true
      · cases c <;> first | exact exec_syncByte_frame s _ _ _ | cases hchar
      · exact exec_frame s c (by simpa using hchar) (by simpa using htime)
    obtain ⟨t, n, ht, hframe, hn⟩ := hplain
    refine ⟨t, ht, fun h => ?_⟩
    obtain rfl := hn h
    exact hframe

/-- Settles O1. -/
theorem stepRunsFrontCommand : Obligations.StepRunsFrontCommand := by
  intro c rest s h
  rw [step, h]

/-! ### Properties of some parts alone -/

/-- A part is the same in two states. -/
def Part.Same (p : Part) (s t : State) : Prop :=
  match p with
  | .trk => t.trk = s.trk
  | .saq => t.saq = s.saq
  | .flx => t.flx = s.flx
  | .znc => t.znc = s.znc
  | .pot => t.pot = s.pot
  | .exm => t.exm = s.exm
  | .aim => t.aim = s.aim
  | .lmc => t.lmc = s.lmc
  | .links => t.links = s.links
  | .rtr => t.rtr = s.rtr
  | .posted => t.posted = s.posted

theorem SameBut.same {qs : List Part} {s t : State} (h : SameBut qs s t) {p : Part} (hp : p ∉ qs) : p.Same s t := by
  cases p
  case trk => exact h.trk hp
  case saq => exact h.saq hp
  case flx => exact h.flx hp
  case znc => exact h.znc hp
  case pot => exact h.pot hp
  case exm => exact h.exm hp
  case aim => exact h.aim hp
  case lmc => exact h.lmc hp
  case links => exact h.links hp
  case rtr => exact h.rtr hp
  case posted => exact h.posted hp

theorem same_useFree (p : Part) (n : Nat) {t : State} (h : p.Same (s.useFree n) t) : p.Same s t := by
  cases p <;> exact h

/-- A property that a change of other parts than these leaves alone. -/
def ReadsOnly (ps : List Part) (P : State → Prop) : Prop := ∀ s t : State, (∀ p ∈ ps, p.Same s t) → P s → P t

theorem ReadsOnly.of_frame {ps qs : List Part} {P : State → Prop} {s t : State} (h : ReadsOnly ps P) (hframe : SameBut qs s t)
    (hs : P s) (hdisjoint : ∀ p ∈ ps, p ∉ qs) : P t :=
  h s t (fun p hp => hframe.same (hdisjoint p hp)) hs

/-- A step keeps a property that each command keeps, a character's own work on its receiver included. -/
theorem step_keeps {P : State → Prop} (hqueue : ∀ (s : State) (cs : List Instr), P s → P { s with pending := cs })
    (hreceiver : ∀ (s : State) (l : Link) (r : Receiver), P s → P (s.setLink l { s.link l with receiver := r }))
    (hcommand : ∀ (c : Instr) (s t : State), isCharacter c = false → exec c s = .next t → P s → P t) (s t : State)
    (hstep : step s = .next t) (hs : P s) : P t := by
  have hexec (c : Instr) (s : State) (h : exec c s = .next t) (hs : P s) : P t := by
    by_cases hchar : isCharacter c = true
    · obtain ⟨l, b, good, rfl⟩ : ∃ l b good, c = .syncByte l b good := by
        cases c <;> first | exact ⟨_, _, _, rfl⟩ | cases hchar
      have hdoes := exec_syncByte_does s l b good
      generalize exec (.syncByte l b good) s = o at h hdoes
      cases hdoes with
      | nothing => cases h; exact hs
      | receives r => cases h; exact hreceiver s l r hs
      | bad k => exact hcommand _ s t rfl h hs
      | unknown k body => exact hcommand _ s t rfl h hs
      | request k body i hi => exact hcommand i s t (wireForm_plain hi).1 h hs
    · exact hcommand c s t (by simpa using hchar) h hs
  unfold step at hstep
  split at hstep
  next c rest _ => exact hexec c _ hstep (hqueue s rest hs)
  next =>
    split at hstep
    next c _ _ => exact hexec c s hstep hs
    next => cases hstep; exact hs

/-- A step keeps a property of some parts if the commands that may write one of these parts keep it. -/
theorem step_keeps_of_writers {ps : List Part} {P : State → Prop} (hreads : ReadsOnly ps P)
    (hwriters : ∀ (c : Instr) (s t : State), isCharacter c = false → exec c s = .next t → P s →
      (movesTimeOrResets c = true ∨ ∃ p ∈ ps, p ∈ touches c) → P t)
    (hlinks : Part.links ∉ ps) (s t : State) (hstep : step s = .next t) (hs : P s) : P t := by
  refine step_keeps ?_ ?_ ?_ s t hstep hs
  · intro s cs hs
    exact hreads s _ (fun p _ => by cases p <;> rfl) hs
  · intro s l r hs
    exact hreads.of_frame (setLink_frame s l _) hs fun p hp h => by simp_all
  · intro c s t hchar h hs
    by_cases hw : movesTimeOrResets c = true ∨ ∃ p ∈ ps, p ∈ touches c
    · exact hwriters c s t hchar h hs hw
    · obtain ⟨htime, hnone⟩ := not_or.mp hw
      obtain ⟨u, n, hu, hframe, _⟩ := exec_frame s c hchar (by simpa using htime)
      obtain rfl : u = t := by rw [hu] at h; cases h; rfl
      exact hreads s u (fun p hp => same_useFree s p n (hframe.same fun h => hnone ⟨p, hp, h⟩)) hs

/-- A request keeps a property that its own operation keeps, where the links and what is posted have no part in it. -/
theorem serve_keeps {ps : List Part} {P : State → Prop} (hreads : ReadsOnly ps P) {α : Type} {l : Link} {kind : Byte}
    {allowed : List Link} {args : Option α} {act : α → State → Served} (hs : P s) (hact : ∀ a u, P u → P (act a u).state)
    (hlinks : Part.links ∉ ps) (hposted : Part.posted ∉ ps) :
    P (s.serve l kind allowed args act) := by
  have hreceived : P (s.received l) := hreads.of_frame (received_frame s l) hs fun p hp h => by aesop
  have hreply (u : State) (st : Status) (body : List Byte) (hu : P u) : P (u.reply l kind st body) :=
    hreads.of_frame (reply_frame u _ _ _ _) hu fun p hp h => by simp_all
  unfold State.serve
  dsimp only
  split
  · exact hreads.of_frame (owe_frame _ _ _ _) hreceived fun p hp h => by simp_all
  · split
    · exact hreply _ _ _ hreceived
    · split
      · exact hreply _ _ _ hreceived
      · exact hreply _ _ _ (hact _ _ hreceived)

end Whole

end Sys2Proof.Machine

/-! Proofs about what every step keeps of FLX: the retained record holds its tanks, and its valve is shut but over a board in
spray (chapter 3). -/

namespace Sys2Proof.Machine

section FluxKept

variable {s t : State}

/-! ### The boards' ways through FLX and POT -/

/-- A board's leaving reaches FLX and POT only as the removal of its spray and its leaving of the wave. -/
theorem leaveTable_keeps {ps : List Part} {P : State → Prop} (hreads : ReadsOnly ps P)
    (hspray : ∀ (s : State) (q : Nat), P s → P (s.removeSprayed q)) (hwave : ∀ (s : State) (q : Nat), P s → P (s.leaveWave q))
    (q : Nat) (o : ExitOutcome) (hs : P s) (hdisjoint : ∀ p ∈ ps, p ∉ [Part.trk, .links, .posted]) :
    P (s.leaveTable q o) := by
  have other {u v : State} (h : SameBut [.trk, .links, .posted] u v) (hu : P u) : P v :=
    hreads.of_frame h hu hdisjoint
  unfold State.leaveTable
  dsimp only
  split
  · exact hspray s q hs
  next b _ =>
    have hmoved : P (((s.removeSprayed q).setTrk ((s.removeSprayed q).trk.moveOut b o (s.removeSprayed q).clock)).event
        (.boardExited q o)) :=
      other ((setTrk_frame _ _).after (event_frame _ _)) (hspray s q hs)
    refine other (noteEmptyTable_frame _).mono ?_
    have hleft {u : State} (hu : P u) : P ((if u.trk.entryOcc = .board q then
        (u.setTrk { u.trk with entryOcc := .ignored }).removeMismatch .entryBlocked else u).leaveWave q) := by
      refine hwave _ q (other (SameBut.ite ?_ (.refl _ u)) hu)
      exact (setTrk_frame u _).after (removeMismatch_frame _ _)
    split
    · exact other (post_frame _ _).mono (hleft hmoved)
    · exact hleft hmoved

theorem loseBoards_keeps {P : State → Prop} (hleave : ∀ (s : State) (q : Nat) (o : ExitOutcome), P s → P (s.leaveTable q o))
    (hmismatch : ∀ (s : State) (k : MismatchCause), P s → P (s.addMismatch k)) :
    ∀ (n : Nat) (s : State), P s → P (s.loseBoards n)
  | 0, _, hs => hs
  | n + 1, s, hs => by
    unfold State.loseBoards
    split
    · split
      · exact loseBoards_keeps hleave hmismatch n _ (hmismatch _ _ (hleave _ _ _ hs))
      · exact hs
    · exact hs

theorem clearBoards_keeps {P : State → Prop} (hleave : ∀ (s : State) (q : Nat) (o : ExitOutcome), P s → P (s.leaveTable q o)) :
    ∀ (n : Nat) (s : State), P s → P (s.clearBoards n)
  | 0, _, hs => hs
  | n + 1, s, hs => by
    unfold State.clearBoards
    split
    · exact hs
    · exact clearBoards_keeps hleave n _ (hleave _ _ _ hs)

/-- A track count reaches other blocks only where a board leaves the table. -/
theorem trackCount_keeps {ps : List Part} {P : State → Prop} (hreads : ReadsOnly ps P)
    (hleave : ∀ (s : State) (q : Nat) (o : ExitOutcome), P s → P (s.leaveTable q o)) (e x : EyeLevel) (hs : P s)
    (hdisjoint : ∀ p ∈ ps, p ∉ [Part.trk, .links, .posted]) : P (s.trackCount e x) := by
  have other {u v : State} (h : SameBut [.trk, .links, .posted] u v) (hu : P u) : P v :=
    hreads.of_frame h hu hdisjoint
  have htrailing {u : State} (hu : P u) : P u.exitTrailing := by
    unfold State.exitTrailing
    dsimp only
    split
    · exact other (setTrk_frame _ _).mono (hleave _ _ _ hu)
    · exact other ((removeMismatch_frame u _).after (setTrk_frame _ _)) hu
    · exact other (setTrk_frame u _).mono hu
    · exact hu
  have hexit {u : State} (hu : P u) : P (u.exitEyeSample x) := by
    unfold State.exitEyeSample
    dsimp only
    split
    · exact other (setTrk_frame u _).mono hu
    · exact other ((setTrk_frame u _).after (setTrk_frame _ _)) hu
    · exact other ((setTrk_frame u _).after (exitLeading_frame _ _)) hu
    · exact htrailing (other (setTrk_frame u _).mono hu)
  have hheld {u : State} (hu : P u) : P u.exitHeld := by
    unfold State.exitHeld
    dsimp only
    split
    · split
      · split
        · exact other ((setTrk_frame _ _).after (addMismatch_frame _ _)) (hleave _ _ _ hu)
        · exact hu
      · exact hu
    · exact hu
  have hlost {u : State} (n : Nat) (hu : P u) : P (u.loseBoards n) :=
    loseBoards_keeps hleave (fun u k hu => other (addMismatch_frame u k).mono hu) n u hu
  unfold State.trackCount
  dsimp only
  have hentry {u : State} (hu : P u) : P (u.entryEyeSample e) := other (entryEyeSample_frame u e) hu
  refine other ((entryOverrun_frame _).after (evalReady_frame _)) (hheld (hlost _ (other (postPositions_frame _ _).mono (hexit
    (hentry (other ((setTrk_frame s _).after (endStall_frame _)) hs))))))

/-! ### The tanks in the retained record (R57, R191) -/

/-- FLX's part of what the retained record holds. -/
theorem tanksRetained_reads : ReadsOnly [.flx, .rtr] TanksRetained := by
  intro s t h hs
  have hflx : t.flx = s.flx := h .flx (by decide)
  have hrtr : t.rtr = s.rtr := h .rtr (by decide)
  rwa [TanksRetained, hflx, hrtr]

/-- FLX moves without a change of the amounts or of the active tank. -/
def SameTanks (f g : Flx) : Prop := g.amounts = f.amounts ∧ g.activeTank = f.activeTank

theorem TanksRetained.of_sameTanks (hs : TanksRetained s) (hflx : SameTanks s.flx t.flx) (hrtr : t.rtr = s.rtr) :
    TanksRetained t := by
  obtain ⟨hamounts, hactive⟩ := hflx
  rwa [TanksRetained, hamounts, hactive, hrtr]

theorem setAmount_retained (k : Tank) (v : Nat) (hs : TanksRetained s) : TanksRetained (s.setAmount k v) := by
  obtain ⟨hamounts, hactive⟩ := hs
  rw [TanksRetained, setAmount_rtr, setAmount_flx s k v _ rfl]
  exact ⟨congrArg (·.setTank k v) hamounts, hactive⟩

theorem setActiveTank_retained (k : Tank) (hs : TanksRetained s) : TanksRetained (s.setActiveTank k) := by
  rw [TanksRetained, setActiveTank_rtr, setActiveTank_flx s k _ rfl]
  exact ⟨hs.1, rfl⟩

theorem clearFailedDraw_retained (hs : TanksRetained s) : TanksRetained s.clearFailedDraw := by
  rw [TanksRetained, clearFailedDraw_rtr, clearFailedDraw_flx s _ rfl]
  exact hs

theorem failDraw_retained (hs : TanksRetained s) : TanksRetained s.failDraw := hs

theorem deduct_retained (k : Tank) (d : Nat) (hs : TanksRetained s) : TanksRetained (s.deduct k d) :=
  clearFailedDraw_retained (setAmount_retained k _ hs)

theorem switchTank_retained (hs : TanksRetained s) : TanksRetained s.switchTank :=
  tanksRetained_reads.of_frame (event_frame _ _) (setActiveTank_retained _ (setAmount_retained _ _ hs)) (by decide)

theorem draw_retained (d : Nat) (hs : TanksRetained s) : TanksRetained (s.draw d).1 := by
  unfold State.draw
  dsimp only
  split
  · exact deduct_retained _ _ hs
  · split
    · split
      · exact deduct_retained _ _ (switchTank_retained hs)
      · exact failDraw_retained (switchTank_retained hs)
    · exact failDraw_retained hs

theorem setCell_retained (v : Valve) (o : CellOutcome) (hs : TanksRetained s) : TanksRetained (s.setCell v o) := hs

theorem updateBoard_retained (q : Nat) (f : BoardRecord → BoardRecord) (hs : TanksRetained s) :
    TanksRetained (s.updateBoard q f) := hs

theorem treatCell_retained (q : Nat) (a : SprayAction) (hs : TanksRetained s) : TanksRetained (s.treatCell q a) := by
  unfold State.treatCell
  dsimp only
  split
  · exact setCell_retained _ _ hs
  · split
    · exact setCell_retained _ _ (updateBoard_retained _ _ hs)
    · split
      · exact setCell_retained _ _ (updateBoard_retained _ _ hs)
      · split
        · exact setCell_retained _ _ (updateBoard_retained _ _ (draw_retained _ hs))
        · exact setCell_retained _ _ (updateBoard_retained _ _ (draw_retained _ hs))

theorem applyCell_retained (b : BoardRecord) (n : Nat) (hs : TanksRetained s) : TanksRetained (s.applyCell b n) := by
  unfold State.applyCell
  dsimp only
  have htreated {f : Flx} (q : Nat) (a : SprayAction) (hf : SameTanks s.flx f) : TanksRetained ((s.setFlx f).treatCell q a) :=
    treatCell_retained q a (hs.of_sameTanks hf rfl)
  split
  · exact tanksRetained_reads.of_frame (event_frame _ _) (htreated _ _ ⟨rfl, rfl⟩) (by decide)
  · exact htreated _ _ ⟨rfl, rfl⟩

theorem nozzleReached_retained (q : Nat) (l : Option Nat) (hs : TanksRetained s) : TanksRetained (s.nozzleReached q l) := by
  unfold State.nozzleReached
  split
  · exact hs
  · split
    · exact updateBoard_retained _ _ hs
    · exact applyCell_retained _ _ (hs.of_sameTanks ⟨rfl, rfl⟩ rfl)

theorem cellBoundary_retained (q n : Nat) (hs : TanksRetained s) : TanksRetained (s.cellBoundary q n) := by
  unfold State.cellBoundary
  split
  · split
    · exact hs
    · exact applyCell_retained _ _ hs
  · exact hs

/-! ### What the other operations make of FLX's record -/

theorem cutSpray_flx (s : State) (o : CellOutcome) : (s.cutSpray o).flx =
    if s.flx.valve = .opened then { s.flx with valve := .closed, outcome := o } else s.flx := by
  unfold State.cutSpray
  dsimp only
  split
  · split <;> rfl
  · rfl

theorem sprayChange_flx (s : State) (active : Bool) : (s.sprayChange active).flx =
    if active = true ∧ s.flx.valve = .opened then { s.flx with sprayInhibit := true, valve := .closed, outcome := .inhibited }
    else { s.flx with sprayInhibit := active } := by
  unfold State.sprayChange
  cases active with
  | true => exact (cutSpray_flx _ _).trans (if_congr (by simp) rfl rfl)
  | false => rfl

theorem flxMode_flx (s : State) (m : LineMode) : (s.flxMode m).flx =
    if m.running = false ∧ s.flx.valve = .opened then { s.flx with mode := m, valve := .closed, outcome := .held }
    else { s.flx with mode := m } := by
  unfold State.flxMode
  cases hm : m.running with
  | true => rfl
  | false => exact (cutSpray_flx _ _).trans (if_congr (by simp) rfl rfl)

theorem removeSprayed_flx (s : State) (q : Nat) : (s.removeSprayed q).flx =
    if s.flx.board = some q then { s.flx with board := none, valve := .closed } else s.flx := by
  unfold State.removeSprayed
  split <;> rfl

theorem nozzleCleared_flx (s : State) (q : Nat) : (s.nozzleCleared q).flx =
    if s.flx.board = some q then { s.flx with board := none, valve := .closed } else s.flx := by
  unfold State.nozzleCleared
  split <;> rfl

/-- A sample of the flux line pressure changes the pressure fields alone. -/
theorem pressureSample_flx (s : State) (v : Nat) (r : ReportedState) : ∃ low cond,
    (s.pressureSample v r).flx = { s.flx with pressureLow := low, pressureCond := cond } := by
  unfold State.pressureSample
  split
  · split
    · unfold State.lowPressure
      dsimp only
      split
      · exact ⟨_, _, rfl⟩
      · split
        · split <;> exact ⟨_, _, rfl⟩
        · split <;> exact ⟨_, _, rfl⟩
    · unfold State.goodPressure
      dsimp only
      split <;> exact ⟨_, _, rfl⟩
  · exact ⟨_, _, rfl⟩

/-- Of the configuration items, FLX keeps two, and a write of one of them may change FLUX_TANK_LOW. -/
theorem storeConfig_flx (s : State) (i : ConfigItem) (v : Int) : ∃ low pressure threshold,
    (s.storeConfig i v).flx = { s.flx with tankLow := low, pressureMin := pressure, lowThreshold := threshold } := by
  cases i
  case tankLow => exact ⟨_, _, _, evalTankLow_flx _⟩
  case potHold => exact ⟨_, _, _, (evaluatePot_frame _ _).flx (by decide)⟩
  case holdSetpoint => exact ⟨_, _, _, (evaluatePot_frame _ _).flx (by decide)⟩
  all_goals exact ⟨_, _, _, rfl⟩

theorem stallTimerExpiry_flx (s : State) (t : State) (h : exec .stallTimerExpiry s = .next t) :
    t.flx = s.flx ∨ t.flx = { s.flx with valve := .closed } := by
  cases h
  dsimp only
  split
  · split
    · exact .inr rfl
    · exact .inl rfl
  · exact .inl rfl

/-- What a reset makes of FLX, up to the two conditions it evaluates. -/
theorem restart_flx (r : Rtr) (s : State) : ∃ low empty,
    (s.restart r).flx = { Flx.restored r with tankLow := low, supplyEmpty := empty } := by
  rw [State.restart, evalSupplyEmpty_flx, evalTankLow_flx]
  exact ⟨_, _, rfl⟩

theorem restart_rtr (r : Rtr) (s : State) : (s.restart r).rtr = r := by
  rw [State.restart, (evalSupplyEmpty_frame _).rtr (by decide), (evalTankLow_frame _).rtr (by decide)]

/-- The commands that move time or reset the part: a tick, the pin, nothing, or a reset with the record it restores. -/
inductive TimeOrReset (s : State) : State → Prop
  | tick : TimeOrReset s s.tick
  | pin (p : ResetPin) : TimeOrReset s (s.setResetPin p)
  | nothing : TimeOrReset s s
  | reset (u : State) (r : Rtr) (inputs : ContactInputs) : TimeOrReset s ((u.restart r).contactPass inputs)

theorem exec_timeOrReset {c : Instr} (htime : movesTimeOrResets c = true) (h : exec c s = .next t) : TimeOrReset s t := by
  cases c <;> try (cases htime; done)
  case runClockTick => exact Host.Outcome.next.inj h ▸ .tick
  case resetPinHeldLow => exact Host.Outcome.next.inj h ▸ .pin _
  case powerOnReset inputs => exact Host.Outcome.next.inj h ▸ .reset _ _ _
  case externalReset inputs =>
    refine Host.Outcome.next.inj h ▸ ?_
    split
    · exact .reset _ _ _
    · exact .reset _ _ _
    · exact .reset _ _ _
  case commandedReset inputs =>
    refine Host.Outcome.next.inj h ▸ ?_
    split
    · exact .reset _ _ _
    · exact .nothing

theorem refill_retained (k n : Nat) (hs : TanksRetained s) : TanksRetained (s.refill k n).state := by
  unfold State.refill
  dsimp only
  split
  · exact hs
  · split
    · exact hs
    · split
      · exact hs
      · exact clearFailedDraw_retained (setAmount_retained _ _ hs)

theorem selectTank_retained (k : Nat) (hs : TanksRetained s) : TanksRetained (s.selectTank k).state := by
  unfold State.selectTank
  split
  · exact hs
  · split
    · exact hs
    · split
      · exact hs
      · exact tanksRetained_reads.of_frame (event_frame _ _) (setActiveTank_retained _ hs) (by decide)

theorem removeSprayed_retained (q : Nat) (hs : TanksRetained s) : TanksRetained (s.removeSprayed q) := by
  refine hs.of_sameTanks ?_ ((removeSprayed_frame s q).rtr (by decide))
  rw [removeSprayed_flx]
  split <;> exact ⟨rfl, rfl⟩

theorem leaveTable_retained (q : Nat) (o : ExitOutcome) (hs : TanksRetained s) : TanksRetained (s.leaveTable q o) :=
  leaveTable_keeps tanksRetained_reads (fun _ q => removeSprayed_retained q)
    (fun s q h => tanksRetained_reads.of_frame (leaveWave_frame s q) h (by decide)) q o hs (by decide)

theorem clearTrack_keeps {ps : List Part} {P : State → Prop} (hreads : ReadsOnly ps P)
    (hleave : ∀ (s : State) (q : Nat) (o : ExitOutcome), P s → P (s.leaveTable q o)) (hs : P s)
    (hdisjoint : ∀ p ∈ ps, p ∉ [Part.trk, .posted]) : P s.clearTrack.state := by
  unfold State.clearTrack
  split
  · exact hs
  · split
    · exact hs
    · have hcleared := clearBoards_keeps hleave s.trk.table.length s hs
      generalize s.clearBoards s.trk.table.length = u at hcleared ⊢
      have hframe : SameBut [.trk, .posted] u ((u.setTrk { u.trk with
          exitOcc := clearedOccupant u.trk.exitOcc, gapRef := none, trackUnknown := false }).removeMismatch
            .boardLost).evalReady :=
        ((setTrk_frame u _).after (removeMismatch_frame _ _) : SameBut [.trk, .posted] _ _).after (evalReady_frame _)
      exact hreads.of_frame hframe hcleared hdisjoint

theorem writeConfig_keeps {P : State → Prop} (hstore : ∀ (s : State) (i : ConfigItem) (v : Int), P s → P (s.storeConfig i v))
    (i : ConfigItem) (v : Int) (hs : P s) : P (s.writeConfig i v).state := by
  unfold State.writeConfig
  split
  · exact hs
  · split
    · exact hs
    · split
      · exact hs
      · split
        · exact hs
        · exact hstore s i v hs

theorem storeConfig_retained (i : ConfigItem) (v : Int) (hs : TanksRetained s) : TanksRetained (s.storeConfig i v) := by
  obtain ⟨low, pressure, threshold, hflx⟩ := storeConfig_flx s i v
  refine hs.of_sameTanks ?_ ((storeConfig_frame s i v).rtr (by decide))
  rw [hflx]
  exact ⟨rfl, rfl⟩

theorem timeOrReset_retained (h : TimeOrReset s t) (hs : TanksRetained s) : TanksRetained t := by
  cases h with
  | tick => exact hs
  | pin p => exact hs
  | nothing => exact hs
  | reset u r inputs =>
    obtain ⟨low, empty, hflx⟩ := restart_flx r u
    refine tanksRetained_reads.of_frame (contactPass_frame _ _) ?_ (by decide)
    rw [TanksRetained, restart_rtr, hflx]
    exact ⟨rfl, rfl⟩

/-- R57, R191: each command that writes FLX's tanks writes the retained record with them. -/
theorem step_tanksRetained (hstep : step s = .next t) (hs : TanksRetained s) : TanksRetained t := by
  refine step_keeps_of_writers tanksRetained_reads ?_ (by decide) s t hstep hs
  intro c s t hchar h hs hw
  have request {α : Type} {l : Link} {kind : Byte} {allowed : List Link} {args : Option α} {act : α → State → Served}
      (hact : ∀ a u, TanksRetained u → TanksRetained (act a u).state) :
      TanksRetained (s.serve l kind allowed args act) :=
    serve_keeps s tanksRetained_reads hs hact (by decide) (by decide)
  cases c
  case encoderPulse e x =>
    cases h
    dsimp only
    split
    · exact hs
    · exact trackCount_keeps tanksRetained_reads (fun _ q o => leaveTable_retained q o) e x hs (by decide)
  case stallTimerExpiry =>
    have hrtr : t.rtr = s.rtr := by cases h; exact (stallTimerExpiry_frame s).rtr (by decide)
    obtain hflx | hflx := stallTimerExpiry_flx s t h
    · exact hs.of_sameTanks (by rw [hflx]; exact ⟨rfl, rfl⟩) hrtr
    · exact hs.of_sameTanks (by rw [hflx]; exact ⟨rfl, rfl⟩) hrtr
  case nozzleReached q l => cases h; exact nozzleReached_retained (s := s.taken _) q l hs
  case cellBoundary q n => cases h; exact cellBoundary_retained (s := s.taken _) q n hs
  case nozzleCleared q =>
    cases h
    refine TanksRetained.of_sameTanks hs ?_ ((flxNozzleCleared_frame _ _).rtr (by decide))
    rw [nozzleCleared_flx]
    split <;> exact ⟨rfl, rfl⟩
  case sprayInhibitChange a =>
    cases h
    refine TanksRetained.of_sameTanks hs ?_ ((sprayChange_frame _ _).rtr (by decide))
    rw [sprayChange_flx]
    split <;> exact ⟨rfl, rfl⟩
  case flpSampleArrival v r =>
    cases h
    obtain ⟨low, cond, hflx⟩ := pressureSample_flx (s.taken (.flpSampleArrival v r)) v r
    refine TanksRetained.of_sameTanks hs ?_ ((pressureSample_frame _ _ _).rtr (by decide))
    rw [hflx]
    exact ⟨rfl, rfl⟩
  case lineModeArrival b m =>
    cases b <;> first | (simp [touches, movesTimeOrResets] at hw; done) | cases h
    refine TanksRetained.of_sameTanks hs ?_ ((flxMode_frame _ _).rtr (by decide))
    rw [State.takeModeAs, State.takeMode, flxMode_flx]
    split <;> exact ⟨rfl, rfl⟩
  case activeBankArrival b k =>
    cases b <;> first | (simp [touches, movesTimeOrResets] at hw; done) | cases h
    refine TanksRetained.of_sameTanks hs ?_ ((evalSupplyEmpty_frame _).rtr (by decide))
    rw [State.takeBankAs, State.takeBank, evalSupplyEmpty_flx]
    exact ⟨rfl, rfl⟩
  case feedingSecond =>
    cases h
    split
    · refine TanksRetained.of_sameTanks (s := s.setRtr { s.rtr with
        feedTotal := satAdd Config.feedTotalMax s.rtr.feedTotal 1 }) hs ?_ ?_
      · rw [(feedSecond_frame s).flx (by decide)]; exact ⟨rfl, rfl⟩
      · unfold State.feedSecond; dsimp only; split <;> exact (evalFeeder_frame _).rtr (by decide)
    · exact hs
  case writeConfig l b => cases h; exact request fun a u => writeConfig_keeps (fun _ => storeConfig_retained) a.1 a.2
  case clearTrack l b =>
    cases h
    exact request fun _ u hu => clearTrack_keeps tanksRetained_reads (fun _ q o => leaveTable_retained q o) hu (by decide)
  case refill l b => cases h; exact request fun a u => refill_retained a.1 a.2
  case selectTank l b => cases h; exact request fun k u => selectTank_retained k
  case clearResetCauses l b => cases h; exact request fun _ u hu => hu
  case powerOnReset | externalReset | commandedReset | runClockTick | resetPinHeldLow =>
    exact timeOrReset_retained (exec_timeOrReset rfl h) hs
  all_goals simp [touches, movesTimeOrResets, isCharacter] at hw hchar

/-! ### The spray valve (R52) -/

theorem valveSound_reads : ReadsOnly [.flx] ValveSound := by
  intro s t h hs
  have hflx : t.flx = s.flx := h .flx (by decide)
  rwa [ValveSound, hflx]

theorem valveSound_of_closed (h : t.flx.valve = .closed) : ValveSound t := fun hopen => by simp [h] at hopen

/-- What the valve's soundness looks at. -/
def SameSpray (f g : Flx) : Prop :=
  g.valve = f.valve ∧ g.board = f.board ∧ g.outcome = f.outcome ∧ g.sprayInhibit = f.sprayInhibit ∧ g.mode = f.mode

theorem SameSpray.trans {f g h : Flx} (hfg : SameSpray f g) (hgh : SameSpray g h) : SameSpray f h := by
  obtain ⟨hvalve, hboard, houtcome, hinhibit, hmode⟩ := hfg
  obtain ⟨hvalve', hboard', houtcome', hinhibit', hmode'⟩ := hgh
  exact ⟨hvalve'.trans hvalve, hboard'.trans hboard, houtcome'.trans houtcome, hinhibit'.trans hinhibit, hmode'.trans hmode⟩

theorem ValveSound.of_sameSpray (hs : ValveSound s) (h : SameSpray s.flx t.flx) : ValveSound t := by
  obtain ⟨hvalve, hboard, houtcome, hinhibit, hmode⟩ := h
  rwa [ValveSound, hvalve, hboard, houtcome, hinhibit, hmode]

theorem setAmount_spray (s : State) (k : Tank) (v : Nat) : SameSpray s.flx (s.setAmount k v).flx := by
  rw [setAmount_flx s k v _ rfl]; exact ⟨rfl, rfl, rfl, rfl, rfl⟩

theorem setActiveTank_spray (s : State) (k : Tank) : SameSpray s.flx (s.setActiveTank k).flx := by
  rw [setActiveTank_flx s k _ rfl]; exact ⟨rfl, rfl, rfl, rfl, rfl⟩

theorem clearFailedDraw_spray (s : State) : SameSpray s.flx s.clearFailedDraw.flx := by
  rw [clearFailedDraw_flx s _ rfl]; exact ⟨rfl, rfl, rfl, rfl, rfl⟩

theorem deduct_spray (s : State) (k : Tank) (d : Nat) : SameSpray s.flx (s.deduct k d).flx :=
  (setAmount_spray s _ _).trans (clearFailedDraw_spray _)

theorem switchTank_spray (s : State) : SameSpray s.flx s.switchTank.flx :=
  (setAmount_spray s _ _).trans (setActiveTank_spray _ _)

theorem failDraw_spray (s : State) : SameSpray s.flx s.failDraw.flx := ⟨rfl, rfl, rfl, rfl, rfl⟩

theorem draw_spray (s : State) (d : Nat) : SameSpray s.flx (s.draw d).1.flx := by
  unfold State.draw
  dsimp only
  split
  · exact deduct_spray s _ _
  · split
    · split
      · exact (switchTank_spray s).trans (deduct_spray _ _ _)
      · exact (switchTank_spray s).trans (failDraw_spray _)
    · exact failDraw_spray s

/-- R49, R52: a cell opens the valve only in its last case, in a mode that sprays and with the inhibit inactive. -/
theorem treatCell_valveSound (q : Nat) (a : SprayAction) (hboard : s.flx.board ≠ none) : ValveSound (s.treatCell q a) := by
  unfold State.treatCell
  dsimp only
  split
  · exact valveSound_of_closed rfl
  · split
    · exact valveSound_of_closed rfl
    · next hmode =>
      split
      · exact valveSound_of_closed rfl
      · next hinhibit =>
        split
        · obtain ⟨_, hboard', _, hinhibit', hmode'⟩ := draw_spray s a.dose
          refine fun _ => ⟨?_, rfl, ?_, ?_⟩
          · exact fun h => hboard (hboard'.symm.trans h)
          · exact hinhibit'.trans (by simpa using hinhibit)
          · exact (congrArg LineMode.running hmode').trans (by simpa using hmode)
        · exact valveSound_of_closed rfl

theorem applyCell_valveSound (b : BoardRecord) (n : Nat) (hboard : s.flx.board ≠ none) : ValveSound (s.applyCell b n) := by
  unfold State.applyCell
  dsimp only
  split
  · exact valveSound_reads.of_frame (event_frame _ _) (treatCell_valveSound _ _ hboard) (by decide)
  · exact treatCell_valveSound _ _ hboard

theorem nozzleReached_valveSound (q : Nat) (l : Option Nat) (hs : ValveSound s) : ValveSound (s.nozzleReached q l) := by
  unfold State.nozzleReached
  split
  · exact hs
  · split
    · exact hs
    · exact applyCell_valveSound _ _ (by simp)

theorem cellBoundary_valveSound (q n : Nat) (hs : ValveSound s) : ValveSound (s.cellBoundary q n) := by
  unfold State.cellBoundary
  split
  next hboard =>
    split
    · exact hs
    · exact applyCell_valveSound _ _ (by simp [hboard])
  next => exact hs

theorem removeSprayed_valveSound (q : Nat) (hs : ValveSound s) : ValveSound (s.removeSprayed q) := by
  by_cases h : s.flx.board = some q
  · exact valveSound_of_closed (by rw [removeSprayed_flx, if_pos h])
  · exact hs.of_sameSpray (by rw [removeSprayed_flx, if_neg h]; exact ⟨rfl, rfl, rfl, rfl, rfl⟩)

theorem nozzleCleared_valveSound (q : Nat) (hs : ValveSound s) : ValveSound (s.nozzleCleared q) := by
  by_cases h : s.flx.board = some q
  · exact valveSound_of_closed (by rw [nozzleCleared_flx, if_pos h])
  · exact hs.of_sameSpray (by rw [nozzleCleared_flx, if_neg h]; exact ⟨rfl, rfl, rfl, rfl, rfl⟩)

/-- R54: an inhibit that becomes active finds the valve shut or shuts it. -/
theorem sprayChange_valveSound (active : Bool) (hs : ValveSound s) : ValveSound (s.sprayChange active) := by
  by_cases h : active = true ∧ s.flx.valve = .opened
  · exact valveSound_of_closed (by rw [sprayChange_flx, if_pos h])
  · intro hopen
    rw [sprayChange_flx, if_neg h] at hopen ⊢
    obtain ⟨hboard, houtcome, -, hmode⟩ := hs hopen
    exact ⟨hboard, houtcome, by simpa using fun ha => h ⟨ha, hopen⟩, hmode⟩

/-- R54: a line mode that does not spray finds the valve shut or shuts it. -/
theorem flxMode_valveSound (m : LineMode) (hs : ValveSound s) : ValveSound (s.flxMode m) := by
  by_cases h : m.running = false ∧ s.flx.valve = .opened
  · exact valveSound_of_closed (by rw [flxMode_flx, if_pos h])
  · intro hopen
    rw [flxMode_flx, if_neg h] at hopen ⊢
    obtain ⟨hboard, houtcome, hinhibit, -⟩ := hs hopen
    exact ⟨hboard, houtcome, hinhibit, by simpa using fun hm => h ⟨hm, hopen⟩⟩

theorem leaveTable_valveSound (q : Nat) (o : ExitOutcome) (hs : ValveSound s) : ValveSound (s.leaveTable q o) :=
  leaveTable_keeps valveSound_reads (fun _ q => removeSprayed_valveSound q)
    (fun s q h => valveSound_reads.of_frame (leaveWave_frame s q) h (by decide)) q o hs (by decide)

theorem storeConfig_valveSound (i : ConfigItem) (v : Int) (hs : ValveSound s) : ValveSound (s.storeConfig i v) := by
  obtain ⟨low, pressure, threshold, hflx⟩ := storeConfig_flx s i v
  exact hs.of_sameSpray (by rw [hflx]; exact ⟨rfl, rfl, rfl, rfl, rfl⟩)

theorem refill_valveSound (k n : Nat) (hs : ValveSound s) : ValveSound (s.refill k n).state := by
  unfold State.refill
  dsimp only
  split
  · exact hs
  · split
    · exact hs
    · split
      · exact hs
      · exact hs.of_sameSpray ((setAmount_spray s _ _).trans (clearFailedDraw_spray _))

theorem selectTank_valveSound (k : Nat) (hs : ValveSound s) : ValveSound (s.selectTank k).state := by
  unfold State.selectTank
  split
  · exact hs
  · split
    · exact hs
    · split
      · exact hs
      · exact hs.of_sameSpray (setActiveTank_spray s _)

theorem timeOrReset_valveSound (h : TimeOrReset s t) (hs : ValveSound s) : ValveSound t := by
  cases h with
  | tick => exact hs
  | pin p => exact hs
  | nothing => exact hs
  | reset u r inputs =>
    obtain ⟨low, empty, hflx⟩ := restart_flx r u
    exact valveSound_reads.of_frame (contactPass_frame _ _) (valveSound_of_closed (by rw [hflx]; rfl)) (by decide)

/-- R52: each command that writes FLX's record shuts the valve or leaves it as the cell found it. -/
theorem step_valveSound (hstep : step s = .next t) (hs : ValveSound s) : ValveSound t := by
  refine step_keeps_of_writers valveSound_reads ?_ (by decide) s t hstep hs
  intro c s t hchar h hs hw
  have request {α : Type} {l : Link} {kind : Byte} {allowed : List Link} {args : Option α} {act : α → State → Served}
      (hact : ∀ a u, ValveSound u → ValveSound (act a u).state) : ValveSound (s.serve l kind allowed args act) :=
    serve_keeps s valveSound_reads hs hact (by decide) (by decide)
  cases c
  case encoderPulse e x =>
    cases h
    dsimp only
    split
    · exact hs
    · exact trackCount_keeps valveSound_reads (fun _ q o => leaveTable_valveSound q o) e x hs (by decide)
  case stallTimerExpiry =>
    obtain hflx | hflx := stallTimerExpiry_flx s t h
    · exact hs.of_sameSpray (by rw [hflx]; exact ⟨rfl, rfl, rfl, rfl, rfl⟩)
    · exact valveSound_of_closed (by rw [hflx])
  case nozzleReached q l => cases h; exact nozzleReached_valveSound (s := s.taken _) q l hs
  case cellBoundary q n => cases h; exact cellBoundary_valveSound (s := s.taken _) q n hs
  case nozzleCleared q => cases h; exact nozzleCleared_valveSound (s := s.taken _) q hs
  case sprayInhibitChange a => cases h; exact sprayChange_valveSound (s := s.taken _) a hs
  case flpSampleArrival v r =>
    cases h
    obtain ⟨low, cond, hflx⟩ := pressureSample_flx (s.taken (.flpSampleArrival v r)) v r
    exact hs.of_sameSpray (by rw [hflx]; exact ⟨rfl, rfl, rfl, rfl, rfl⟩)
  case lineModeArrival b m =>
    cases b <;> first | (simp [touches, movesTimeOrResets] at hw; done) | cases h
    exact flxMode_valveSound (s := s.taken _) m hs
  case activeBankArrival b k =>
    cases b <;> first | (simp [touches, movesTimeOrResets] at hw; done) | cases h
    refine hs.of_sameSpray ?_
    rw [State.takeBankAs, State.takeBank, evalSupplyEmpty_flx]
    exact ⟨rfl, rfl, rfl, rfl, rfl⟩
  case writeConfig l b => cases h; exact request fun a u => writeConfig_keeps (fun _ => storeConfig_valveSound) a.1 a.2
  case clearTrack l b =>
    cases h
    exact request fun _ u hu => clearTrack_keeps valveSound_reads (fun _ q o => leaveTable_valveSound q o) hu (by decide)
  case refill l b => cases h; exact request fun a u => refill_valveSound a.1 a.2
  case selectTank l b => cases h; exact request fun k u => selectTank_valveSound k
  case powerOnReset | externalReset | commandedReset | runClockTick | resetPinHeldLow =>
    exact timeOrReset_valveSound (exec_timeOrReset rfl h) hs
  all_goals simp [touches, movesTimeOrResets, isCharacter] at hw hchar

end FluxKept

/-- Settles O56: both properties are kept by every command that writes FLX's record or the retained one. -/
theorem everyStepKeepsTheTanksAndTheValve : Obligations.EveryStepKeepsTheTanksAndTheValve := by
  intro s t h
  exact ⟨step_tanksRetained h, step_valveSound h⟩

end Sys2Proof.Machine

/-! Proofs about what every step keeps of TRK: the board table and the exit log stay within their capacities (chapter 1). -/

namespace Sys2Proof.Machine

/-! ### Work that changes board records in place -/

/-- The records of the table change in place, each keeping its sequence number, and nothing else of TRK does. -/
def BoardsChanged (t u : Trk) : Prop :=
  ∃ f : BoardRecord → BoardRecord, (∀ b, (f b).seq = b.seq) ∧ u = { t with table := t.table.map f }

namespace BoardsChanged

variable {t u v : Trk}

theorem refl (t : Trk) : BoardsChanged t t := ⟨id, fun _ => rfl, by simp⟩

theorem of_eq (h : u = t) : BoardsChanged t u := h ▸ .refl t

theorem trans (h : BoardsChanged t u) (h' : BoardsChanged u v) : BoardsChanged t v := by
  obtain ⟨f, hf, rfl⟩ := h
  obtain ⟨g, hg, rfl⟩ := h'
  exact ⟨g ∘ f, fun b => (hg _).trans (hf b), by simp⟩

theorem update (t : Trk) (q : Nat) {f : BoardRecord → BoardRecord} (hf : ∀ b, (f b).seq = b.seq) :
    BoardsChanged t (t.update q f) :=
  ⟨_, fun b => by split <;> simp [hf], rfl⟩

theorem map (t : Trk) {f : BoardRecord → BoardRecord} (hf : ∀ b, (f b).seq = b.seq) :
    BoardsChanged t { t with table := t.table.map f } :=
  ⟨f, hf, rfl⟩

theorem ite {c : Prop} [Decidable c] {a b : State} (ha : BoardsChanged t a.trk) (hb : BoardsChanged t b.trk) :
    BoardsChanged t (if c then a else b).trk := by
  split <;> assumption

end BoardsChanged

section BoardWork

variable (s : State)

theorem updateBoard_boards (q : Nat) {f : BoardRecord → BoardRecord} (hf : ∀ b, (f b).seq = b.seq) :
    BoardsChanged s.trk (s.updateBoard q f).trk := .update _ _ hf

theorem treatCell_boards (q : Nat) (a : SprayAction) : BoardsChanged s.trk (s.treatCell q a).trk := by
  have hdraw : (s.draw a.dose).1.trk = s.trk := (draw_frame s a.dose).trk (by decide)
  unfold State.treatCell
  dsimp only
  split
  · exact .refl _
  · split
    · exact updateBoard_boards s q fun _ => rfl
    · split
      · exact updateBoard_boards s q fun _ => rfl
      · split
        · exact hdraw ▸ updateBoard_boards (s.draw a.dose).1 q fun _ => rfl
        · exact hdraw ▸ updateBoard_boards (s.draw a.dose).1 q fun _ => rfl

theorem applyCell_boards (b : BoardRecord) (n : Nat) : BoardsChanged s.trk (s.applyCell b n).trk := by
  unfold State.applyCell
  dsimp only
  split <;> exact treatCell_boards (s.setFlx _) _ _

theorem nozzleReached_boards (q : Nat) (l : Option Nat) : BoardsChanged s.trk (s.nozzleReached q l).trk := by
  unfold State.nozzleReached
  split
  · exact .refl _
  · split
    · exact updateBoard_boards s q fun _ => rfl
    · refine BoardsChanged.trans ?_ (applyCell_boards _ _ _)
      exact updateBoard_boards s q fun _ => rfl

theorem cellBoundary_boards (q n : Nat) : BoardsChanged s.trk (s.cellBoundary q n).trk := by
  unfold State.cellBoundary
  split
  · split
    · exact .refl _
    · exact applyCell_boards s _ _
  · exact .refl _

theorem nozzleCleared_boards (q : Nat) : BoardsChanged s.trk (s.nozzleCleared q).trk :=
  .ite (updateBoard_boards s q fun _ => rfl) (.refl _)

theorem cutSpray_boards (o : CellOutcome) : BoardsChanged s.trk (s.cutSpray o).trk := by
  unfold State.cutSpray
  dsimp only
  split
  · split
    · exact updateBoard_boards (s.setCell .closed o) _ fun _ => rfl
    · exact .refl _
  · exact .refl _

theorem sprayChange_boards (a : Bool) : BoardsChanged s.trk (s.sprayChange a).trk :=
  .ite (cutSpray_boards _ _) (.refl _)

theorem flxMode_boards (m : LineMode) : BoardsChanged s.trk (s.flxMode m).trk := .ite (.refl _) (cutSpray_boards _ _)

theorem removeSprayed_boards (q : Nat) : BoardsChanged s.trk (s.removeSprayed q).trk :=
  .ite (updateBoard_boards s q fun _ => rfl) (.refl _)

theorem pressureSample_boards (v : Nat) (r : ReportedState) : BoardsChanged s.trk (s.pressureSample v r).trk := by
  unfold State.pressureSample
  refine .ite (.ite ?_ ?_) (.refl _)
  · have hraised {u : State} (hu : u.trk = s.trk) (q : Nat) : BoardsChanged s.trk
        (u.updateBoard q fun b => { b with marks := { b.marks with lowPressure := true } }).trk :=
      hu ▸ updateBoard_boards u q fun _ => rfl
    unfold State.lowPressure
    dsimp only
    split
    · exact .refl _
    · split
      · exact hraised (by split <;> rfl) _
      · exact .of_eq (by split <;> rfl)
  · exact .of_eq ((goodPressure_frame s).trk (by decide))

theorem enterWave_boards (w : WaveState) : BoardsChanged s.trk (s.enterWave w).trk := by
  rw [enterWave_trk]
  exact .map _ fun b => by split <;> rfl

theorem evalWaveOn_boards (m : LineMode) (e : WaveEffect) : BoardsChanged s.trk (s.evalWaveOn m e).trk := by
  unfold State.evalWaveOn
  dsimp only
  split
  · exact .refl _
  · exact enterWave_boards (s.setPot _) _

theorem updateWaveBank_boards : BoardsChanged s.trk s.updateWaveBank.trk :=
  .ite (enterWave_boards (s.setPot _) _) (.refl _)

theorem noteOccupancy_boards : BoardsChanged s.trk s.noteOccupancy.trk := .of_eq ((noteOccupancy_frame s).trk (by decide))

theorem appendSchedule_boards (e : ScheduleEntry) : BoardsChanged s.trk (s.appendSchedule e).trk := by
  have happended := noteOccupancy_boards (s.setPot { s.pot with schedule := s.pot.schedule ++ [e] })
  unfold State.appendSchedule
  dsimp only
  split
  · exact .trans happended (.trans (evalWaveOn_boards _ _ _) (updateWaveBank_boards _))
  · exact happended

theorem leaveWave_boards (q : Nat) : BoardsChanged s.trk (s.leaveWave q).trk := by
  have hleft := noteOccupancy_boards (s.setPot { s.pot with
    schedule := s.pot.schedule.filter (fun e => e.seq != q), onWave := s.pot.onWave.filter (fun p => p != q) })
  unfold State.leaveWave
  dsimp only
  split
  · split
    · exact .trans hleft (updateWaveBank_boards _)
    · exact .trans hleft (.trans (evalWaveOn_boards _ _ _) (updateWaveBank_boards _))
  · exact hleft

theorem setHeat_boards (m : LineMode) (r : PotRec) : BoardsChanged s.trk (s.setHeat m r).trk := by
  unfold State.setHeat
  dsimp only
  split
  · exact .refl _
  · refine BoardsChanged.trans (.of_eq ?_) (evalWaveOn_boards _ _ _)
    rw [(evalFeeder_frame _).trk (by decide)]
    rfl

theorem potSample_boards (v : Nat) (r : ReportedState) : BoardsChanged s.trk (s.potSample v r).trk := by
  unfold State.potSample
  dsimp only
  split
  · exact setHeat_boards (s.post _) _ _
  · exact setHeat_boards s _ _

theorem potMode_boards (m : LineMode) : BoardsChanged s.trk (s.potMode m).trk :=
  .trans (setHeat_boards s _ _) (evalWaveOn_boards _ _ _)

theorem potBank_boards : BoardsChanged s.trk s.potBank.trk :=
  .trans (setHeat_boards s _ _) (updateWaveBank_boards _)

theorem qualifyWave_boards (v : Nat) (r : ReportedState) : BoardsChanged s.trk (s.qualifyWave v r).trk := by
  have hentered (c : Prop) [Decidable c] (p : Pot) (w : WaveState) :
      BoardsChanged s.trk (if c then (s.setPot p).enterWave w else s.setPot p).trk :=
    .ite (enterWave_boards (s.setPot p) w) (.refl _)
  unfold State.qualifyWave
  dsimp only
  split
  · exact .ite (hentered _ _ _) (.refl _)
  · exact .ite (hentered _ _ _) (.refl _)
  all_goals exact .refl _

theorem judgeBoards_boards (v : Nat) (r : ReportedState) : BoardsChanged s.trk (s.judgeBoards v r).trk :=
  .map _ fun b => by split <;> [skip; rfl]; split <;> rfl

theorem boardEntersWave_boards (q : Nat) : BoardsChanged s.trk (s.boardEntersWave q).trk := by
  have hnoted {u : State} (h : BoardsChanged s.trk u.trk) (p : Pot) : BoardsChanged s.trk (u.setPot p).noteOccupancy.trk :=
    .trans h (noteOccupancy_boards (u.setPot p))
  unfold State.boardEntersWave
  refine .ite (hnoted ?_ _) (.refl _)
  split
  · exact updateBoard_boards s q fun _ => rfl
  · exact .refl _

theorem thermal_seq (b : BoardRecord) (bank : Bank) (x : ThermalSource) (v : Nat) (r : ReportedState) :
    (b.thermal bank x v r).seq = b.seq := by
  unfold BoardRecord.thermal
  split
  · split <;> rfl
  · rfl

theorem thermalSample_boards (x : ThermalSource) (v : Nat) (r : ReportedState) :
    BoardsChanged s.trk (s.thermalSample x v r).trk :=
  .map _ fun b => by split <;> [exact thermal_seq _ _ _ _ _; rfl]

theorem gateReached_boards (q : Nat) : BoardsChanged s.trk (s.gateReached q).trk := by
  unfold State.gateReached
  dsimp only
  split
  · exact .refl _
  · exact .ite (.refl _) (.trans (updateBoard_boards s q (by exact fun _ => rfl)) (appendSchedule_boards _ _))

end BoardWork

/-! ### The capacities (R13) -/

section Capacity

variable {s t : State}

/-- R13 without READY: the table and the log are within their room. -/
def Capped (t : Trk) : Prop := t.table.length ≤ 16 ∧ t.table.length + t.exitLog.length ≤ 32

theorem WithinCapacity.capped (h : WithinCapacity s) : Capped s.trk := ⟨h.1, h.2.1⟩

theorem withinCapacity_reads : ReadsOnly [.trk] WithinCapacity := by
  intro s t h hs
  have htrk : t.trk = s.trk := h .trk (by decide)
  rwa [WithinCapacity, htrk]

theorem BoardsChanged.capped {t u : Trk} (h : BoardsChanged t u) (ht : Capped t) : Capped u := by
  obtain ⟨f, -, rfl⟩ := h
  simpa [Capped] using ht

theorem WithinCapacity.of_boards (h : BoardsChanged s.trk t.trk) (hs : WithinCapacity s) : WithinCapacity t := by
  obtain ⟨f, -, htrk⟩ := h
  simpa [WithinCapacity, htrk] using hs

/-- R11: READY is high only where a board can be taken. -/
theorem readyNow_room (t : Trk) (m : LineMode) (e : Bool) (g : Nat) (h : t.readyNow m e g = true) :
    t.table.length < 16 ∧ t.table.length + t.exitLog.length < 24 := by
  simp only [Trk.readyNow, Bool.and_eq_true] at h
  obtain ⟨⟨⟨⟨-, hslot⟩, hroom⟩, -⟩, -⟩ := h
  exact ⟨of_decide_eq_true hslot, of_decide_eq_true hroom⟩

theorem evalReadyOn_withinCapacity (m : LineMode) (e : Bool) (hs : Capped s.trk) : WithinCapacity (s.evalReadyOn m e) :=
  ⟨hs.1, hs.2, fun h => readyNow_room s.trk m e _ h⟩

/-- R22: a record that leaves the table takes its place in the log, so the two together hold no more than before. -/
theorem moveOut_capped {t : Trk} {b : BoardRecord} (hb : b ∈ t.table) (o : ExitOutcome) (now : RunClock) (ht : Capped t) :
    Capped (t.moveOut b o now) := by
  have hfewer : (t.table.filter fun x => x.seq != b.seq).length < t.table.length :=
    List.length_filter_lt_length_iff_exists.mpr ⟨b, hb, by simp⟩
  obtain ⟨htable, hroom⟩ := ht
  simp only [Capped, Trk.moveOut, List.length_append, List.length_singleton]
  omega

theorem mem_of_board? {t : Trk} {q : Nat} {b : BoardRecord} (h : t.board? q = some b) : b ∈ t.table :=
  List.mem_of_find?_eq_some h

theorem removeMismatch_capped (k : MismatchCause) (hs : Capped s.trk) : Capped (s.removeMismatch k).trk := by
  rw [removeMismatch_trk]; exact hs

theorem endStall_capped (hs : Capped s.trk) : Capped s.endStall.trk := by
  rw [endStall_trk]; exact hs

theorem noteEmptyTable_capped (hs : Capped s.trk) : Capped s.noteEmptyTable.trk := by
  unfold State.noteEmptyTable
  dsimp only
  split
  · split
    · exact endStall_capped hs
    · exact endStall_capped hs
  · exact hs

theorem leaveTable_capped (s : State) (q : Nat) (o : ExitOutcome) (hs : Capped s.trk) : Capped (s.leaveTable q o).trk := by
  have hspray : Capped (s.removeSprayed q).trk := (removeSprayed_boards s q).capped hs
  unfold State.leaveTable
  dsimp only
  split
  · exact hspray
  next b hb =>
    have hmoved := moveOut_capped (mem_of_board? hb) o (s.removeSprayed q).clock hspray
    have hleft {u : State} (hu : Capped u.trk) : Capped ((if u.trk.entryOcc = .board q then
        (u.setTrk { u.trk with entryOcc := .ignored }).removeMismatch .entryBlocked else u).leaveWave q).trk := by
      refine (leaveWave_boards _ q).capped ?_
      split
      · exact removeMismatch_capped _ hu
      · exact hu
    refine noteEmptyTable_capped ?_
    split
    · exact hleft hmoved
    · exact hleft hmoved

/-- R13: a board is admitted where there is room for it. -/
theorem createBoard_capped (p : Position) (r : Bool) (htable : s.trk.table.length < 16)
    (hroom : s.trk.table.length + s.trk.exitLog.length < 32) : Capped (s.createBoard p r).trk := by
  simp only [Capped, State.createBoard, event_trk, setTrk_trk, List.length_append, List.length_singleton]
  omega

/-- R11, R13: a board is admitted under READY, which says that there is room, or where there is room. -/
theorem entryLeading_capped (p : Position) (hs : WithinCapacity s) : Capped (s.entryLeading p).trk := by
  obtain ⟨htable, htotal, hready⟩ := hs
  unfold State.entryLeading
  dsimp only
  split
  · exact ⟨htable, htotal⟩
  · split
    next h =>
      obtain ⟨hslot, hroom⟩ := hready h
      exact createBoard_capped p true hslot (by omega)
    · split
      next h => exact createBoard_capped p false h.1 h.2
      · exact ⟨htable, htotal⟩

theorem entryTrailing_capped (p : Position) (hs : Capped s.trk) : Capped (s.entryTrailing p).trk := by
  unfold State.entryTrailing
  split
  · split
    · split
      · exact (updateBoard_boards s _ (by exact fun _ => rfl)).capped hs
      · exact removeMismatch_capped _ hs
    · exact hs
  all_goals exact hs

theorem entryEyeSample_capped (l : EyeLevel) (hs : WithinCapacity s) : Capped (s.entryEyeSample l).trk := by
  unfold State.entryEyeSample
  dsimp only
  split
  · exact hs.capped
  · exact hs.capped
  · exact entryLeading_capped (s := s.setTrk _) _ hs
  · exact entryTrailing_capped _ hs.capped

theorem addMismatch_capped (s : State) (k : MismatchCause) (hs : Capped s.trk) : Capped (s.addMismatch k).trk := hs

theorem exitLeading_capped (p : Position) (hs : Capped s.trk) : Capped (s.exitLeading p).trk := by
  unfold State.exitLeading
  split
  · exact hs
  · split
    · split
      · refine removeMismatch_capped _ ?_
        exact (BoardsChanged.update s.trk _ (f := fun b => { b with phase := .atExit }) fun _ => rfl).capped hs
      · exact hs
    · exact hs

theorem exitTrailing_capped (hs : Capped s.trk) : Capped s.exitTrailing.trk := by
  unfold State.exitTrailing
  dsimp only
  split
  · exact leaveTable_capped s _ _ hs
  · exact removeMismatch_capped _ hs
  all_goals exact hs

theorem exitEyeSample_capped (l : EyeLevel) (hs : Capped s.trk) : Capped (s.exitEyeSample l).trk := by
  unfold State.exitEyeSample
  dsimp only
  split
  · exact hs
  · exact hs
  · exact exitLeading_capped (s := s.setTrk _) _ hs
  · exact exitTrailing_capped (s := s.setTrk _) hs

theorem exitHeld_capped (hs : Capped s.trk) : Capped s.exitHeld.trk := by
  unfold State.exitHeld
  dsimp only
  split
  · split
    · split
      · exact leaveTable_capped s _ _ hs
      · exact hs
    · exact hs
  · exact hs

theorem entryOverrun_capped (hs : Capped s.trk) : Capped s.entryOverrun.trk := by
  unfold State.entryOverrun
  dsimp only
  split
  · split
    · split
      · split <;> exact (updateBoard_boards s _ (by exact fun _ => rfl)).capped hs
      · exact hs
    · exact hs
  · exact hs

theorem trackCount_withinCapacity (e x : EyeLevel) (hs : WithinCapacity s) : WithinCapacity (s.trackCount e x) := by
  have hstart : WithinCapacity (s.setTrk s.trk.advance).endStall := by
    rw [WithinCapacity, endStall_trk]; exact hs
  have hlost (n : Nat) (u : State) (hu : Capped u.trk) : Capped (u.loseBoards n).trk :=
    loseBoards_keeps (P := fun u => Capped u.trk) leaveTable_capped addMismatch_capped n u hu
  unfold State.trackCount
  exact evalReadyOn_withinCapacity _ _ (entryOverrun_capped (exitHeld_capped (hlost _ _
    (exitEyeSample_capped x (entryEyeSample_capped e hstart)))))

theorem storeConfig_withinCapacity (i : ConfigItem) (v : Int) (hs : WithinCapacity s) : WithinCapacity (s.storeConfig i v) := by
  cases i
  case geometry => exact hs
  case idRequired => exact evalReadyOn_withinCapacity _ _ hs.capped
  case tankLow => exact withinCapacity_reads.of_frame (evalTankLow_frame _) hs (by decide)
  case potHold => exact .of_boards (setHeat_boards (s.setPot _) _ _) hs
  case holdSetpoint => exact .of_boards (setHeat_boards (s.setPot _) _ _) hs
  all_goals exact hs

theorem trkMode_withinCapacity (m : LineMode) (hs : WithinCapacity s) : WithinCapacity (s.trkMode m) := by
  unfold State.trkMode
  refine evalReadyOn_withinCapacity _ _ ?_
  split
  · exact hs.capped
  · exact endStall_capped hs.capped

theorem stallTimerExpiry_withinCapacity (hs : WithinCapacity s) (h : exec .stallTimerExpiry s = .next t) :
    WithinCapacity t := by
  refine Host.Outcome.next.inj h ▸ ?_
  dsimp only
  split
  · split
    · have hmarked : BoardsChanged s.trk { s.trk with table := s.trk.table.map BoardRecord.markStalled } :=
        .map _ fun _ => rfl
      obtain ⟨htable, htotal⟩ := hmarked.capped hs.capped
      exact ⟨htable, htotal, by simpa [State.beginStall, State.stallSpray] using hs.2.2⟩
    · exact hs
  · exact hs

theorem clearTrack_withinCapacity (hs : WithinCapacity s) : WithinCapacity s.clearTrack.state := by
  unfold State.clearTrack
  split
  · exact hs
  · split
    · exact hs
    · have hcleared := clearBoards_keeps (P := fun u => Capped u.trk) leaveTable_capped s.trk.table.length s hs.capped
      exact evalReadyOn_withinCapacity _ _ (removeMismatch_capped _ hcleared)

theorem takeExitRecord_withinCapacity (hs : WithinCapacity s) : WithinCapacity s.takeExitRecord.state := by
  unfold State.takeExitRecord
  split
  · exact hs
  next r rest hlog =>
    refine evalReadyOn_withinCapacity _ _ ?_
    obtain ⟨htable, htotal⟩ := hs.capped
    rw [hlog, List.length_cons] at htotal
    exact ⟨htable, by rw [setTrk_trk, Trk.removeOldest]; dsimp only; omega⟩

theorem pushIdentity_withinCapacity (i : Identity) (hs : WithinCapacity s) : WithinCapacity (s.pushIdentity i).state := by
  unfold State.pushIdentity
  split
  · exact hs
  · split
    · exact hs
    · exact evalReadyOn_withinCapacity _ _ hs.capped

theorem timeOrReset_withinCapacity (h : TimeOrReset s t) (hs : WithinCapacity s) : WithinCapacity t := by
  cases h with
  | tick => exact hs
  | pin p => exact hs
  | nothing => exact hs
  | reset u r inputs =>
    refine withinCapacity_reads.of_frame (contactPass_frame _ _) ?_ (by decide)
    have htrk : (u.restart r).trk = Trk.reset := by
      rw [State.restart, (evalSupplyEmpty_frame _).trk (by decide), (evalTankLow_frame _).trk (by decide)]; rfl
    rw [WithinCapacity, htrk]
    decide

/-- Each command that writes TRK changes records in place, keeps the sizes and READY, or re-evaluates READY on what it leaves. -/
theorem step_withinCapacity (hstep : step s = .next t) (hs : WithinCapacity s) : WithinCapacity t := by
  refine step_keeps_of_writers withinCapacity_reads ?_ (by decide) s t hstep hs
  intro c s t hchar h hs hw
  have request {α : Type} {l : Link} {kind : Byte} {allowed : List Link} {args : Option α} {act : α → State → Served}
      (hact : ∀ a u, WithinCapacity u → WithinCapacity (act a u).state) : WithinCapacity (s.serve l kind allowed args act) :=
    serve_keeps s withinCapacity_reads hs hact (by decide) (by decide)
  cases c
  case stallTimerExpiry => exact stallTimerExpiry_withinCapacity hs h
  case powerOnReset | externalReset | commandedReset | runClockTick | resetPinHeldLow =>
    exact timeOrReset_withinCapacity (exec_timeOrReset rfl h) hs
  all_goals first | (exfalso; simp [touches, movesTimeOrResets, isCharacter] at hw hchar; done) | cases h
  case encoderPulse e x =>
    dsimp only
    split
    · exact hs
    · exact trackCount_withinCapacity e x hs
  case speedWindowExpiry => exact hs
  case nozzleReached q l => exact .of_boards (nozzleReached_boards (s.taken _) q l) hs
  case cellBoundary q n => exact .of_boards (cellBoundary_boards (s.taken _) q n) hs
  case nozzleCleared q => exact .of_boards (nozzleCleared_boards (s.taken _) q) hs
  case sprayInhibitChange a => exact .of_boards (sprayChange_boards (s.taken _) a) hs
  case flpSampleArrival v r => exact .of_boards (pressureSample_boards (s.taken _) v r) hs
  case gateReached q => exact .of_boards (gateReached_boards (s.taken _) q) hs
  case waveEntered q => exact .of_boards (boardEntersWave_boards (s.taken _) q) hs
  case waveLeft q => exact .of_boards (.ite (leaveWave_boards (s.taken _) q) (.refl _)) hs
  case ptsSampleArrival v r => exact .of_boards (potSample_boards (s.taken _) v r) hs
  case wvhSampleArrival v r =>
    exact .of_boards ((qualifyWave_boards (s.taken _) v r).trans (judgeBoards_boards _ v r)) hs
  case waveInhibitChange e => exact .of_boards (evalWaveOn_boards (s.taken _) _ e) hs
  case thermalSampleArrival x v r => exact .of_boards (thermalSample_boards (s.taken _) x v r) hs
  case entryInhibitChange a => exact evalReadyOn_withinCapacity (s := s.taken _) _ _ hs.capped
  case lineModeArrival b m =>
    cases b
    case pot =>
      refine withinCapacity_reads.of_frame (modeTaken_frame _ _ _) ?_ (by decide)
      exact .of_boards (potMode_boards (s.taken _) m) hs
    case flx => exact .of_boards (flxMode_boards (s.taken _) m) hs
    case trk => exact trkMode_withinCapacity (s := s.taken _) m hs
    all_goals simp [touches, movesTimeOrResets] at hw
  case activeBankArrival b k =>
    cases b
    case pot =>
      refine withinCapacity_reads.of_frame (bankTaken_frame _ _ _) ?_ (by decide)
      exact .of_boards (potBank_boards (s.taken _)) hs
    case trk => exact evalReadyOn_withinCapacity (s := s.taken _) _ _ hs.capped
    all_goals simp [touches, movesTimeOrResets] at hw
  case writeConfig l b => exact request fun a u => writeConfig_keeps (fun _ => storeConfig_withinCapacity) a.1 a.2
  case clearTrack l b => exact request fun _ u => clearTrack_withinCapacity
  case pushIdentity l b => exact request fun i u => pushIdentity_withinCapacity i
  case flushIdentities l b => exact request fun _ u hu => evalReadyOn_withinCapacity _ _ hu.capped
  case takeExitRecord l b => exact request fun _ u => takeExitRecord_withinCapacity

end Capacity

/-- Settles O57: a board is admitted only where there is room, leaving moves a record from the table to the log, and READY is
re-evaluated wherever their sizes change. -/
theorem everyStepKeepsTheTrackWithinCapacity : Obligations.EveryStepKeepsTheTrackWithinCapacity :=
  fun _ _ => step_withinCapacity

end Sys2Proof.Machine

/-! Proofs about what every step keeps of the wave and of the extraction duct (chapters 6 and 7). -/

namespace Sys2Proof.Machine

section WaveKept

variable {s t : State}

/-! ### The wave (R114, R115, R117) -/

/-- R115, R117: an OFF wave has the pump at 0 and the rise timer stopped. -/
def OffIsStill (p : Pot) : Prop := p.wave = .off → p.pumpSpeed = 0 ∧ p.riseTimer = .stopped

theorem waveSound_reads : ReadsOnly [.pot] WaveSound := by
  intro s t h hs
  have hpot : t.pot = s.pot := h .pot (by decide)
  rwa [WaveSound, hpot]

/-- What the wave's soundness looks at. -/
def SameWave (p q : Pot) : Prop :=
  q.heat.state = p.heat.state ∧ q.wave = p.wave ∧ q.pumpSpeed = p.pumpSpeed ∧ q.riseTimer = p.riseTimer

theorem WaveSound.of_same (hs : WaveSound s) (h : SameWave s.pot t.pot) : WaveSound t := by
  obtain ⟨hheat, hwave, hspeed, hrise⟩ := h
  rwa [WaveSound, hheat, hwave, hspeed, hrise]

theorem enterWave_still (s : State) (w : WaveState) : OffIsStill (s.enterWave w).pot := by
  rw [enterWave_pot]
  rintro rfl
  exact ⟨rfl, rfl⟩

/-- R111: a change of the wave bank takes no wave up or down. -/
theorem waveAgain_eq_off (w : WaveState) : waveAgain w = .off ↔ w = .off := by cases w <;> simp [waveAgain]

theorem enterWave_waveSound (w : WaveState) (h : s.pot.heat.state ≠ .ready → w = .off) : WaveSound (s.enterWave w) := by
  refine ⟨fun hheat => ?_, enterWave_still s w⟩
  rw [enterWave_pot] at hheat ⊢
  exact h hheat

/-- R114: with the pot not READY the target is OFF, whatever else holds. -/
theorem waveTarget_of_not_ready (m : LineMode) (e : WaveEffect) (head : Option GateDecision) :
    waveTarget m e false head = .off := by
  unfold waveTarget
  split
  · rfl
  · split <;> rfl

/-- R114: an evaluation of the target makes the wave sound, from an OFF wave that is still. -/
theorem evalWaveOn_waveSound (m : LineMode) (e : WaveEffect) (hstill : OffIsStill s.pot) : WaveSound (s.evalWaveOn m e) := by
  have hoff (h : s.pot.heat.state ≠ .ready) :
      waveMove s.pot.wave (waveTarget m e s.pot.isReady (s.pot.schedule.head?.map (·.decision))) = .off := by
    have hready : s.pot.isReady = false := by simpa [Pot.isReady] using h
    rw [hready, waveTarget_of_not_ready, waveMove]
  by_cases hmove : waveMove s.pot.wave (waveTarget m e s.pot.isReady (s.pot.schedule.head?.map (·.decision))) = s.pot.wave
  · rw [evalWaveOn_stays s m e _ rfl hmove]
    exact ⟨fun h => hmove.symm.trans (hoff h), hstill⟩
  · rw [evalWaveOn_moves s m e _ rfl hmove]
    exact enterWave_waveSound (s := s.setPot _) _ hoff

theorem updateWaveBank_waveSound (hs : WaveSound s) : WaveSound s.updateWaveBank := by
  unfold State.updateWaveBank
  dsimp only
  split
  · exact enterWave_waveSound (s := s.setPot _) _ fun h => (waveAgain_eq_off _).mpr (hs.1 h)
  · exact hs

theorem noteOccupancy_waveSound (hs : WaveSound s) : WaveSound s.noteOccupancy :=
  hs.of_same (by rw [noteOccupancy_pot]; exact ⟨rfl, rfl, rfl, rfl⟩)

theorem evalFeeder_waveSame (s : State) : SameWave s.pot s.evalFeeder.pot := by
  rw [evalFeeder_pot]; exact ⟨rfl, rfl, rfl, rfl⟩

theorem evalFeeder_waveSound (hs : WaveSound s) : WaveSound s.evalFeeder := hs.of_same (evalFeeder_waveSame s)

theorem appendSchedule_waveSound (e : ScheduleEntry) (hs : WaveSound s) : WaveSound (s.appendSchedule e) := by
  have happended : WaveSound (s.setPot { s.pot with schedule := s.pot.schedule ++ [e] }).noteOccupancy :=
    noteOccupancy_waveSound (s := s.setPot _) hs
  unfold State.appendSchedule
  dsimp only
  split
  · exact updateWaveBank_waveSound (evalWaveOn_waveSound _ _ happended.2)
  · exact happended

theorem leaveWave_waveSound (q : Nat) (hs : WaveSound s) : WaveSound (s.leaveWave q) := by
  have hleft : WaveSound (s.setPot { s.pot with
      schedule := s.pot.schedule.filter (fun e => e.seq != q),
      onWave := s.pot.onWave.filter (fun p => p != q) }).noteOccupancy :=
    noteOccupancy_waveSound (s := s.setPot _) hs
  unfold State.leaveWave
  dsimp only
  split
  · split
    · exact updateWaveBank_waveSound hleft
    · exact updateWaveBank_waveSound (evalWaveOn_waveSound _ _ hleft.2)
  · exact hleft

/-- R120: where the pot's readiness changes, the target is evaluated; where it stays, so may the wave. -/
theorem setHeat_waveSound (m : LineMode) (r : PotRec) (hs : WaveSound s) : WaveSound (s.setHeat m r) := by
  obtain ⟨hneeds, hstill⟩ := hs
  by_cases hready : (s.pot.heat.state == .ready) = (r.state == .ready)
  · rw [setHeat_same s m r hready]
    have hiff : s.pot.heat.state = .ready ↔ r.state = .ready := by
      rw [← beq_iff_eq (a := s.pot.heat.state), ← beq_iff_eq (a := r.state), hready]
    exact ⟨fun h => hneeds (mt hiff.mp h), hstill⟩
  · simp only [State.setHeat, if_neg hready]
    refine evalWaveOn_waveSound _ _ ?_
    obtain ⟨-, hwave, hspeed, hrise⟩ :=
      evalFeeder_waveSame ((s.setPot { s.pot with heat := r }).post [.readinessArrival (.pot r.state)])
    rw [OffIsStill, hwave, hspeed, hrise]
    exact hstill

theorem potSample_waveSound (v : Nat) (r : ReportedState) (hs : WaveSound s) : WaveSound (s.potSample v r) := by
  unfold State.potSample
  dsimp only
  split
  · exact setHeat_waveSound (s := s.post _) _ _ hs
  · exact setHeat_waveSound _ _ hs

theorem potMode_waveSound (m : LineMode) (hs : WaveSound s) : WaveSound (s.potMode m) :=
  evalWaveOn_waveSound _ _ (setHeat_waveSound _ _ hs).2

theorem potBank_waveSound (hs : WaveSound s) : WaveSound s.potBank :=
  waveSound_reads.of_frame (postWave_frame _) (updateWaveBank_waveSound (setHeat_waveSound _ _ hs)) (by decide)

/-- R116: only a wave that is up already, over a READY pot, becomes ON or DIPPED. -/
theorem qualifyWave_waveSound (v : Nat) (r : ReportedState) (hs : WaveSound s) : WaveSound (s.qualifyWave v r) := by
  have hentered {c : Prop} [Decidable c] {p : Pot} {w : WaveState} (hsame : SameWave s.pot p) (hup : s.pot.wave ≠ .off) :
      WaveSound (if c then (s.setPot p).enterWave w else s.setPot p) := by
    split
    · exact enterWave_waveSound (s := s.setPot p) w fun h => absurd (hs.1 (hsame.1 ▸ h)) hup
    · exact hs.of_same hsame
  unfold State.qualifyWave
  dsimp only
  split
  next hwave =>
    split
    · exact hentered ⟨rfl, rfl, rfl, rfl⟩ (by simp [hwave])
    · exact hs.of_same ⟨rfl, rfl, rfl, rfl⟩
  next hwave =>
    split
    · exact hentered ⟨rfl, rfl, rfl, rfl⟩ (by simp [hwave])
    · exact hs.of_same ⟨rfl, rfl, rfl, rfl⟩
  all_goals exact hs

theorem boardEntersWave_waveSound (q : Nat) (hs : WaveSound s) : WaveSound (s.boardEntersWave q) := by
  unfold State.boardEntersWave
  dsimp only
  split
  · split <;> exact noteOccupancy_waveSound hs
  · exact hs

theorem feederOn_waveSound (w : ContactLevel) (f : Bool) (hs : WaveSound s) : WaveSound (s.feederOn w f) :=
  hs.of_same (by rw [feederOn_pot]; exact ⟨rfl, rfl, rfl, rfl⟩)

theorem wireTransition_waveSound (tr : Transition) (hs : WaveSound s) : WaveSound (s.wireTransition tr) := by
  unfold State.wireTransition
  dsimp only
  split <;> exact feederOn_waveSound _ _ hs

theorem levelSample_waveSound (v : Nat) (r : ReportedState) (hs : WaveSound s) : WaveSound (s.levelSample v r) := by
  unfold State.levelSample
  split <;> exact evalFeeder_waveSound hs

theorem feedSecond_waveSound (hs : WaveSound s) : WaveSound s.feedSecond := by
  unfold State.feedSecond
  dsimp only
  split <;> exact evalFeeder_waveSound hs

theorem minuteTimerExpiry_waveSound (p : Pot) (c : Prop) [Decidable c] (hs : WaveSound (s.setPot p)) : WaveSound
    (if c then ((s.setPot p).setPot { (s.setPot p).pot with runaway := false }).endAlarm Alarm.feedRunaway
      else s.setPot p).evalFeeder := by
  split <;> exact evalFeeder_waveSound hs

theorem gateReached_waveSound (q : Nat) (hs : WaveSound s) : WaveSound (s.gateReached q) := by
  unfold State.gateReached
  dsimp only
  split
  · exact hs
  · split
    · exact hs
    · exact waveSound_reads.of_frame ((event_frame _ _).after (post_frame _ _) : SameBut [.links, .posted] _ _)
        (appendSchedule_waveSound (s := s.updateBoard _ _) _ hs) (by decide)

theorem leaveTable_waveSound (q : Nat) (o : ExitOutcome) (hs : WaveSound s) : WaveSound (s.leaveTable q o) :=
  leaveTable_keeps waveSound_reads (fun s q h => waveSound_reads.of_frame (removeSprayed_frame s q) h (by decide))
    (fun _ q => leaveWave_waveSound q) q o hs (by decide)

theorem storeConfig_waveSound (i : ConfigItem) (v : Int) (hs : WaveSound s) : WaveSound (s.storeConfig i v) := by
  cases i
  case tankLow => exact waveSound_reads.of_frame (evalTankLow_frame _) hs (by decide)
  case potHold | holdSetpoint => exact setHeat_waveSound (s := s.setPot _) _ _ hs
  all_goals exact hs

theorem riseTimerExpiry_waveSound (hs : WaveSound s) (h : exec .riseTimerExpiry s = .next t) : WaveSound t := by
  refine Host.Outcome.next.inj h ▸ ?_
  dsimp only
  split
  next hrising =>
    have hup : s.pot.wave ≠ .off := by simp [hrising.2]
    exact ⟨hs.1, fun hoff => absurd hoff hup⟩
  · exact hs

theorem restart_pot (r : Rtr) (u : State) : (u.restart r).pot = Pot.reset := by
  rw [State.restart, (evalSupplyEmpty_frame _).pot (by decide), (evalTankLow_frame _).pot (by decide)]
  rfl

theorem timeOrReset_waveSound (h : TimeOrReset s t) (hs : WaveSound s) : WaveSound t := by
  cases h with
  | tick =>
    refine ⟨hs.1, fun hoff => ?_⟩
    obtain ⟨hspeed, hrise⟩ := hs.2 hoff
    exact ⟨hspeed, congrArg Timer.tick hrise⟩
  | pin p => exact hs
  | nothing => exact hs
  | reset u r inputs =>
    refine waveSound_reads.of_frame (contactPass_frame _ _) ?_ (by decide)
    rw [WaveSound, restart_pot]
    decide

/-- R114, R115, R117: each command that writes POT's record evaluates the target, enters a wave state, or
leaves the wave alone. -/
theorem step_waveSound (hstep : step s = .next t) (hs : WaveSound s) : WaveSound t := by
  refine step_keeps_of_writers waveSound_reads ?_ (by decide) s t hstep hs
  intro c s t hchar h hs hw
  have request {α : Type} {l : Link} {kind : Byte} {allowed : List Link} {args : Option α} {act : α → State → Served}
      (hact : ∀ a u, WaveSound u → WaveSound (act a u).state) : WaveSound (s.serve l kind allowed args act) :=
    serve_keeps s waveSound_reads hs hact (by decide) (by decide)
  cases c
  case riseTimerExpiry => exact riseTimerExpiry_waveSound hs h
  case powerOnReset | externalReset | commandedReset | runClockTick | resetPinHeldLow =>
    exact timeOrReset_waveSound (exec_timeOrReset rfl h) hs
  all_goals first | (exfalso; simp [touches, movesTimeOrResets, isCharacter] at hw hchar; done) | cases h
  case encoderPulse e x =>
    dsimp only
    split
    · exact hs
    · exact trackCount_keeps waveSound_reads (fun _ q o => leaveTable_waveSound q o) e x hs (by decide)
  case gateReached q => exact gateReached_waveSound (s := s.taken _) q hs
  case waveEntered q => exact boardEntersWave_waveSound (s := s.taken _) q hs
  case waveLeft q =>
    split
    · exact leaveWave_waveSound (s := s.taken _) q hs
    · exact hs
  case ptsSampleArrival v r => exact potSample_waveSound (s := s.taken _) v r hs
  case wvhSampleArrival v r =>
    exact waveSound_reads.of_frame (judgeBoards_frame _ v r) (qualifyWave_waveSound (s := s.taken _) v r hs) (by decide)
  case waveInhibitChange e => exact evalWaveOn_waveSound (s := s.taken _) _ e hs.2
  case plvSampleArrival v r => exact levelSample_waveSound (s := s.taken _) v r hs
  case pumpRunTransition tr => exact hs
  case wirePresentTransition tr => exact wireTransition_waveSound (s := s.taken _) tr hs
  case feedInhibitChange a => exact feederOn_waveSound (s := s.taken _) _ _ hs
  case pumpFaultAcknowledged => exact hs
  case recordIdleArrival r => exact evalFeeder_waveSound (s := (s.taken _).setPot _) (by cases r <;> exact hs)
  case lineModeArrival b m =>
    cases b
    case pot => exact waveSound_reads.of_frame (modeTaken_frame _ _ _) (potMode_waveSound (s := s.taken _) m hs) (by decide)
    all_goals simp [touches, movesTimeOrResets] at hw
  case activeBankArrival b k =>
    cases b
    case pot => exact waveSound_reads.of_frame (bankTaken_frame _ _ _) (potBank_waveSound (s := s.taken _) hs) (by decide)
    all_goals simp [touches, movesTimeOrResets] at hw
  case potHeaterWindow => exact hs
  case potHeaterOnEnd =>
    refine hs.of_same ⟨?_, rfl, rfl, rfl⟩
    rw [setPot_pot, PotRec.onEnd]
    split <;> rfl
  case settleTimerExpiry =>
    split
    · exact evalFeeder_waveSound hs
    · exact hs
  case feedingSecond =>
    split
    · exact feedSecond_waveSound hs
    · exact hs
  case minuteTimerExpiry => exact minuteTimerExpiry_waveSound _ _ hs
  case pumpRunTimerExpiry => split <;> exact hs
  case writeConfig l b => exact request fun a u => writeConfig_keeps (fun _ => storeConfig_waveSound) a.1 a.2
  case clearTrack l b =>
    exact request fun _ u hu => clearTrack_keeps waveSound_reads (fun _ q o => leaveTable_waveSound q o) hu (by decide)

end WaveKept

section DuctKept

variable {s t : State}

/-! ### The duct (R122, R125 to R127) -/

theorem ductSound_reads : ReadsOnly [.exm] DuctSound := by
  intro s t h hs
  have hexm : t.exm = s.exm := h .exm (by decide)
  rwa [DuctSound, hexm]

/-- What the duct's soundness looks at, but for the count of low samples in NORMAL. -/
structure SameDuct (e f : Exm) : Prop where
  duct           : f.duct = e.duct
  duty           : f.duty = e.duty
  outputs        : f.outputs = e.outputs
  recoveryTimer  : f.recoveryTimer.isRunning = e.recoveryTimer.isRunning
  ductLow        : f.ductLow = e.ductLow
  extractionLost : f.extractionLost = e.extractionLost
  recoveryCount  : e.duct = .normal → f.recoveryCount = e.recoveryCount
  lowCount       : e.duct ≠ .normal → f.lowCount = e.lowCount

theorem DuctSound.of_same (hs : DuctSound s) (h : SameDuct s.exm t.exm) : DuctSound t := by
  obtain ⟨hduty, hchangeover, hlost, htimer, hlow, hextraction, hrecovery, hcount⟩ := hs
  unfold DuctSound
  simp only [h.duct, h.duty, h.outputs, h.recoveryTimer, h.ductLow, h.extractionLost]
  exact ⟨hduty, hchangeover, hlost, htimer, hlow, hextraction, fun hn => (h.recoveryCount hn).trans (hrecovery hn),
    fun hn => (h.lowCount hn).trans (hcount hn)⟩

/-- R122: a fan driven has the output it is driven to, the other keeps its own, and but for the fan timers
nothing else of EXM's record changes. -/
theorem driveFan_exm_eq (s : State) (f : Fan) (on : Bool) : ∃ ts, (s.driveFan f on).exm =
    { s.exm with outputs := s.exm.outputs.setFan f on, fanTimers := ts } := by
  rw [driveFan_exm]
  split
  next h =>
    have hkept : s.exm.outputs.setFan f on = s.exm.outputs := by cases f <;> simp [← h, Pair.setFan, Pair.fan]
    exact ⟨s.exm.fanTimers, by rw [hkept]⟩
  next => exact ⟨_, rfl⟩

/-- Two fans driven, one after the other. -/
theorem driveFans_exm_eq (s : State) (f g : Fan) (on off : Bool) :
    ∃ ts, ((s.driveFan f on).driveFan g off).exm =
      { s.exm with outputs := (s.exm.outputs.setFan f on).setFan g off, fanTimers := ts } := by
  obtain ⟨ts, hfirst⟩ := driveFan_exm_eq s f on
  obtain ⟨ts', hsecond⟩ := driveFan_exm_eq (s.driveFan f on) g off
  exact ⟨ts', by rw [hsecond, hfirst]⟩

/-- R125: a changeover drives the other fan and takes the duty from the one that was on it. -/
theorem changeover_ductSound (s : State) (hextraction : s.exm.extractionLost = false) : DuctSound s.changeover := by
  obtain ⟨ts, hexm⟩ := driveFans_exm_eq s s.exm.duty.other s.exm.duty true false
  unfold State.changeover DuctSound
  simp only [raiseAlarm_exm, setExm_exm, hexm, hextraction]
  simp [Timer.start, Timer.isRunning, Pair.fan_setFan_self]

theorem ductReturn_ductSound (hs : DuctSound s) : DuctSound s.ductReturn := by
  obtain ⟨hduty, -, -, -, -, hextraction, -, -⟩ := hs
  have hexm : s.ductReturn.exm = { s.exm with
      duct := .normal, lowCount := 0, recoveryCount := 0, recoveryTimer := .stopped, lastRecovery := some s.clock,
      ductLow := false, extractionLost := if s.exm.duct == .lost then false else s.exm.extractionLost } := by
    unfold State.ductReturn
    dsimp only
    split <;> rfl
  unfold DuctSound
  rw [hexm]
  refine ⟨hduty, by simp, by simp, by simp [Timer.isRunning], by simp, ?_, by simp, by simp⟩
  by_cases hlost : s.exm.duct = .lost
  · simp [hlost]
  · simpa [hlost] using mt hextraction.mp hlost

theorem suctionSample_ductSound (v : Nat) (r : ReportedState) (hs : DuctSound s) : DuctSound (s.suctionSample v r) := by
  have hextraction (hn : s.exm.duct = .normal) : s.exm.extractionLost = false := by
    obtain ⟨-, -, -, -, -, hlost, -⟩ := hs
    simpa [hn] using hlost
  have hrecovery (good : Bool) (hn : s.exm.duct ≠ .normal) : DuctSound (s.suctionRecovery good) := by
    unfold State.suctionRecovery
    split
    · split
      · exact ductReturn_ductSound hs
      · exact hs.of_same ⟨rfl, rfl, rfl, rfl, rfl, rfl, fun h => absurd h hn, fun _ => rfl⟩
    · exact hs.of_same ⟨rfl, rfl, rfl, rfl, rfl, rfl, fun h => absurd h hn, fun _ => rfl⟩
  unfold State.suctionSample
  split
  next hn =>
    unfold State.suctionNormal
    split
    · split
      · exact changeover_ductSound s (hextraction hn)
      · exact hs.of_same ⟨rfl, rfl, rfl, rfl, rfl, rfl, fun _ => rfl, fun h => absurd hn h⟩
    · exact hs.of_same ⟨rfl, rfl, rfl, rfl, rfl, rfl, fun _ => rfl, fun h => absurd hn h⟩
  next hn => exact hrecovery _ (by simp [hn])
  next hn => exact hrecovery _ (by simp [hn])

theorem fanTransition_ductSound (f : Fan) (tr : Transition) (hs : DuctSound s) : DuctSound (s.fanTransition f tr) := by
  unfold State.fanTransition
  dsimp only
  split
  · split <;> exact hs
  all_goals split <;> exact hs

theorem fanFault_ductSound (f : Fan) (hs : DuctSound s) : DuctSound (s.fanFault f) := by
  unfold State.fanFault
  dsimp only
  split
  next h =>
    refine changeover_ductSound _ ?_
    obtain ⟨-, -, -, -, -, hlost, -⟩ := hs
    simpa [h.1] using hlost
  · exact hs

/-- R127: a duct that is lost has both fans on. -/
theorem loseDuct_ductSound (hs : DuctSound s) (hchange : s.exm.duct = .changeover) : DuctSound s.loseDuct := by
  obtain ⟨-, -, -, -, hlow, -, -, hcount⟩ := hs
  obtain ⟨ts, hexm⟩ := driveFans_exm_eq s s.exm.duty s.exm.duty.other true true
  have hlow' : s.exm.ductLow = true := hlow.mpr (by simp [hchange])
  have hcount' : s.exm.lowCount = 0 := hcount (by simp [hchange])
  unfold State.loseDuct DuctSound
  simp only [raiseAlarm_exm, setExm_exm, hexm]
  refine ⟨?_, by simp, ?_, by simp [Timer.isRunning], by simp [hlow'], by simp, by simp, fun _ => hcount'⟩
  · cases s.exm.duty <;> rfl
  · cases s.exm.duty <;> exact fun _ => rfl

theorem filterCheck_ductSound (hs : DuctSound s) : DuctSound s.filterCheck := by
  unfold State.filterCheck
  dsimp only
  split <;> exact hs

theorem selectFan_ductSound (n : Nat) (hs : DuctSound s) : DuctSound (s.selectFan n).state := by
  unfold State.selectFan
  dsimp only
  split
  · exact hs
  next f _ =>
    split
    · exact hs
    next hn =>
      split
      · exact hs
      · have hduct : s.exm.duct = .normal := not_not.mp hn
        obtain ⟨-, -, -, htimer, hlow, hextraction, hrecovery, -⟩ := hs
        obtain ⟨ts, hexm⟩ := driveFans_exm_eq s f f.other true false
        unfold DuctSound
        rw [done_state, event_exm, setExm_exm, hexm]
        simp only [hduct] at htimer hlow hextraction hrecovery ⊢
        refine ⟨?_, by simp, by simp, htimer, hlow, hextraction, hrecovery, by simp⟩
        cases f <;> rfl

theorem tick_isRunning (tm : Timer) : tm.tick.isRunning = tm.isRunning := by cases tm <;> rfl

theorem storeConfig_ductSound (i : ConfigItem) (v : Int) (hs : DuctSound s) : DuctSound (s.storeConfig i v) := by
  cases i
  case tankLow => exact ductSound_reads.of_frame (evalTankLow_frame _) hs (by decide)
  case potHold | holdSetpoint => exact ductSound_reads.of_frame (evaluatePot_frame _ _) hs (by decide)
  all_goals exact hs

theorem restart_exm (r : Rtr) (u : State) : (u.restart r).exm = Exm.reset := by
  rw [State.restart, (evalSupplyEmpty_frame _).exm (by decide), (evalTankLow_frame _).exm (by decide)]
  rfl

theorem timeOrReset_ductSound (h : TimeOrReset s t) (hs : DuctSound s) : DuctSound t := by
  cases h with
  | tick => exact hs.of_same ⟨rfl, rfl, rfl, tick_isRunning _, rfl, rfl, fun _ => rfl, fun _ => rfl⟩
  | pin p => exact hs
  | nothing => exact hs
  | reset u r inputs =>
    refine ductSound_reads.of_frame (contactPass_frame _ _) ?_ (by decide)
    rw [DuctSound, restart_exm]
    decide

/-- R122, R125 to R127: each command that writes EXM's record moves the duct between its states or leaves the state alone. -/
theorem step_ductSound (hstep : step s = .next t) (hs : DuctSound s) : DuctSound t := by
  refine step_keeps_of_writers ductSound_reads ?_ (by decide) s t hstep hs
  intro c s t hchar h hs hw
  have request {α : Type} {l : Link} {kind : Byte} {allowed : List Link} {args : Option α} {act : α → State → Served}
      (hact : ∀ a u, DuctSound u → DuctSound (act a u).state) : DuctSound (s.serve l kind allowed args act) :=
    serve_keeps s ductSound_reads hs hact (by decide) (by decide)
  cases c
  case powerOnReset | externalReset | commandedReset | runClockTick | resetPinHeldLow =>
    exact timeOrReset_ductSound (exec_timeOrReset rfl h) hs
  all_goals first | (exfalso; simp [touches, movesTimeOrResets, isCharacter] at hw hchar; done) | cases h
  case dspSampleArrival v r => exact suctionSample_ductSound (s := s.taken _) v r hs
  case fdpSampleArrival v r => exact hs
  case fanRunTransition f tr => exact fanTransition_ductSound (s := s.taken _) f tr hs
  case recoveryTimerExpiry =>
    split
    next hrun => exact loseDuct_ductSound hs hrun.2
    next => exact hs
  case fanFaultTimerExpiry f =>
    split
    · exact fanFault_ductSound f hs
    · exact hs
  case filterCheckTimerExpiry => exact filterCheck_ductSound hs
  case lineModeArrival b m =>
    cases b
    case exm =>
      rw [State.takeModeAs, State.takeMode, State.exmMode]
      split <;> exact hs
    all_goals simp [touches, movesTimeOrResets] at hw
  case activeBankArrival b k => cases b <;> simp [touches, movesTimeOrResets] at hw
  case writeConfig l b => exact request fun a u => writeConfig_keeps (fun _ => storeConfig_ductSound) a.1 a.2
  case selectFan l b => exact request fun f u => selectFan_ductSound f
  case clearStamps l b => exact request fun _ u hu => hu

end DuctKept

/-- Settles O58: both properties are kept by every command that writes POT's record or EXM's. -/
theorem everyStepKeepsTheWaveAndTheDuctSound : Obligations.EveryStepKeepsTheWaveAndTheDuctSound := by
  intro s t h
  exact ⟨step_waveSound h, step_ductSound h⟩

end Sys2Proof.Machine

/-! Proofs about what every step keeps: the alarm records and the WAVE effect state (chapter 8). -/

namespace Sys2Proof.Machine

section AlarmsKept

variable {s t : State}

/-! ### The causes of the inhibits go by the records' states (R145, R146) -/

/-- Two AIM states with the same record states, flags, effect state and occupancy. -/
structure SameCauses (a b : Aim) : Prop where
  states     : ∀ i : AlarmId, b.records[i].state = a.records[i].state
  asserted   : b.asserted = a.asserted
  waveEffect : b.waveEffect = a.waveEffect
  solderOcc  : b.solderOcc = a.solderOcc

theorem SameCauses.causeSet {a b : Aim} (h : SameCauses a b) (n : Inhibit) : b.causeSet n = a.causeSet n := by
  simp only [Aim.causeSet, Aim.holds, h.states]

theorem SameCauses.inhibitActive {a b : Aim} (h : SameCauses a b) (n : Inhibit) : b.inhibitActive n = a.inhibitActive n := by
  rw [Aim.inhibitActive, Aim.inhibitActive, h.causeSet, h.asserted]

theorem SameCauses.waveImmediate {a b : Aim} (h : SameCauses a b) : b.waveImmediate = a.waveImmediate := by
  rw [Aim.waveImmediate, Aim.waveImmediate, h.causeSet, h.asserted]

/-- Reading a record after one of them was replaced. -/
theorem records_set (rs : Vector AlarmRecord 37) (i j : AlarmId) (r : AlarmRecord) :
    (rs.set i r)[j] = if j = i then r else rs[j] := by
  by_cases h : j = i
  · simp [h]
  · have hval : i.val ≠ j.val := fun e => h (Fin.ext e.symm)
    simp [h, hval]

/-- A record replaced by one in the same state changes no cause. -/
theorem sameCauses_set (a : Aim) (i : AlarmId) (r : AlarmRecord) (h : a.records[i].state = r.state) :
    SameCauses a { a with records := a.records.set i r } where
  states j := by
    rw [records_set]
    split
    next e => rw [e, h]
    next => rfl
  asserted := rfl
  waveEffect := rfl
  solderOcc := rfl

/-! ### The WAVE effect state (R148) -/

theorem waveEffectSound_reads : ReadsOnly [.aim] WaveEffectSound := by
  intro s t h hs
  have haim : t.aim = s.aim := h .aim (by decide)
  rwa [WaveEffectSound, haim]

/-- R146, R148: an immediate cause is a cause. -/
theorem inhibitActive_of_waveImmediate (a : Aim) (h : a.waveImmediate = true) : a.inhibitActive .wave = true := by
  rw [Aim.waveImmediate, Bool.or_eq_true] at h
  rw [Aim.inhibitActive, Bool.or_eq_true]
  refine h.imp id fun hany => ?_
  obtain ⟨i, hi, -⟩ := List.any_eq_true.mp hany
  cases hset : a.causeSet .wave with
  | nil => rw [hset] at hi; cases hi
  | cons => rfl

/-- R148: the effect state that AIM's sets call for is the one they go with. -/
theorem aimBecomes_waveEffectSound (a : Aim) : WaveEffectSound (s.aimBecomes a) := by
  rw [WaveEffectSound, aimBecomes_aim]
  change (a.nextWaveEffect = .inactive ↔ a.inhibitActive .wave = false) ∧
    (a.nextWaveEffect = .pending → a.waveImmediate = false ∧ a.solderOcc = true)
  unfold Aim.nextWaveEffect waveNext
  by_cases himm : a.waveImmediate = true
  · simp [himm, inhibitActive_of_waveImmediate a himm]
  · cases a.inhibitActive .wave
    · simp [himm]
    · cases a.waveEffect <;> cases hocc : a.solderOcc <;> simp [himm]

theorem setRecord_waveEffectSound (i : AlarmId) (r : AlarmRecord) (c : RecordCause) (hs : WaveEffectSound s) :
    WaveEffectSound (s.setRecord i r c) := by
  by_cases h : s.aim.records[i].state = r.state
  · rw [setRecord_of_eq s c h]
    have hsame := sameCauses_set s.aim i r h
    rw [WaveEffectSound, setAim_aim, hsame.inhibitActive, hsame.waveImmediate]
    exact hs
  · rw [setRecord_of_ne s c h]
    exact waveEffectSound_reads.of_frame (post_frame _ _) (aimBecomes_waveEffectSound _) (by decide)

/-! ### The alarm records (R137, R139 to R141) -/

theorem alarmsSound_reads : ReadsOnly [.aim] AlarmsSound := by
  intro s t h hs
  have haim : t.aim = s.aim := h .aim (by decide)
  rwa [AlarmsSound, haim]

theorem aimBecomes_alarmsSound (a : Aim) (hrecords : a.records = s.aim.records) (hs : AlarmsSound s) :
    AlarmsSound (s.aimBecomes a) := by
  rw [AlarmsSound, aimBecomes_aim]
  intro i
  simpa only [hrecords] using hs i

theorem setRecord_alarmsSound (i : AlarmId) (r : AlarmRecord) (c : RecordCause) (hs : AlarmsSound s)
    (hr : RecordSound (alarmLatching i) r) : AlarmsSound (s.setRecord i r c) := by
  intro j
  rw [setRecord_records, records_set]
  split
  next e => rwa [e]
  next => exact hs j

theorem idle_recordSound (latching : Bool) : RecordSound latching .idle :=
  ⟨fun _ => ⟨rfl, rfl, rfl⟩, fun h => absurd rfl h, fun _ => by decide⟩

theorem raised_recordSound {latching : Bool} {r : AlarmRecord} (now : RunClock) (hr : RecordSound latching r) :
    RecordSound latching (r.raised now) := by
  obtain ⟨-, hcounted, -⟩ := hr
  unfold AlarmRecord.raised
  cases hstate : r.state with
  | idle => exact ⟨by simp, by simp, by simp⟩
  | activeUnack | returnedUnack | activeAck =>
    obtain ⟨hlow, hhigh, hfirst, -⟩ := hcounted (by simp [hstate])
    refine ⟨by simp, fun _ => ⟨?_, ?_, hfirst, rfl⟩, by simp⟩ <;> simp only [satAdd] <;> omega

theorem ended_recordSound {latching : Bool} {r : AlarmRecord} (hr : RecordSound latching r) :
    RecordSound latching (r.ended latching) := by
  obtain ⟨-, hcounted, -⟩ := id hr
  unfold AlarmRecord.ended
  cases hstate : r.state with
  | activeUnack =>
    cases latching with
    | false => exact idle_recordSound false
    | true => exact ⟨by simp, fun _ => hcounted (by simp [hstate]), by simp⟩
  | activeAck => exact idle_recordSound latching
  | returnedUnack | idle => exact hr

theorem acked_recordSound {latching : Bool} {r r' : AlarmRecord} (h : r.acked? = some r') (hr : RecordSound latching r) :
    RecordSound latching r' := by
  obtain ⟨-, hcounted, -⟩ := hr
  cases hstate : r.state <;> simp only [AlarmRecord.acked?, hstate] at h <;> cases h
  case activeUnack => exact ⟨by simp, fun _ => hcounted (by simp [hstate]), by simp⟩
  case returnedUnack => exact idle_recordSound latching

/-! ### Both, over the commands that write AIM's record -/

/-- A property of AIM's record that a record's own moves, AIM's taking on of its sets, and a reset keep. -/
structure AimKept (P : State → Prop) : Prop where
  reads      : ReadsOnly [.aim] P
  aimBecomes : ∀ (s : State) (a : Aim), a.records = s.aim.records → P s → P (s.aimBecomes a)
  setRecord  : ∀ (s : State) (i : AlarmId) (r : AlarmRecord) (c : RecordCause),
    (RecordSound (alarmLatching i) s.aim.records[i] → RecordSound (alarmLatching i) r) → P s → P (s.setRecord i r c)
  setLevels  : ∀ (s : State) (v : Vector ContactLevel 5), P s → P (s.setAim { s.aim with levels := v })
  reset      : ∀ s : State, s.aim = Aim.reset → P s

theorem alarmsSound_aimKept : AimKept AlarmsSound where
  reads := alarmsSound_reads
  aimBecomes _ a h hs := aimBecomes_alarmsSound a h hs
  setRecord _ i r c h hs := setRecord_alarmsSound i r c hs (h (hs i))
  setLevels _ _ hs := hs
  reset s h := by
    rw [AlarmsSound, h]
    unfold RecordSound
    decide

theorem waveEffectSound_aimKept : AimKept WaveEffectSound where
  reads := waveEffectSound_reads
  aimBecomes _ a _ _ := aimBecomes_waveEffectSound a
  setRecord _ i r c _ hs := setRecord_waveEffectSound i r c hs
  setLevels _ _ hs := hs
  reset s h := by
    rw [WaveEffectSound, h]
    decide

variable {P : State → Prop}

theorem AimKept.takeRaise (hP : AimKept P) (i : AlarmId) (hs : P s) : P (s.takeRaise i) :=
  hP.reads.of_frame (post_frame _ _) (hP.setRecord s i _ _ (raised_recordSound _) hs) (by decide)

theorem AimKept.takeEnd (hP : AimKept P) (i : AlarmId) (hs : P s) : P (s.takeEnd i) :=
  hP.setRecord s i _ _ ended_recordSound hs

theorem AimKept.ackAlarm (hP : AimKept P) (l : Link) (n : Nat) (hs : P s) : P (s.ackAlarm l n).state := by
  unfold State.ackAlarm
  split
  next hn =>
    dsimp only
    split
    · exact hs
    · split
      · exact hs
      next r hr =>
        exact hP.reads.of_frame (post_frame _ _) (hP.setRecord s ⟨n, hn⟩ r (ackCause l) (acked_recordSound hr) hs) (by decide)
  · exact hs

theorem AimKept.assertInhibit (hP : AimKept P) (n : Inhibit) (v : Bool) (hs : P s) : P (s.assertInhibit n v).state := by
  unfold State.assertInhibit
  split
  · exact hs
  · exact hP.aimBecomes s _ rfl hs

theorem AimKept.safetyContact (hP : AimKept P) (c : SafetyContact) (tr : Transition) (hs : P s) : P (s.safetyContact c tr) := by
  have hlevel := hP.setLevels s (s.aim.levels.set c.index tr.level) hs
  unfold State.safetyContact
  dsimp only
  split
  · exact hP.reads.of_frame (raiseAlarm_frame _ _) hlevel (by decide)
  · exact hP.reads.of_frame (endAlarm_frame _ _) hlevel (by decide)
  · exact hlevel

theorem restart_aim (r : Rtr) (u : State) : (u.restart r).aim = Aim.reset := by
  rw [State.restart, (evalSupplyEmpty_frame _).aim (by decide), (evalTankLow_frame _).aim (by decide)]
  rfl

theorem AimKept.timeOrReset (hP : AimKept P) (h : TimeOrReset s t) (hs : P s) : P t := by
  cases h with
  | tick | pin | nothing => exact hP.reads s _ (fun p hp => by rw [List.mem_singleton] at hp; subst hp; rfl) hs
  | reset u r inputs => exact hP.reads.of_frame (contactPass_frame _ _) (hP.reset _ (restart_aim r u)) (by decide)

/-- R137, R139 to R141, R148: each command that writes AIM's record moves one record soundly or has AIM take on its sets. -/
theorem AimKept.step (hP : AimKept P) (hstep : step s = .next t) (hs : P s) : P t := by
  have taken (c : Instr) (u : State) (hu : P u) : P (u.taken c) := hP.reads.of_frame (taken_frame u c) hu (by decide)
  refine step_keeps_of_writers hP.reads ?_ (by decide) s t hstep hs
  intro c s t hchar h hs hw
  have request {α : Type} {l : Link} {kind : Byte} {allowed : List Link} {args : Option α} {act : α → State → Served}
      (hact : ∀ a u, P u → P (act a u).state) : P (s.serve l kind allowed args act) :=
    serve_keeps s hP.reads hs hact (by decide) (by decide)
  cases c
  case powerOnReset | externalReset | commandedReset | runClockTick | resetPinHeldLow =>
    exact hP.timeOrReset (exec_timeOrReset rfl h) hs
  all_goals first | (exfalso; simp [touches, movesTimeOrResets, isCharacter] at hw hchar; done) | cases h
  case alarmRaise i => exact hP.takeRaise i (taken _ s hs)
  case alarmEnd i => exact hP.takeEnd i (taken _ s hs)
  case safetyContactTransition c tr => exact hP.safetyContact c tr (taken _ s hs)
  case solderOccupancyArrival o => exact hP.aimBecomes _ _ rfl (taken _ s hs)
  case lineModeArrival b m => cases b <;> simp [touches, movesTimeOrResets] at hw
  case activeBankArrival b k => cases b <;> simp [touches, movesTimeOrResets] at hw
  case ackAlarm l b => exact request fun n u => hP.ackAlarm l n
  case assertInhibit l b => exact request fun n u => hP.assertInhibit n true
  case releaseInhibit l b => exact request fun n u => hP.assertInhibit n false

end AlarmsKept

end Sys2Proof.Machine

/-! Proofs about what every step keeps: the links (chapter 10), by which operations copy events into the queues. -/

namespace Sys2Proof.Machine

section EventsCopied

variable (s : State)

/-! ### Events copied into the queues (R186) -/

/-- Every link has its record of before, with some events copied in. -/
def EventsCopied (s t : State) : Prop :=
  ∃ es : List EventRecord, ∀ l, t.link l = es.foldl (fun k r => k.copyEvent r) (s.link l)

theorem EventsCopied.of_links {s t : State} (h : t.links = s.links) : EventsCopied s t :=
  ⟨[], fun l => congrArg (PerLink.get · l) h⟩

theorem EventsCopied.refl : EventsCopied s s := .of_links rfl

theorem EventsCopied.trans {s t u : State} (h : EventsCopied s t) (h' : EventsCopied t u) : EventsCopied s u := by
  obtain ⟨es, hes⟩ := h
  obtain ⟨es', hes'⟩ := h'
  exact ⟨es ++ es', fun l => by rw [hes' l, hes l, List.foldl_append]⟩

/-- After something that leaves the links alone. -/
theorem EventsCopied.frame {ps : List Part} {s t u : State} (h : EventsCopied s t) (hframe : SameBut ps t u)
    (hlinks : ps.contains .links = false) : EventsCopied s u :=
  h.trans (.of_links (hframe.links (by simpa using hlinks)))

theorem EventsCopied.of_frame {ps : List Part} {s t : State} (hframe : SameBut ps s t)
    (hlinks : ps.contains .links = false) : EventsCopied s t :=
  .of_links (hframe.links (by simpa using hlinks))

theorem EventsCopied.ite {c : Prop} [Decidable c] {s t u : State} (h : EventsCopied s t) (h' : EventsCopied s u) :
    EventsCopied s (if c then t else u) := by
  split <;> assumption

theorem event_copied (e : Event) : EventsCopied s (s.event e) := ⟨[⟨s.clock, e⟩], fun l => event_link s e l⟩

/-- An event posted after other operations. -/
theorem EventsCopied.event {s t : State} (h : EventsCopied s t) (e : Event) : EventsCopied s (t.event e) :=
  h.trans (event_copied t e)

/-! ### Flux Controller -/

theorem switchTank_copied : EventsCopied s s.switchTank :=
  (EventsCopied.of_frame ((setAmount_frame s _ _).trans (setActiveTank_frame _ _)) rfl).event _

theorem draw_copied (d : Nat) : EventsCopied s (s.draw d).1 := by
  unfold State.draw
  dsimp only
  split
  · exact .of_frame (deduct_frame s _ _) rfl
  · split
    · split
      · exact (switchTank_copied s).frame (deduct_frame _ _ _) rfl
      · exact (switchTank_copied s).frame (failDraw_frame _) rfl
    · exact .of_frame (failDraw_frame s) rfl

theorem treatCell_copied (q : Nat) (a : SprayAction) : EventsCopied s (s.treatCell q a) := by
  unfold State.treatCell
  split
  · exact .of_frame (setCell_frame s _ _) rfl
  · split
    · exact (EventsCopied.of_frame (updateBoard_frame s _ _) rfl).frame (setCell_frame _ _ _) rfl
    · split
      · exact (EventsCopied.of_frame (updateBoard_frame s _ _) rfl).frame (setCell_frame _ _ _) rfl
      · dsimp only
        split
        · exact ((draw_copied s _).frame (updateBoard_frame _ _ _) rfl).frame (setCell_frame _ _ _) rfl
        · exact ((draw_copied s _).frame (updateBoard_frame _ _ _) rfl).frame (setCell_frame _ _ _) rfl

theorem applyCell_copied (b : BoardRecord) (n : Nat) : EventsCopied s (s.applyCell b n) := by
  have hcell (f : Flx) (a : SprayAction) : EventsCopied s ((s.setFlx f).treatCell b.seq a) :=
    (EventsCopied.of_frame (setFlx_frame s f) rfl).trans (treatCell_copied _ _ _)
  unfold State.applyCell
  dsimp only
  split
  · exact (hcell _ _).event _
  · exact hcell _ _

theorem nozzleReached_copied (q : Nat) (length : Option Nat) : EventsCopied s (s.nozzleReached q length) := by
  unfold State.nozzleReached
  split
  · exact .refl s
  · split
    · exact .of_frame (updateBoard_frame s _ _) rfl
    · exact ((EventsCopied.of_frame (updateBoard_frame s _ _) rfl).frame (setFlx_frame _ _) rfl).trans (applyCell_copied _ _ _)

theorem cellBoundary_copied (q n : Nat) : EventsCopied s (s.cellBoundary q n) := by
  unfold State.cellBoundary
  split
  · split
    · exact .refl s
    · exact applyCell_copied s _ _
  · exact .refl s

/-! ### Track and gate -/

theorem gateReached_copied (q : Nat) : EventsCopied s (s.gateReached q) := by
  unfold State.gateReached
  split
  · exact .refl s
  · split
    · exact .refl s
    · exact (((EventsCopied.of_frame (updateBoard_frame s _ _) rfl).frame (appendSchedule_frame _ _) rfl).event _).frame
        (post_frame _ _) rfl

theorem leaveWave_copied {s t : State} (q : Nat) (h : EventsCopied s t) : EventsCopied s (t.leaveWave q) :=
  h.frame (leaveWave_frame t q) rfl

theorem leaveTable_copied (q : Nat) (o : ExitOutcome) : EventsCopied s (s.leaveTable q o) := by
  unfold State.leaveTable
  dsimp only
  split
  · exact .of_frame (removeSprayed_frame s q) rfl
  next b _ =>
    have hmoved : EventsCopied s (((s.removeSprayed q).setTrk
        ((s.removeSprayed q).trk.moveOut b o (s.removeSprayed q).clock)).event (.boardExited q o)) :=
      ((EventsCopied.of_frame (removeSprayed_frame s q) rfl).frame (setTrk_frame _ _) rfl).event _
    refine EventsCopied.frame (.ite (EventsCopied.frame ?_ (post_frame _ _) rfl) ?_) (noteEmptyTable_frame _) rfl
    all_goals
      refine leaveWave_copied q ?_
      exact .ite ((hmoved.frame (setTrk_frame _ _) rfl).frame (removeMismatch_frame _ _) rfl) hmoved

theorem createBoard_copied (p : Position) (r : Bool) : EventsCopied s (s.createBoard p r) :=
  (EventsCopied.of_frame (setTrk_frame s _) rfl).event _

theorem entryLeading_copied (p : Position) : EventsCopied s (s.entryLeading p) := by
  unfold State.entryLeading
  dsimp only
  refine .ite (.refl s) (.ite (createBoard_copied s p true) (.ite (createBoard_copied s p false) ?_))
  exact ((EventsCopied.of_frame (setTrk_frame s _) rfl).frame (raiseAlarm_frame _ _) rfl).event _

theorem exitUntrackedBoard_copied : EventsCopied s s.exitUntrackedBoard :=
  ((EventsCopied.of_frame (setTrk_frame s _) rfl).frame (addMismatch_frame _ _) rfl).event _

theorem exitLeading_copied (p : Position) : EventsCopied s (s.exitLeading p) := by
  unfold State.exitLeading
  refine .ite (.refl s) ?_
  split
  · exact .ite ((EventsCopied.of_frame (setTrk_frame s _) rfl).frame (removeMismatch_frame _ _) rfl) (exitUntrackedBoard_copied s)
  · exact exitUntrackedBoard_copied s

theorem exitTrailing_copied : EventsCopied s s.exitTrailing := by
  unfold State.exitTrailing
  split
  · exact (leaveTable_copied s _ _).frame (setTrk_frame _ _) rfl
  · exact (EventsCopied.of_frame (removeMismatch_frame s _) rfl).frame (setTrk_frame _ _) rfl
  · exact .of_frame (setTrk_frame s _) rfl
  · exact .refl s

theorem entryEyeSample_copied (x : EyeLevel) : EventsCopied s (s.entryEyeSample x) := by
  unfold State.entryEyeSample
  have hsampled :=
    EventsCopied.of_frame (setTrk_frame s { s.trk with entryEye := (s.trk.entryEye.sample x s.trk.position).1 }) rfl
  dsimp only
  split
  · exact hsampled
  · exact hsampled.frame (setTrk_frame _ _) rfl
  · exact hsampled.trans (entryLeading_copied _ _)
  · exact hsampled.frame (entryTrailing_frame _ _) rfl

theorem exitEyeSample_copied (x : EyeLevel) : EventsCopied s (s.exitEyeSample x) := by
  unfold State.exitEyeSample
  have hsampled := EventsCopied.of_frame (setTrk_frame s { s.trk with exitEye := (s.trk.exitEye.sample x s.trk.position).1 }) rfl
  dsimp only
  split
  · exact hsampled
  · exact hsampled.frame (setTrk_frame _ _) rfl
  · exact hsampled.trans (exitLeading_copied _ _)
  · exact hsampled.trans (exitTrailing_copied _)

theorem loseBoards_copied : ∀ (n : Nat) (s : State), EventsCopied s (s.loseBoards n)
  | 0, s => .refl s
  | n + 1, s => by
    unfold State.loseBoards
    split
    · exact .ite (((leaveTable_copied s _ _).frame (addMismatch_frame _ _) rfl).trans (loseBoards_copied n _)) (.refl s)
    · exact .refl s

theorem exitHeld_copied : EventsCopied s s.exitHeld := by
  unfold State.exitHeld
  split
  · split
    · exact .ite (((leaveTable_copied s _ _).frame (setTrk_frame _ _) rfl).frame (addMismatch_frame _ _) rfl) (.refl s)
    · exact .refl s
  · exact .refl s

theorem trackCount_copied (e x : EyeLevel) : EventsCopied s (s.trackCount e x) := by
  have hstall : EventsCopied s (s.setTrk s.trk.advance).endStall :=
    (EventsCopied.of_frame (setTrk_frame s _) rfl).frame (endStall_frame _) rfl
  have heyes := (hstall.trans (entryEyeSample_copied _ e)).trans (exitEyeSample_copied _ x)
  exact (((heyes.frame (postPositions_frame _ _) rfl).trans ((loseBoards_copied _ _).trans (exitHeld_copied _))).frame
    (entryOverrun_frame _) rfl).frame (evalReady_frame _) rfl

theorem clearBoards_copied : ∀ (n : Nat) (s : State), EventsCopied s (s.clearBoards n)
  | 0, s => .refl s
  | n + 1, s => by
    unfold State.clearBoards
    split
    · exact .refl s
    · exact (leaveTable_copied s _ _).trans (clearBoards_copied n _)

theorem clearTrack_copied : EventsCopied s s.clearTrack.state := by
  unfold State.clearTrack
  split
  · exact .refl s
  · split
    · exact .refl s
    · exact (((clearBoards_copied _ s).frame (setTrk_frame _ _) rfl).frame (removeMismatch_frame _ _) rfl).frame
        (evalReady_frame _) rfl

/-! ### Extraction -/

theorem ductReturn_copied : EventsCopied s s.ductReturn := by
  have hend (e : Exm) : EventsCopied s ((s.setExm e).endAlarm Alarm.ductLow) :=
    (EventsCopied.of_frame (setExm_frame s e) rfl).frame (endAlarm_frame _ _) rfl
  exact (EventsCopied.ite ((hend _).frame (endAlarm_frame _ _) rfl) (hend _)).event _

theorem suctionSample_copied (v : Nat) (r : ReportedState) : EventsCopied s (s.suctionSample v r) := by
  have hrecovery (good : Bool) : EventsCopied s (s.suctionRecovery good) :=
    .ite (.ite (ductReturn_copied s) (.of_frame (setExm_frame s _) rfl)) (.of_frame (setExm_frame s _) rfl)
  unfold State.suctionSample
  split
  · exact .ite (.ite (.of_frame (changeover_frame s) rfl) (.of_frame (setExm_frame s _) rfl)) (.of_frame (setExm_frame s _) rfl)
  · exact hrecovery _
  · exact hrecovery _

theorem selectFan_copied (n : Nat) : EventsCopied s (s.selectFan n).state := by
  unfold State.selectFan
  split
  · exact .refl s
  · split
    · exact .refl s
    · split
      · exact .refl s
      · exact (((EventsCopied.of_frame (driveFan_frame s _ _) rfl).frame (driveFan_frame _ _ _) rfl).frame
          (setExm_frame _ _) rfl).event _

/-! ### Alarms -/

theorem aimBecomes_copied (a : Aim) : EventsCopied s (s.aimBecomes a) := by
  have hinhibit (u : State) (b c : Aim) (n : Inhibit) : EventsCopied u (u.noteInhibit b c n) :=
    .ite (.refl u) ((event_copied u _).frame (post_frame _ _) rfl)
  have hwave (u : State) (b c : Aim) : EventsCopied u (u.noteWave b c) :=
    .ite (.refl u) ((event_copied u _).frame (post_frame _ _) rfl)
  exact (((((EventsCopied.of_frame (setAim_frame s _) rfl).trans (hinhibit _ _ _ _)).trans (hinhibit _ _ _ _)).trans
    (hwave _ _ _)).trans (hinhibit _ _ _ _)).trans (hinhibit _ _ _ _)

theorem setRecord_copied (i : AlarmId) (r : AlarmRecord) (c : RecordCause) : EventsCopied s (s.setRecord i r c) :=
  .ite (.of_frame (setAim_frame s _) rfl) (((event_copied s _).trans (aimBecomes_copied _ _)).frame (post_frame _ _) rfl)

theorem ackAlarm_copied (l : Link) (n : Nat) : EventsCopied s (s.ackAlarm l n).state := by
  unfold State.ackAlarm
  split
  · dsimp only
    split
    · exact .refl s
    · split
      · exact .refl s
      · exact (setRecord_copied s _ _ _).frame (post_frame _ _) rfl
  · exact .refl s

theorem assertInhibit_copied (n : Inhibit) (v : Bool) : EventsCopied s (s.assertInhibit n v).state := by
  unfold State.assertInhibit
  split
  · exact .refl s
  · exact aimBecomes_copied s _

/-! ### Line modes -/

theorem changeMode_copied (m : LineMode) (ph : ChangeoverPhase) (c : ModeCause) : EventsCopied s (s.changeMode m ph c) := by
  have hforces : EventsCopied s (if s.lmc.mode = .maintenance then s.endForces else s) :=
    .ite (.of_frame (endForces_frame s) rfl) (.refl s)
  exact ((hforces.frame (setLmc_frame _ _) rfl).event _).frame (post_frame _ _) rfl

theorem testReadiness_copied : EventsCopied s s.testReadiness := by
  unfold State.testReadiness
  split
  · exact .ite (changeMode_copied s _ _ _) (.refl s)
  · exact .ite (changeMode_copied s _ _ _) (.refl s)
  · exact .refl s

theorem enterWarmup_copied (c : ModeCause) : EventsCopied s (s.enterWarmup c) :=
  (changeMode_copied s _ _ _).trans (testReadiness_copied _)

theorem swapBanks_copied (d : SwapDetail) : EventsCopied s (s.swapBanks d) :=
  ((EventsCopied.of_frame (setLmc_frame s _) rfl).event _).frame (post_frame _ _) rfl

theorem enterRetarget_copied : EventsCopied s s.enterRetarget :=
  ((EventsCopied.of_frame (setLmc_frame s _) rfl).event _).trans (swapBanks_copied _ _)

theorem startChangeover_copied : EventsCopied s s.startChangeover :=
  .ite ((changeMode_copied s _ _ _).trans (enterRetarget_copied _)) (changeMode_copied s _ _ _)

theorem bankTaken_copied (c : Instr) (n : Nat) : EventsCopied s (s.bankTaken c n) :=
  .ite ((EventsCopied.of_frame (setLmc_frame s _) rfl).trans (testReadiness_copied _)) (.refl s)

theorem setbackOr_copied (c : ModeCause) : EventsCopied s (s.setbackOr c) :=
  .ite (.of_frame (setLmc_frame s _) rfl) (changeMode_copied s _ _ _)

theorem idleExpired_copied : EventsCopied s s.idleExpired :=
  .ite (.of_frame (setLmc_frame s _) rfl) (.ite (.of_frame (setLmc_frame s _) rfl) (changeMode_copied s _ _ _))

theorem demandSafe_copied (c : ModeCause) : EventsCopied s (s.demandSafe c) := by
  unfold State.demandSafe
  split
  · exact .refl s
  · exact .of_frame (setLmc_frame s _) rfl
  all_goals exact changeMode_copied s _ _ _

/-! ### The requests to LMC and for a tank -/

theorem swapBank_copied : EventsCopied s s.swapBank.state := by
  unfold State.swapBank
  split
  case h_5 => split <;> first | exact startChangeover_copied s | exact .refl s
  case h_6 | h_7 | h_8 | h_9 => split <;> first | exact swapBanks_copied s _ | exact .refl s
  all_goals exact .refl s

theorem cancelSwap_copied : EventsCopied s s.cancelSwap.state := by
  unfold State.cancelSwap
  split
  · exact .refl s
  · split
    · exact changeMode_copied s _ _ _
    · exact .refl s

theorem warmupRequest_copied (takes : LineMode → Bool) (kind : Byte) : EventsCopied s (s.warmupRequest takes kind).state := by
  unfold State.warmupRequest
  split
  · exact .refl s
  · split
    · exact .refl s
    · split
      · exact .refl s
      · exact enterWarmup_copied s _

theorem stopRequest_copied : EventsCopied s s.stopRequest.state := by
  unfold State.stopRequest
  split
  · exact .ite ((changeMode_copied s _ _ _).trans (changeMode_copied _ _ _ _)) (changeMode_copied s _ _ _)
  all_goals exact .refl s

theorem stopHeat_copied : EventsCopied s s.stopHeat.state := by
  unfold State.stopHeat
  split
  · exact changeMode_copied s _ _ _
  · exact .refl s

theorem enterMaintenance_copied : EventsCopied s s.enterMaintenance.state := by
  unfold State.enterMaintenance
  split
  · exact changeMode_copied s _ _ _
  · exact .refl s

theorem leaveMaintenance_copied : EventsCopied s s.leaveMaintenance.state := by
  unfold State.leaveMaintenance
  split
  · exact (changeMode_copied s _ _ _).frame (setLmc_frame _ _) rfl
  · exact .refl s

theorem releaseSafe_copied : EventsCopied s s.releaseSafe.state := by
  unfold State.releaseSafe
  split
  · exact .refl s
  · split
    · exact .refl s
    · exact changeMode_copied s _ _ _

theorem selectTank_copied (n : Nat) : EventsCopied s (s.selectTank n).state := by
  unfold State.selectTank
  split
  · exact .refl s
  · split
    · exact .refl s
    · split
      · exact .refl s
      · exact (EventsCopied.of_frame (setActiveTank_frame s _) rfl).event _

end EventsCopied

section LinksKept

variable {s t : State}

/-! ### The links keep their room (R178, R186) -/

theorem LinksSound.link (hs : LinksSound s) (l : Link) : LinkSound (s.link l) := by
  obtain ⟨hm, hsafe, htrace⟩ := hs
  cases l
  · exact hm
  · exact hsafe
  · exact htrace

theorem linksSound_of_links (h : ∀ l, LinkSound (s.link l)) : LinksSound s := ⟨h .machine, h .safety, h .trace⟩

theorem copyEvent_linkSound (r : EventRecord) {k : LinkState} (hk : LinkSound k) : LinkSound (k.copyEvent r) := by
  obtain ⟨howed, hqueue, hidle⟩ := hk
  unfold LinkState.copyEvent
  split
  · split
    next hroom =>
      refine ⟨howed, ?_, hidle⟩
      rw [List.length_append]
      exact hroom
    next => exact ⟨howed, hqueue, hidle⟩
  · exact ⟨howed, hqueue, hidle⟩

theorem EventsCopied.linksSound (h : EventsCopied s t) (hs : LinksSound s) : LinksSound t := by
  obtain ⟨es, hes⟩ := h
  refine linksSound_of_links fun l => ?_
  rw [hes l]
  exact List.foldlRecOn es (fun k r => k.copyEvent r) (hs.link l) fun k hk r _ => copyEvent_linkSound r hk

theorem linksSound_of_frame {ps : List Part} (hs : LinksSound s) (hframe : SameBut ps s t)
    (hlinks : ps.contains .links = false) : LinksSound t :=
  (EventsCopied.of_frame hframe hlinks).linksSound hs

/-- One link's record replaced by a sound one. -/
theorem setLink_linksSound (l : Link) {k : LinkState} (hs : LinksSound s) (hk : LinkSound k) : LinksSound (s.setLink l k) := by
  obtain ⟨hm, hsafe, htrace⟩ := hs
  cases l
  · exact ⟨hk, hsafe, htrace⟩
  · exact ⟨hm, hk, htrace⟩
  · exact ⟨hm, hsafe, hk⟩

theorem receiverToHunt_linksSound (l : Link) (hs : LinksSound s) : LinksSound (s.receiverToHunt l) :=
  setLink_linksSound l hs (hs.link l)

theorem received_linksSound (l : Link) (hs : LinksSound s) : LinksSound (s.received l) :=
  linksSound_of_frame (receiverToHunt_linksSound l hs) (frameAccepted_frame _ l) rfl

/-- R178: what is being sent takes nothing from the room of what is owed. -/
theorem reply_linksSound (l : Link) (kind : Byte) (st : Status) (body : List Byte) (hs : LinksSound s) :
    LinksSound (s.reply l kind st body) := by
  obtain ⟨howed, hqueue, -⟩ := hs.link l
  exact setLink_linksSound l hs ⟨howed, hqueue, fun h => by cases h⟩

/-- R178: a reply joins the owed ones only where there is room for it, while another is being sent. -/
theorem owe_linksSound (l : Link) (kind : Byte) (st : Status) (hs : LinksSound s) (hbusy : (s.link l).sending ≠ none) :
    LinksSound (s.owe l kind st) := by
  obtain ⟨-, hqueue, -⟩ := hs.link l
  unfold State.owe
  split
  next hroom =>
    refine setLink_linksSound l hs ⟨?_, hqueue, fun h => absurd h hbusy⟩
    rw [List.length_append]
    exact hroom
  next => exact hs

theorem frameBad_linksSound (l : Link) (k : Option Byte) (hs : LinksSound s) : LinksSound (s.frameBad l k) := by
  unfold State.frameBad
  split
  next hbusy => exact owe_linksSound l _ _ hs (by intro h; simp [h] at hbusy)
  next => exact reply_linksSound l _ _ _ hs

theorem nextReply_linkSound {k : LinkState} (hk : LinkSound k) : LinkSound k.nextReply := by
  obtain ⟨howed, hqueue, -⟩ := hk
  unfold LinkState.nextReply
  split
  next h => exact ⟨howed, hqueue, fun _ => h⟩
  next o os h =>
    refine ⟨?_, hqueue, fun h => by cases h⟩
    rw [h, List.length_cons] at howed
    exact Nat.le_of_succ_le howed

/-- R175, R178: a request keeps the links within their room where what it does keeps them so. -/
theorem serve_linksSound {α : Type} {l : Link} {kind : Byte} {allowed : List Link} {args : Option α} {act : α → State → Served}
    (hs : LinksSound s) (hact : ∀ a u, LinksSound u → LinksSound (act a u).state) :
    LinksSound (s.serve l kind allowed args act) := by
  have hreceived := received_linksSound l hs
  unfold State.serve
  dsimp only
  split
  next hbusy => exact owe_linksSound l _ _ hreceived (by simpa using fun h => by simp [h] at hbusy)
  next =>
    split
    · exact reply_linksSound l _ _ _ hreceived
    · split
      · exact reply_linksSound l _ _ _ hreceived
      · exact reply_linksSound l _ _ _ (hact _ _ hreceived)

theorem restart_links (r : Rtr) (u : State) : (u.restart r).links = State.reset.links := by
  rw [State.restart, (evalSupplyEmpty_frame _).links (by decide), (evalTankLow_frame _).links (by decide)]

theorem readEvents_linksSound (l : Link) (hs : LinksSound s) : LinksSound (s.readEvents l).state := by
  obtain ⟨howed, hqueue, hidle⟩ := hs.link l
  refine setLink_linksSound l hs ⟨howed, ?_, hidle⟩
  rw [List.length_drop]
  exact (Nat.sub_le _ _).trans hqueue

/-- The commands that move time, reset the part or hold its pin. -/
theorem timeOrReset_linksSound (h : TimeOrReset s t) (hs : LinksSound s) : LinksSound t := by
  cases h with
  | tick | pin | nothing => exact hs
  | reset u r inputs =>
    refine linksSound_of_frame ?_ (contactPass_frame _ _) rfl
    rw [LinksSound, restart_links]
    unfold LinkSound
    decide

/-- A command that may write the links keeps their room: it copies events, answers a request, or ends a frame or a reply. -/
theorem exec_linksSound_of_mem (c : Instr) (hchar : isCharacter c = false) (htime : movesTimeOrResets c = false)
    (hlinks : Part.links ∈ touches c) (h : exec c s = .next t) (hs : LinksSound s) : LinksSound t := by
  have request {α : Type} {l : Link} {kind : Byte} {allowed : List Link} {args : Option α} {act : α → State → Served}
      (hact : ∀ a u, LinksSound u → LinksSound (act a u).state) : LinksSound (s.serve l kind allowed args act) :=
    serve_linksSound hs hact
  have frame {ps : List Part} {u v : State} (hframe : SameBut ps u v) (hp : ps.contains .links = false)
      (hu : LinksSound u) : LinksSound v := linksSound_of_frame hu hframe hp
  cases c
  all_goals first | (exfalso; simp [touches, movesTimeOrResets, isCharacter] at hlinks htime hchar; done) | cases h
  case encoderPulse e x =>
    dsimp only
    split
    · exact hs
    · exact (trackCount_copied _ e x).linksSound (s := s.setTrk _) hs
  case nozzleReached q n => exact (nozzleReached_copied (s.taken _) q n).linksSound hs
  case cellBoundary q n => exact (cellBoundary_copied (s.taken _) q n).linksSound hs
  case gateReached q => exact (gateReached_copied (s.taken _) q).linksSound hs
  case dspSampleArrival v r => exact (suctionSample_copied (s.taken _) v r).linksSound hs
  case alarmRaise i => exact ((setRecord_copied (s.taken _) i _ _).frame (post_frame _ _) rfl).linksSound hs
  case alarmEnd i => exact (setRecord_copied (s.taken _) i _ _).linksSound hs
  case solderOccupancyArrival o => exact (aimBecomes_copied (s.taken _) _).linksSound hs
  case safeDemand i => exact (demandSafe_copied (s.taken _) _).linksSound hs
  case readinessArrival r => exact (testReadiness_copied ((s.taken _).setLmc _)).linksSound hs
  case feederArrival st =>
    exact (EventsCopied.ite (setbackOr_copied ((s.taken _).setLmc _) _) (testReadiness_copied _)).linksSound hs
  case gatedArrival n => exact (EventsCopied.ite (enterRetarget_copied (s.taken _)) (.refl _)).linksSound hs
  case tableEmptyArrival => exact (EventsCopied.ite (changeMode_copied (s.taken _) _ _ _) (.refl _)).linksSound hs
  case upstreamAvailTransition tr => exact (EventsCopied.ite (enterWarmup_copied (s.taken _) _) (.refl _)).linksSound hs
  case idleTimerExpiry => exact (EventsCopied.ite (idleExpired_copied s) (.refl s)).linksSound hs
  case lineModeArrival b m => cases b <;> simp [touches] at hlinks
  case activeBankArrival b k =>
    cases b
    case znc =>
      exact ((EventsCopied.of_frame (evaluateZones_frame (s.taken _) _) rfl).trans (bankTaken_copied _ _ _)).linksSound hs
    case pot => exact ((EventsCopied.of_frame (potBank_frame (s.taken _)) rfl).trans (bankTaken_copied _ _ _)).linksSound hs
    all_goals simp [touches] at hlinks
  case frameTimerExpiry l =>
    split
    · exact frameBad_linksSound l _ (receiverToHunt_linksSound l hs)
    · exact hs
  case badFrame l k => exact frameBad_linksSound l _ (receiverToHunt_linksSound l hs)
  case busyFrame l k bad =>
    split
    next hbusy =>
      have hsending : (s.link l).sending ≠ none := fun h => by simp [h] at hbusy
      split
      · exact owe_linksSound l _ _ (receiverToHunt_linksSound l hs) (by simpa using hsending)
      · exact owe_linksSound l _ _ (received_linksSound l hs) (by simpa using hsending)
    next => exact hs
  case unknownKind l k b =>
    split
    next hbusy => exact owe_linksSound l _ _ (received_linksSound l hs) (by simpa using fun h => by simp [h] at hbusy)
    next => exact reply_linksSound l _ _ _ (received_linksSound l hs)
  case replyEnd l =>
    split
    · exact hs
    · split
      · exact hs
      · exact setLink_linksSound l hs (nextReply_linkSound (hs.link l))
  case readStatus l b =>
    refine request fun _ u hu => ?_
    unfold State.readStatus
    dsimp only
    split <;> exact hu
  case readBoard l b => exact request fun q u hu => by rwa [readBoard_state]
  case readTable l b => exact request fun _ u hu => hu
  case readAlarms l b => exact request fun n u hu => by rwa [readAlarms_state]
  case readRetained l b => exact request fun _ u hu => hu
  case reset l b => exact request fun _ u hu => hu
  case readEvents l b => exact request fun _ u hu => readEvents_linksSound l hu
  case subscribe l b => exact request fun m u hu => setLink_linksSound l hu (hu.link l)
  case ackAlarm l b => exact request fun n u => (ackAlarm_copied u l n).linksSound
  case assertInhibit l b => exact request fun n u => (assertInhibit_copied u n true).linksSound
  case releaseInhibit l b => exact request fun n u => (assertInhibit_copied u n false).linksSound
  case writeConfig l b => exact request fun a u => frame (writeConfig_frame u a.1 a.2) rfl
  case writeBank l b => exact request fun a u => frame (writeBank_frame u a.1 a.2) rfl
  case setZonesAll l b => exact request fun v u => frame (setZonesAll_frame u v) rfl
  case validateBank l b => exact request fun _ u => frame (validateBank_frame u) rfl
  case swapBank l b => exact request fun _ u => (swapBank_copied u).linksSound
  case cancelSwap l b => exact request fun _ u => (cancelSwap_copied u).linksSound
  case warmup l b => exact request fun _ u => (warmupRequest_copied u _ _).linksSound
  case start l b => exact request fun _ u => (warmupRequest_copied u _ _).linksSound
  case stop l b => exact request fun _ u => (stopRequest_copied u).linksSound
  case stopHeat l b => exact request fun _ u => (stopHeat_copied u).linksSound
  case enterMaintenance l b => exact request fun _ u => (enterMaintenance_copied u).linksSound
  case leaveMaintenance l b => exact request fun _ u => (leaveMaintenance_copied u).linksSound
  case releaseSafe l b => exact request fun _ u => (releaseSafe_copied u).linksSound
  case forceSafe l b => exact request fun _ u => (demandSafe_copied u _).linksSound
  case supervise l b => exact request fun w u => frame (supervise_frame u w) rfl
  case forceSignalChannel l b => exact request fun a u => frame (forceSignalChannel_frame u a.1 a.2) rfl
  case forceSignalContact l b => exact request fun a u => frame (forceSignalContact_frame u a.1 a.2) rfl
  case releaseForce l b => exact request fun x u => frame (releaseForce_frame u x) rfl
  case clearTrack l b => exact request fun _ u => (clearTrack_copied u).linksSound
  case refill l b => exact request fun a u => frame (refill_frame u a.1 a.2) rfl
  case selectTank l b => exact request fun n u => (selectTank_copied u n).linksSound
  case selectFan l b => exact request fun n u => (selectFan_copied u n).linksSound
  case clearStamps l b => exact request fun _ u hu => hu
  case clearResetCauses l b => exact request fun _ u hu => hu
  case pushIdentity l b => exact request fun i u => frame (pushIdentity_frame u i) rfl
  case flushIdentities l b => exact request fun _ u => frame ((setTrk_frame u _).trans (evalReady_frame _)) rfl
  case takeExitRecord l b => exact request fun _ u => frame (takeExitRecord_frame u) rfl

theorem exec_linksSound (c : Instr) (hchar : isCharacter c = false) (h : exec c s = .next t) (hs : LinksSound s) :
    LinksSound t := by
  by_cases htime : movesTimeOrResets c = true
  · exact timeOrReset_linksSound (exec_timeOrReset htime h) hs
  · rw [Bool.not_eq_true] at htime
    by_cases hlinks : Part.links ∈ touches c
    · exact exec_linksSound_of_mem c hchar htime hlinks h hs
    · obtain ⟨u, n, hu, hframe, -⟩ := exec_frame s c hchar htime
      obtain rfl := Host.Outcome.next.inj (hu.symm.trans h)
      exact linksSound_of_frame (s := s.useFree n) hs hframe (by simpa using hlinks)

end LinksKept

/-- Settles O59. -/
theorem everyStepKeepsTheAlarmsAndTheLinksSound : Obligations.EveryStepKeepsTheAlarmsAndTheLinksSound := by
  intro s t h
  refine ⟨fun hs => ?_, fun hs => ?_, step_keeps ?_ ?_ ?_ s t h⟩
  · exact alarmsSound_aimKept.step h hs
  · exact waveEffectSound_aimKept.step h hs
  · exact fun u cs hu => hu
  · exact fun u l r hu => setLink_linksSound l hu (hu.link l)
  · exact fun c u v hchar hexec hu => exec_linksSound c hchar hexec hu

end Sys2Proof.Machine

/-! Proofs about what leaves the machine configuration alone (chapters 1 to 9): every command but WRITE_CONFIG, the tick and the
resets. Here the track and the signals. -/

namespace Sys2Proof.Machine

section ItemsKept

variable {s t : State}

/-! ### Commands that write one part -/

/-- A command that may not write the parts a property reads keeps the property. -/
theorem exec_keeps_of_reads {ps : List Part} {P : State → Prop} (hreads : ReadsOnly ps P) {c : Instr}
    (hchar : isCharacter c = false) (htime : movesTimeOrResets c = false) (h : exec c s = .next t) (hs : P s)
    (hwriters : (∃ p ∈ ps, p ∈ touches c) → P t) : P t := by
  by_cases hw : ∃ p ∈ ps, p ∈ touches c
  · exact hwriters hw
  · obtain ⟨u, n, hu, hframe, -⟩ := exec_frame s c hchar htime
    obtain rfl := Host.Outcome.next.inj (hu.symm.trans h)
    exact hreads s _ (fun p hp => same_useFree s p n (hframe.same fun hmem => hw ⟨p, hp, hmem⟩)) hs

/-- The commands that write the machine configuration, or whatever there is. -/
def writesConfig : Instr → Bool
  | .writeConfig _ _ | .syncByte _ _ _ => true
  | c => movesTimeOrResets c

theorem plain_of_not_writesConfig {c : Instr} (h : writesConfig c = false) :
    isCharacter c = false ∧ movesTimeOrResets c = false := by
  cases c <;> first | exact ⟨rfl, rfl⟩ | cases h

/-! ### Track -/

/-- TRK's machine configuration items. -/
def Trk.config (t : Trk) : Geometry × Bool := (t.geometry, t.idRequired)

/-- TRK has these items. -/
def HasTrkConfig (k : Geometry × Bool) (s : State) : Prop := s.trk.config = k

variable {k : Geometry × Bool}

theorem hasTrkConfig_reads : ReadsOnly [.trk] (HasTrkConfig k) := by
  intro s t h hs
  have htrk : t.trk = s.trk := h .trk (by decide)
  rwa [HasTrkConfig, htrk]

theorem HasTrkConfig.of_boards (h : BoardsChanged s.trk t.trk) (hs : HasTrkConfig k s) : HasTrkConfig k t := by
  obtain ⟨f, -, htrk⟩ := h
  rwa [HasTrkConfig, htrk]

theorem HasTrkConfig.of_kept (h : CountKept s.trk t.trk) (hs : HasTrkConfig k s) : HasTrkConfig k t := by
  rwa [HasTrkConfig, Trk.config, h.geometry, h.idRequired]

theorem trackCount_trkConfig (e x : EyeLevel) : (s.trackCount e x).trk.config = s.trk.config := by
  have hkept := trackCount_kept s e x
  rw [Trk.config, hkept.geometry, hkept.idRequired]
  rfl

theorem clearBoards_kept : ∀ (n : Nat) (s : State), CountKept s.trk (s.clearBoards n).trk
  | 0, s => .refl _
  | n + 1, s => by
    unfold State.clearBoards
    split
    · exact .refl _
    · exact (leaveTable_kept s _ _).trans (clearBoards_kept n _)

theorem clearTrack_trkConfig (hs : HasTrkConfig k s) : HasTrkConfig k s.clearTrack.state := by
  unfold State.clearTrack
  split
  · exact hs
  · split
    · exact hs
    · have hcleared := hs.of_kept (clearBoards_kept s.trk.table.length s)
      generalize s.clearBoards s.trk.table.length = u at hcleared ⊢
      refine HasTrkConfig.of_kept (s := u.setTrk { u.trk with
        exitOcc := clearedOccupant u.trk.exitOcc, gapRef := none, trackUnknown := false }) ?_ hcleared
      exact (removeMismatch_kept _ _).trans (evalReady_kept _)

theorem pushIdentity_trkConfig (i : Identity) (hs : HasTrkConfig k s) : HasTrkConfig k (s.pushIdentity i).state := by
  unfold State.pushIdentity
  split
  · exact hs
  · split <;> exact hs

theorem takeExitRecord_trkConfig (hs : HasTrkConfig k s) : HasTrkConfig k s.takeExitRecord.state := by
  unfold State.takeExitRecord
  split <;> exact hs

theorem stallTimerExpiry_trkConfig (h : exec .stallTimerExpiry s = .next t) (hs : HasTrkConfig k s) : HasTrkConfig k t := by
  refine Host.Outcome.next.inj h ▸ ?_
  dsimp only
  split
  · split <;> exact hs
  · exact hs

theorem evalReadyOn_kept (s : State) (m : LineMode) (e : Bool) : CountKept s.trk (s.evalReadyOn m e).trk := .boards _

theorem trkMode_trkConfig (m : LineMode) (hs : HasTrkConfig k s) : HasTrkConfig k (s.trkMode m) := by
  have hrestarted : HasTrkConfig k (s.setTrk { s.trk with stallTimer := .start Config.stallMs }) := hs
  unfold State.trkMode
  generalize s.setTrk _ = u at hrestarted
  have hstall : CountKept u.trk (if m.running then u else u.endStall).trk := .ite (.refl _) (endStall_kept u)
  exact hrestarted.of_kept (hstall.trans (evalReadyOn_kept _ _ _))

theorem exec_trkConfig {c : Instr} (hplain : writesConfig c = false) (h : exec c s = .next t) (hs : HasTrkConfig k s) :
    HasTrkConfig k t := by
  obtain ⟨hchar, htime⟩ := plain_of_not_writesConfig hplain
  refine exec_keeps_of_reads hasTrkConfig_reads hchar htime h hs fun hw => ?_
  have request {α : Type} {l : Link} {kind : Byte} {allowed : List Link} {args : Option α} {act : α → State → Served}
      (hact : ∀ a u, HasTrkConfig k u → HasTrkConfig k (act a u).state) :
      HasTrkConfig k (s.serve l kind allowed args act) :=
    serve_keeps s hasTrkConfig_reads hs hact (by decide) (by decide)
  cases c
  case stallTimerExpiry => exact stallTimerExpiry_trkConfig h hs
  all_goals first | (exfalso; simp [touches, writesConfig, movesTimeOrResets] at hw hplain; done) | cases h
  case encoderPulse e x =>
    dsimp only
    split
    · exact hs
    · exact (trackCount_trkConfig e x).trans hs
  case speedWindowExpiry => exact hs
  case nozzleReached q l => exact .of_boards (nozzleReached_boards (s.taken _) q l) hs
  case cellBoundary q n => exact .of_boards (cellBoundary_boards (s.taken _) q n) hs
  case nozzleCleared q => exact .of_boards (nozzleCleared_boards (s.taken _) q) hs
  case sprayInhibitChange a => exact .of_boards (sprayChange_boards (s.taken _) a) hs
  case flpSampleArrival v r => exact .of_boards (pressureSample_boards (s.taken _) v r) hs
  case gateReached q => exact .of_boards (gateReached_boards (s.taken _) q) hs
  case waveEntered q => exact .of_boards (boardEntersWave_boards (s.taken _) q) hs
  case waveLeft q => exact .of_boards (.ite (leaveWave_boards (s.taken _) q) (.refl _)) hs
  case ptsSampleArrival v r => exact .of_boards (potSample_boards (s.taken _) v r) hs
  case wvhSampleArrival v r =>
    exact .of_boards ((qualifyWave_boards (s.taken _) v r).trans (judgeBoards_boards _ v r)) hs
  case waveInhibitChange e => exact .of_boards (evalWaveOn_boards (s.taken _) _ e) hs
  case thermalSampleArrival x v r => exact .of_boards (thermalSample_boards (s.taken _) x v r) hs
  case entryInhibitChange a => exact hs
  case lineModeArrival b m =>
    cases b
    case pot =>
      exact hasTrkConfig_reads.of_frame (modeTaken_frame _ _ _) (.of_boards (potMode_boards (s.taken _) m) hs) (by decide)
    case flx => exact .of_boards (flxMode_boards (s.taken _) m) hs
    case trk => exact trkMode_trkConfig (s := s.taken _) m hs
    all_goals simp [touches] at hw
  case activeBankArrival b k =>
    cases b
    case pot =>
      exact hasTrkConfig_reads.of_frame (bankTaken_frame _ _ _) (.of_boards (potBank_boards (s.taken _)) hs) (by decide)
    case trk => exact hs
    all_goals simp [touches] at hw
  case clearTrack l b => exact request fun _ u => clearTrack_trkConfig
  case pushIdentity l b => exact request fun i u => pushIdentity_trkConfig i
  case flushIdentities l b => exact request fun _ u hu => hu
  case takeExitRecord l b => exact request fun _ u => takeExitRecord_trkConfig

end ItemsKept

section ConverterItems

variable {s t : State} {k : Vector ChannelItems 10}

/-! ### Signals -/

/-- SAQ has these channel items. -/
def HasSaqConfig (k : Vector ChannelItems 10) (s : State) : Prop := s.saq.items = k

theorem hasSaqConfig_reads : ReadsOnly [.saq] (HasSaqConfig k) := by
  intro s t h hs
  have hsaq : t.saq = s.saq := h .saq (by decide)
  rwa [HasSaqConfig, hsaq]

theorem advance_items (q : Saq) : q.advance.items = q.items := by
  unfold Saq.advance
  repeat' split
  all_goals rfl

theorem requestPair_items (q : Saq) : q.requestPair.items = q.items := by
  unfold Saq.requestPair
  dsimp only
  split
  · exact advance_items _
  · rfl

theorem setContact_saqConfig (c : Contact) (r : ContactRec) (x : TransitionCause) (hs : HasSaqConfig k s) :
    HasSaqConfig k (s.setContact c r x) := by
  unfold State.setContact
  dsimp only
  split <;> exact hs

theorem contactPass_saqConfig (i : ContactInputs) (hs : HasSaqConfig k s) : HasSaqConfig k (s.contactPass i) :=
  List.foldlRecOn _ _ hs fun _ hu _ _ => setContact_saqConfig _ _ _ hu

theorem endForces_saqConfig (hs : HasSaqConfig k s) : HasSaqConfig k s.endForces := by
  have hchannels : HasSaqConfig k (Channel.all.foldl (fun s c => s.forceChannel c none) s) :=
    List.foldlRecOn _ _ hs fun _ hu _ _ => hu
  exact List.foldlRecOn _ _ hchannels fun _ hu _ _ => setContact_saqConfig _ _ _ hu

theorem changeMode_saqConfig (m : LineMode) (ph : ChangeoverPhase) (c : ModeCause) (hs : HasSaqConfig k s) :
    HasSaqConfig k (s.changeMode m ph c) := by
  rw [HasSaqConfig, State.changeMode, post_saq, event_saq, setLmc_saq]
  split
  · exact endForces_saqConfig hs
  · exact hs

theorem leaveMaintenance_saqConfig (hs : HasSaqConfig k s) : HasSaqConfig k s.leaveMaintenance.state := by
  unfold State.leaveMaintenance
  split
  · rw [done_state, HasSaqConfig, setLmc_saq]
    exact changeMode_saqConfig _ _ _ hs
  · exact hs

theorem forceSignalChannel_saqConfig (n v : Nat) (hs : HasSaqConfig k s) : HasSaqConfig k (s.forceSignalChannel n v).state := by
  unfold State.forceSignalChannel
  split
  · exact hs
  · split
    · exact hs
    · split <;> exact hs

theorem forceSignalContact_saqConfig (n : Nat) (x : ContactLevel) (hs : HasSaqConfig k s) :
    HasSaqConfig k (s.forceSignalContact n x).state := by
  unfold State.forceSignalContact
  split
  · exact hs
  · split
    · exact hs
    · rw [done_state]
      exact setContact_saqConfig _ _ _ hs

theorem releaseForce_saqConfig (x : ReleaseTarget) (hs : HasSaqConfig k s) : HasSaqConfig k (s.releaseForce x).state := by
  unfold State.releaseForce
  split
  · exact hs
  · split
    · rw [done_state]
      exact endForces_saqConfig hs
    · split <;> exact hs
    · split
      · exact hs
      · rw [done_state]
        exact setContact_saqConfig _ _ _ hs

theorem exec_contactPass_saqConfig (i : ContactInputs) (h : exec (.contactPass i) s = .next t) (hs : HasSaqConfig k s) :
    HasSaqConfig k t := by
  have hpass : exec (.contactPass i) s = .next ((s.contactPass i).setSaq
      { (s.contactPass i).saq with contactTimer := .start Config.contactPassMs }) := rfl
  have hscanned : HasSaqConfig k (s.contactPass i) := contactPass_saqConfig i hs
  generalize s.contactPass i = u at hpass hscanned
  obtain rfl := Host.Outcome.next.inj (hpass.symm.trans h)
  exact hscanned

theorem exec_saqConfig {c : Instr} (hplain : writesConfig c = false) (h : exec c s = .next t) (hs : HasSaqConfig k s) :
    HasSaqConfig k t := by
  obtain ⟨hchar, htime⟩ := plain_of_not_writesConfig hplain
  refine exec_keeps_of_reads hasSaqConfig_reads hchar htime h hs fun hw => ?_
  have request {α : Type} {l : Link} {kind : Byte} {allowed : List Link} {args : Option α} {act : α → State → Served}
      (hact : ∀ a u, HasSaqConfig k u → HasSaqConfig k (act a u).state) :
      HasSaqConfig k (s.serve l kind allowed args act) :=
    serve_keeps s hasSaqConfig_reads hs hact (by decide) (by decide)
  cases c
  case contactPass i => exact exec_contactPass_saqConfig i h hs
  all_goals first | (exfalso; simp [touches, writesConfig, movesTimeOrResets] at hw hplain; done) | cases h
  case passTimerExpiry => exact hs
  case priorityTimerExpiry => exact (requestPair_items _).trans hs
  case conversionComplete code =>
    split
    · exact (advance_items _).trans hs
    · exact hs
  case lineModeArrival b m => cases b <;> simp [touches] at hw
  case activeBankArrival b k => cases b <;> simp [touches] at hw
  case leaveMaintenance l b => exact request fun _ u => leaveMaintenance_saqConfig
  case forceSignalChannel l b => exact request fun a u => forceSignalChannel_saqConfig a.1 a.2
  case forceSignalContact l b => exact request fun a u => forceSignalContact_saqConfig a.1 a.2
  case releaseForce l b => exact request fun x u => releaseForce_saqConfig x

end ConverterItems

end Sys2Proof.Machine

/-! Proofs about what leaves the machine configuration alone: the flux, the zones, the pot and the duct (chapters 3, 4, 6 and
7). -/

namespace Sys2Proof.Machine

section FluxItems

variable {s t : State} {k : Nat × Nat}

/-! ### Flux -/

/-- FLX's machine configuration items. -/
def Flx.config (f : Flx) : Nat × Nat := (f.lowThreshold, f.pressureMin)

/-- FLX has these items. -/
def HasFlxConfig (k : Nat × Nat) (s : State) : Prop := s.flx.config = k

theorem hasFlxConfig_reads : ReadsOnly [.flx] (HasFlxConfig k) := by
  intro s t h hs
  have hflx : t.flx = s.flx := h .flx (by decide)
  rwa [HasFlxConfig, hflx]

theorem HasFlxConfig.of_eq (h : t.flx.config = s.flx.config) (hs : HasFlxConfig k s) : HasFlxConfig k t := h.trans hs

theorem setAmount_flxConfig (s : State) (x : Tank) (v : Nat) : (s.setAmount x v).flx.config = s.flx.config := by
  rw [setAmount_flx s x v _ rfl]; rfl

theorem setActiveTank_flxConfig (s : State) (x : Tank) : (s.setActiveTank x).flx.config = s.flx.config := by
  rw [setActiveTank_flx s x _ rfl]; rfl

theorem clearFailedDraw_flxConfig (s : State) : s.clearFailedDraw.flx.config = s.flx.config := by
  rw [clearFailedDraw_flx s _ rfl]; rfl

theorem deduct_flxConfig (s : State) (x : Tank) (d : Nat) : (s.deduct x d).flx.config = s.flx.config :=
  (clearFailedDraw_flxConfig _).trans (setAmount_flxConfig s x _)

theorem switchTank_flxConfig (s : State) : s.switchTank.flx.config = s.flx.config :=
  (setActiveTank_flxConfig _ _).trans (setAmount_flxConfig s _ _)

theorem draw_flxConfig (s : State) (d : Nat) : (s.draw d).1.flx.config = s.flx.config := by
  unfold State.draw
  dsimp only
  split
  · exact deduct_flxConfig s _ _
  · split
    · split
      · exact (deduct_flxConfig _ _ _).trans (switchTank_flxConfig s)
      · exact switchTank_flxConfig s
    · rfl

theorem treatCell_flxConfig (s : State) (q : Nat) (a : SprayAction) : (s.treatCell q a).flx.config = s.flx.config := by
  unfold State.treatCell
  split
  · rfl
  · split
    · rfl
    · split
      · rfl
      · dsimp only
        split <;> exact draw_flxConfig s _

theorem applyCell_flxConfig (s : State) (b : BoardRecord) (n : Nat) : (s.applyCell b n).flx.config = s.flx.config := by
  unfold State.applyCell
  dsimp only
  split <;> exact treatCell_flxConfig (s.setFlx _) _ _

theorem nozzleReached_flxConfig (s : State) (q : Nat) (l : Option Nat) : (s.nozzleReached q l).flx.config = s.flx.config := by
  unfold State.nozzleReached
  split
  · rfl
  · split
    · rfl
    · exact applyCell_flxConfig (State.setFlx _ _) _ _

theorem cellBoundary_flxConfig (s : State) (q n : Nat) : (s.cellBoundary q n).flx.config = s.flx.config := by
  unfold State.cellBoundary
  split
  · split
    · rfl
    · exact applyCell_flxConfig s _ _
  · rfl

theorem leaveTable_flxConfig (q : Nat) (o : ExitOutcome) (hs : HasFlxConfig k s) : HasFlxConfig k (s.leaveTable q o) := by
  refine leaveTable_keeps hasFlxConfig_reads (fun s q h => ?_)
    (fun s q h => hasFlxConfig_reads.of_frame (leaveWave_frame s q) h (by decide)) q o hs (by decide)
  rw [HasFlxConfig, removeSprayed_flx]
  split <;> exact h

theorem refill_flxConfig (n v : Nat) (hs : HasFlxConfig k s) : HasFlxConfig k (s.refill n v).state := by
  unfold State.refill
  split
  · exact hs
  · dsimp only
    split
    · exact hs
    · split
      · exact hs
      · exact ((clearFailedDraw_flxConfig _).trans (setAmount_flxConfig s _ _)).trans hs

theorem selectTank_flxConfig (n : Nat) (hs : HasFlxConfig k s) : HasFlxConfig k (s.selectTank n).state := by
  unfold State.selectTank
  split
  · exact hs
  · split
    · exact hs
    · split
      · exact hs
      · exact (setActiveTank_flxConfig s _).trans hs

theorem exec_flxConfig {c : Instr} (hplain : writesConfig c = false) (h : exec c s = .next t) (hs : HasFlxConfig k s) :
    HasFlxConfig k t := by
  obtain ⟨hchar, htime⟩ := plain_of_not_writesConfig hplain
  refine exec_keeps_of_reads hasFlxConfig_reads hchar htime h hs fun hw => ?_
  have request {α : Type} {l : Link} {kind : Byte} {allowed : List Link} {args : Option α} {act : α → State → Served}
      (hact : ∀ a u, HasFlxConfig k u → HasFlxConfig k (act a u).state) :
      HasFlxConfig k (s.serve l kind allowed args act) :=
    serve_keeps s hasFlxConfig_reads hs hact (by decide) (by decide)
  cases c
  case stallTimerExpiry =>
    obtain hflx | hflx := stallTimerExpiry_flx s t h
    · exact hs.of_eq (by rw [hflx])
    · exact hs.of_eq (by rw [hflx]; rfl)
  all_goals first | (exfalso; simp [touches, writesConfig, movesTimeOrResets] at hw hplain; done) | cases h
  case encoderPulse e x =>
    dsimp only
    split
    · exact hs
    · exact trackCount_keeps hasFlxConfig_reads (fun _ q o => leaveTable_flxConfig q o) e x hs (by decide)
  case nozzleReached q l => exact (nozzleReached_flxConfig (s.taken _) q l).trans hs
  case cellBoundary q n => exact (cellBoundary_flxConfig (s.taken _) q n).trans hs
  case nozzleCleared q =>
    rw [HasFlxConfig, nozzleCleared_flx]
    split <;> exact hs
  case sprayInhibitChange a =>
    rw [HasFlxConfig, sprayChange_flx]
    split <;> exact hs
  case flpSampleArrival v r =>
    obtain ⟨low, cond, hflx⟩ := pressureSample_flx (s.taken (.flpSampleArrival v r)) v r
    rw [HasFlxConfig, hflx]
    exact hs
  case lineModeArrival b m =>
    cases b <;> first | (simp [touches] at hw; done) | skip
    rw [HasFlxConfig, State.takeModeAs, State.takeMode, flxMode_flx]
    split <;> exact hs
  case activeBankArrival b x =>
    cases b <;> first | (simp [touches] at hw; done) | skip
    rw [HasFlxConfig, State.takeBankAs, State.takeBank, evalSupplyEmpty_flx]
    exact hs
  case clearTrack l b =>
    exact request fun _ u hu => clearTrack_keeps hasFlxConfig_reads (fun _ q o => leaveTable_flxConfig q o) hu (by decide)
  case refill l b => exact request fun a u => refill_flxConfig a.1 a.2
  case selectTank l b => exact request fun x u => selectTank_flxConfig x

end FluxItems

section ZoneItems

variable {s t : State} {k : PerZone Nat × PerZone Nat × Nat}

/-! ### Zones -/

/-- ZNC's machine configuration items. -/
def Znc.config (z : Znc) : PerZone Nat × PerZone Nat × Nat := (z.kp, z.ki, z.margin)

/-- ZNC has these items. -/
def HasZncConfig (k : PerZone Nat × PerZone Nat × Nat) (s : State) : Prop := s.znc.config = k

theorem hasZncConfig_reads : ReadsOnly [.znc] (HasZncConfig k) := by
  intro s t h hs
  have hznc : t.znc = s.znc := h .znc (by decide)
  rwa [HasZncConfig, hznc]

theorem forZones_zncConfig (s : State) (f : Zone → ZoneRec → ZoneRec) : (s.forZones f).znc.config = s.znc.config := by
  rw [forZones_zones]; rfl

theorem evaluateZones_zncConfig (s : State) (m : LineMode) : (s.evaluateZones m).znc.config = s.znc.config :=
  forZones_zncConfig s _

theorem zoneSample_zncConfig (z : Zone) (v : Nat) (r : ReportedState) (hs : HasZncConfig k s) :
    HasZncConfig k (s.zoneSample z v r) := by
  have hset (x : ZoneRec) : HasZncConfig k (s.setZone z x) := hs
  unfold State.zoneSample
  dsimp only
  split
  · exact hset _
  · exact hset _

theorem exec_zncConfig {c : Instr} (hplain : writesConfig c = false) (h : exec c s = .next t) (hs : HasZncConfig k s) :
    HasZncConfig k t := by
  obtain ⟨hchar, htime⟩ := plain_of_not_writesConfig hplain
  refine exec_keeps_of_reads hasZncConfig_reads hchar htime h hs fun hw => ?_
  cases c
  all_goals first | (exfalso; simp [touches, writesConfig, movesTimeOrResets] at hw hplain; done) | cases h
  case zoneSampleArrival z v r => exact zoneSample_zncConfig (s := s.taken _) z v r hs
  case preheatInhibitChange a => exact (forZones_zncConfig (State.setZnc _ _) _).trans hs
  case zoneHeaterWindow => exact hs
  case zoneHeaterOnEnd z => exact hs
  case lineModeArrival b m =>
    cases b <;> first | (simp [touches] at hw; done) | skip
    refine hasZncConfig_reads.of_frame (modeTaken_frame _ _ _) ?_ (by decide)
    exact (evaluateZones_zncConfig (s.taken _) m).trans hs
  case activeBankArrival b x =>
    cases b <;> first | (simp [touches] at hw; done) | skip
    refine hasZncConfig_reads.of_frame (bankTaken_frame _ _ _) ?_ (by decide)
    exact (evaluateZones_zncConfig (s.taken _) _).trans hs

end ZoneItems

section PotConfigItems

variable {s t : State} {k : PotItems}

/-! ### Pot -/

/-- POT has these items. -/
def HasPotConfig (k : PotItems) (s : State) : Prop := s.pot.items = k

theorem hasPotConfig_reads : ReadsOnly [.pot] (HasPotConfig k) := by
  intro s t h hs
  have hpot : t.pot = s.pot := h .pot (by decide)
  rwa [HasPotConfig, hpot]

theorem HasPotConfig.of_same (h : SamePot s.pot t.pot) (hs : HasPotConfig k s) : HasPotConfig k t := h.items.trans hs

theorem noteOccupancy_potConfig (hs : HasPotConfig k s) : HasPotConfig k s.noteOccupancy := by
  rw [HasPotConfig, noteOccupancy_pot]; exact hs

theorem appendSchedule_potConfig (e : ScheduleEntry) (hs : HasPotConfig k s) : HasPotConfig k (s.appendSchedule e) := by
  have happended : HasPotConfig k (s.setPot { s.pot with schedule := s.pot.schedule ++ [e] }).noteOccupancy :=
    noteOccupancy_potConfig (s := s.setPot _) hs
  unfold State.appendSchedule
  dsimp only
  split
  · exact (happended.of_same (evalWaveOn_same _ _ _)).of_same (updateWaveBank_same _)
  · exact happended

theorem leaveWave_potConfig (q : Nat) (hs : HasPotConfig k s) : HasPotConfig k (s.leaveWave q) := by
  have hleft : HasPotConfig k (s.setPot { s.pot with
      schedule := s.pot.schedule.filter (fun e => e.seq != q),
      onWave := s.pot.onWave.filter (fun p => p != q) }).noteOccupancy :=
    noteOccupancy_potConfig (s := s.setPot _) hs
  unfold State.leaveWave
  dsimp only
  split
  · split
    · exact hleft.of_same (updateWaveBank_same _)
    · exact (hleft.of_same (evalWaveOn_same _ _ _)).of_same (updateWaveBank_same _)
  · exact hleft

theorem setHeat_potConfig (m : LineMode) (r : PotRec) (hs : HasPotConfig k s) : HasPotConfig k (s.setHeat m r) := by
  unfold State.setHeat
  dsimp only
  split
  · exact hs
  · refine HasPotConfig.of_same (evalWaveOn_same _ _ _) (HasPotConfig.of_same (evalFeeder_same _) ?_)
    exact hs

theorem potSample_potConfig (v : Nat) (r : ReportedState) (hs : HasPotConfig k s) : HasPotConfig k (s.potSample v r) := by
  unfold State.potSample
  dsimp only
  split
  · exact setHeat_potConfig (s := s.post _) _ _ hs
  · exact setHeat_potConfig _ _ hs

theorem potMode_potConfig (m : LineMode) (hs : HasPotConfig k s) : HasPotConfig k (s.potMode m) :=
  (setHeat_potConfig _ _ hs).of_same (evalWaveOn_same _ _ _)

theorem potBank_potConfig (hs : HasPotConfig k s) : HasPotConfig k s.potBank :=
  hasPotConfig_reads.of_frame (postWave_frame _) ((setHeat_potConfig _ _ hs).of_same (updateWaveBank_same _)) (by decide)

theorem qualifyWave_potConfig (v : Nat) (r : ReportedState) (hs : HasPotConfig k s) : HasPotConfig k (s.qualifyWave v r) := by
  have hentered {c : Prop} [Decidable c] {p : Pot} {w : WaveState} (hp : p.items = s.pot.items) :
      HasPotConfig k (if c then (s.setPot p).enterWave w else s.setPot p) := by
    split
    · exact HasPotConfig.of_same (enterWave_same (s.setPot p) w) (hp.trans hs)
    · exact hp.trans hs
  unfold State.qualifyWave
  dsimp only
  split
  · split
    · exact hentered rfl
    · exact hs
  · split
    · exact hentered rfl
    · exact hs
  all_goals exact hs

theorem boardEntersWave_potConfig (q : Nat) (hs : HasPotConfig k s) : HasPotConfig k (s.boardEntersWave q) := by
  unfold State.boardEntersWave
  dsimp only
  split
  · split <;> exact noteOccupancy_potConfig hs
  · exact hs

theorem feederOn_potConfig (w : ContactLevel) (f : Bool) (hs : HasPotConfig k s) : HasPotConfig k (s.feederOn w f) := by
  rw [HasPotConfig, feederOn_pot]; exact hs

theorem wireTransition_potConfig (tr : Transition) (hs : HasPotConfig k s) : HasPotConfig k (s.wireTransition tr) := by
  unfold State.wireTransition
  dsimp only
  split <;> exact feederOn_potConfig _ _ hs

theorem evalFeeder_potConfig (hs : HasPotConfig k s) : HasPotConfig k s.evalFeeder := hs.of_same (evalFeeder_same s)

theorem levelSample_potConfig (v : Nat) (r : ReportedState) (hs : HasPotConfig k s) : HasPotConfig k (s.levelSample v r) := by
  unfold State.levelSample
  split <;> exact evalFeeder_potConfig hs

theorem feedSecond_potConfig (hs : HasPotConfig k s) : HasPotConfig k s.feedSecond := by
  unfold State.feedSecond
  dsimp only
  split <;> exact evalFeeder_potConfig hs

theorem minuteTimerExpiry_potConfig (p : Pot) (c : Prop) [Decidable c] (hs : HasPotConfig k (s.setPot p)) : HasPotConfig k
    (if c then ((s.setPot p).setPot { (s.setPot p).pot with runaway := false }).endAlarm Alarm.feedRunaway
      else s.setPot p).evalFeeder := by
  split <;> exact evalFeeder_potConfig hs

theorem gateReached_potConfig (q : Nat) (hs : HasPotConfig k s) : HasPotConfig k (s.gateReached q) := by
  unfold State.gateReached
  dsimp only
  split
  · exact hs
  · split
    · exact hs
    · exact appendSchedule_potConfig (s := s.updateBoard _ _) _ hs

theorem leaveTable_potConfig (q : Nat) (o : ExitOutcome) (hs : HasPotConfig k s) : HasPotConfig k (s.leaveTable q o) :=
  leaveTable_keeps hasPotConfig_reads (fun s q h => hasPotConfig_reads.of_frame (removeSprayed_frame s q) h (by decide))
    (fun _ q => leaveWave_potConfig q) q o hs (by decide)

theorem exec_potConfig {c : Instr} (hplain : writesConfig c = false) (h : exec c s = .next t) (hs : HasPotConfig k s) :
    HasPotConfig k t := by
  obtain ⟨hchar, htime⟩ := plain_of_not_writesConfig hplain
  refine exec_keeps_of_reads hasPotConfig_reads hchar htime h hs fun hw => ?_
  have request {α : Type} {l : Link} {kind : Byte} {allowed : List Link} {args : Option α} {act : α → State → Served}
      (hact : ∀ a u, HasPotConfig k u → HasPotConfig k (act a u).state) :
      HasPotConfig k (s.serve l kind allowed args act) :=
    serve_keeps s hasPotConfig_reads hs hact (by decide) (by decide)
  cases c
  case riseTimerExpiry =>
    refine Host.Outcome.next.inj h ▸ ?_
    dsimp only
    split <;> exact hs
  all_goals first | (exfalso; simp [touches, writesConfig, movesTimeOrResets] at hw hplain; done) | cases h
  case encoderPulse e x =>
    dsimp only
    split
    · exact hs
    · exact trackCount_keeps hasPotConfig_reads (fun _ q o => leaveTable_potConfig q o) e x hs (by decide)
  case gateReached q => exact gateReached_potConfig (s := s.taken _) q hs
  case waveEntered q => exact boardEntersWave_potConfig (s := s.taken _) q hs
  case waveLeft q =>
    split
    · exact leaveWave_potConfig (s := s.taken _) q hs
    · exact hs
  case ptsSampleArrival v r => exact potSample_potConfig (s := s.taken _) v r hs
  case wvhSampleArrival v r =>
    exact hasPotConfig_reads.of_frame (judgeBoards_frame _ v r) (qualifyWave_potConfig (s := s.taken _) v r hs) (by decide)
  case waveInhibitChange e => exact HasPotConfig.of_same (evalWaveOn_same (s.taken _) _ e) hs
  case plvSampleArrival v r => exact levelSample_potConfig (s := s.taken _) v r hs
  case pumpRunTransition tr => exact hs
  case wirePresentTransition tr => exact wireTransition_potConfig (s := s.taken _) tr hs
  case feedInhibitChange a => exact feederOn_potConfig (s := s.taken _) _ _ hs
  case pumpFaultAcknowledged => exact hs
  case recordIdleArrival r => exact evalFeeder_potConfig (s := (s.taken _).setPot _) (by cases r <;> exact hs)
  case lineModeArrival b m =>
    cases b
    case pot => exact hasPotConfig_reads.of_frame (modeTaken_frame _ _ _) (potMode_potConfig (s := s.taken _) m hs) (by decide)
    all_goals simp [touches] at hw
  case activeBankArrival b k =>
    cases b
    case pot => exact hasPotConfig_reads.of_frame (bankTaken_frame _ _ _) (potBank_potConfig (s := s.taken _) hs) (by decide)
    all_goals simp [touches] at hw
  case potHeaterWindow => exact hs
  case potHeaterOnEnd => exact hs
  case settleTimerExpiry =>
    split
    · exact evalFeeder_potConfig hs
    · exact hs
  case feedingSecond =>
    split
    · exact feedSecond_potConfig hs
    · exact hs
  case minuteTimerExpiry => exact minuteTimerExpiry_potConfig _ _ hs
  case pumpRunTimerExpiry => split <;> exact hs
  case clearTrack l b =>
    exact request fun _ u hu => clearTrack_keeps hasPotConfig_reads (fun _ q o => leaveTable_potConfig q o) hu (by decide)

end PotConfigItems

section DuctItems

variable {s t : State} {k : ExmItems}

/-! ### Extraction -/

/-- EXM has these items. -/
def HasExmConfig (k : ExmItems) (s : State) : Prop := s.exm.items = k

theorem hasExmConfig_reads : ReadsOnly [.exm] (HasExmConfig k) := by
  intro s t h hs
  have hexm : t.exm = s.exm := h .exm (by decide)
  rwa [HasExmConfig, hexm]

theorem driveFans_exmConfig (s : State) (f g : Fan) (on off : Bool) :
    ((s.driveFan f on).driveFan g off).exm.items = s.exm.items := by
  obtain ⟨ts, hexm⟩ := driveFans_exm_eq s f g on off
  rw [hexm]

theorem changeover_exmConfig (hs : HasExmConfig k s) : HasExmConfig k s.changeover :=
  (driveFans_exmConfig s _ _ _ _).trans hs

theorem suctionSample_exmConfig (v : Nat) (r : ReportedState) (hs : HasExmConfig k s) : HasExmConfig k (s.suctionSample v r) := by
  have hreturn : HasExmConfig k s.ductReturn := by
    unfold State.ductReturn
    dsimp only
    split <;> exact hs
  have hrecovery (good : Bool) : HasExmConfig k (s.suctionRecovery good) := by
    unfold State.suctionRecovery
    split
    · split
      · exact hreturn
      · exact hs
    · exact hs
  unfold State.suctionSample
  split
  · unfold State.suctionNormal
    split
    · split
      · exact changeover_exmConfig hs
      · exact hs
    · exact hs
  · exact hrecovery _
  · exact hrecovery _

theorem fanTransition_exmConfig (f : Fan) (tr : Transition) (hs : HasExmConfig k s) : HasExmConfig k (s.fanTransition f tr) := by
  unfold State.fanTransition
  dsimp only
  split
  · split <;> exact hs
  all_goals split <;> exact hs

theorem fanFault_exmConfig (f : Fan) (hs : HasExmConfig k s) : HasExmConfig k (s.fanFault f) := by
  unfold State.fanFault
  dsimp only
  split
  · exact changeover_exmConfig hs
  · exact hs

theorem loseDuct_exmConfig (hs : HasExmConfig k s) : HasExmConfig k s.loseDuct := (driveFans_exmConfig s _ _ _ _).trans hs

theorem filterCheck_exmConfig (hs : HasExmConfig k s) : HasExmConfig k s.filterCheck := by
  unfold State.filterCheck
  dsimp only
  split <;> exact hs

theorem selectFan_exmConfig (n : Nat) (hs : HasExmConfig k s) : HasExmConfig k (s.selectFan n).state := by
  unfold State.selectFan
  dsimp only
  split
  · exact hs
  · split
    · exact hs
    · split
      · exact hs
      · exact (driveFans_exmConfig s _ _ _ _).trans hs

theorem exec_exmConfig {c : Instr} (hplain : writesConfig c = false) (h : exec c s = .next t) (hs : HasExmConfig k s) :
    HasExmConfig k t := by
  obtain ⟨hchar, htime⟩ := plain_of_not_writesConfig hplain
  refine exec_keeps_of_reads hasExmConfig_reads hchar htime h hs fun hw => ?_
  have request {α : Type} {l : Link} {kind : Byte} {allowed : List Link} {args : Option α} {act : α → State → Served}
      (hact : ∀ a u, HasExmConfig k u → HasExmConfig k (act a u).state) :
      HasExmConfig k (s.serve l kind allowed args act) :=
    serve_keeps s hasExmConfig_reads hs hact (by decide) (by decide)
  cases c
  all_goals first | (exfalso; simp [touches, writesConfig, movesTimeOrResets] at hw hplain; done) | cases h
  case dspSampleArrival v r => exact suctionSample_exmConfig (s := s.taken _) v r hs
  case fdpSampleArrival v r => exact hs
  case fanRunTransition f tr => exact fanTransition_exmConfig (s := s.taken _) f tr hs
  case recoveryTimerExpiry =>
    split
    · exact loseDuct_exmConfig hs
    · exact hs
  case fanFaultTimerExpiry f =>
    split
    · exact fanFault_exmConfig f hs
    · exact hs
  case filterCheckTimerExpiry => exact filterCheck_exmConfig hs
  case lineModeArrival b m =>
    cases b <;> first | (simp [touches] at hw; done) | skip
    rw [State.takeModeAs, State.takeMode, State.exmMode]
    split <;> exact hs
  case activeBankArrival b x => cases b <;> simp [touches] at hw
  case selectFan l b => exact request fun f u => selectFan_exmConfig f
  case clearStamps l b => exact request fun _ u hu => hu

end DuctItems

end Sys2Proof.Machine

/-! Proofs about the machine configuration and the banks: what every step keeps of them (chapters 1 to 9). -/

namespace Sys2Proof.Machine

section BankItemsKept

variable {s t : State}

/-! ### Line modes leave the banks and LMC's items alone -/

/-- A property of LMC's record that goes by the banks, the idle timeout and the wake flag. -/
structure ItemsProperty (P : State → Prop) : Prop where
  reads : ReadsOnly [.lmc] P
  items : ∀ s t : State, SameItems s.lmc t.lmc → P s → P t

variable {P : State → Prop}

/-- The requests that write a bank. -/
def writesBank : Instr → Bool
  | .writeBank _ _ | .setZonesAll _ _ | .validateBank _ _ => true
  | _ => false

theorem ItemsProperty.exec (hP : ItemsProperty P) {c : Instr} (hplain : writesConfig c = false) (hbank : writesBank c = false)
    (h : exec c s = .next t) (hs : P s) : P t := by
  obtain ⟨hchar, htime⟩ := plain_of_not_writesConfig hplain
  refine exec_keeps_of_reads hP.reads hchar htime h hs fun hw => ?_
  have request {α : Type} {l : Link} {kind : Byte} {allowed : List Link} {args : Option α} {act : α → State → Served}
      (hact : ∀ a u, SameItems u.lmc (act a u).state.lmc) : P (s.serve l kind allowed args act) :=
    serve_keeps s hP.reads hs (fun a u => hP.items u _ (hact a u)) (by decide) (by decide)
  have kept {u : State} (hu : SameItems s.lmc u.lmc) : P u := hP.items s u hu hs
  cases c
  all_goals first
    | (exfalso; simp [touches, writesConfig, movesTimeOrResets, writesBank] at hw hplain hbank; done) | cases h
  case upstreamAvailTransition tr =>
    refine kept ?_
    split
    · rw [State.enterWarmup]
      exact (changeMode_items (s.taken _) _ _ _).trans (testReadiness_items _)
    · exact .refl _
  case safeDemand i => exact kept (demandSafe_items (s.taken _) _)
  case lineModeArrival b m =>
    refine kept ?_
    rw [takeModeAs_lmc]
    exact ⟨rfl, rfl, rfl⟩
  case activeBankArrival b k =>
    cases b
    case znc =>
      refine kept ?_
      exact (SameItems.of_eq ((evaluateZones_frame (s.taken _) _).lmc (by decide))).trans (bankTaken_items _ _ _)
    case pot =>
      refine kept ?_
      exact (SameItems.of_eq ((potBank_frame (s.taken _)).lmc (by decide))).trans (bankTaken_items _ _ _)
    all_goals simp [touches] at hw
  case readinessArrival r =>
    refine kept (SameItems.trans ?_ (testReadiness_items ((s.taken _).setLmc _)))
    exact ⟨rfl, rfl, rfl⟩
  case feederArrival st =>
    have hviewed : SameItems s.lmc { s.lmc with view := { s.lmc.view with feeding := st == .feeding } } := ⟨rfl, rfl, rfl⟩
    refine kept (hviewed.trans ?_)
    split
    · exact setbackOr_items (State.setLmc _ (s.taken _)) _
    · exact testReadiness_items (State.setLmc _ (s.taken _))
  case gatedArrival n =>
    refine kept ?_
    split
    · exact enterRetarget_items (s.taken _)
    · exact .refl _
  case tableEmptyArrival =>
    refine kept ?_
    split
    · exact changeMode_items (s.taken _) _ _ _
    · exact .refl _
  case frameArrival =>
    refine kept ?_
    split
    · exact superviseFrame_items (s.taken _)
    · exact .refl _
  case idleTimerExpiry =>
    refine kept ?_
    split
    · exact idleExpired_items s
    · exact .refl _
  case supervisionWindowExpiry =>
    refine kept ?_
    split
    · exact superviseExpiry_items s
    · exact .refl _
  case swapBank l b => exact request fun _ u => swapBank_items u
  case cancelSwap l b => exact request fun _ u => (modeRequest_items u).2.2.2
  case warmup l b => exact request fun _ u => warmupRequest_items u _ _
  case start l b => exact request fun _ u => warmupRequest_items u _ _
  case stop l b => exact request fun _ u => stopRequest_items u
  case stopHeat l b => exact request fun _ u => (modeRequest_items u).1
  case enterMaintenance l b => exact request fun _ u => (modeRequest_items u).2.1
  case leaveMaintenance l b => exact request fun _ u => leaveMaintenance_items u
  case forceSafe l b => exact request fun _ u => demandSafe_items u _
  case releaseSafe l b => exact request fun _ u => (modeRequest_items u).2.2.1
  case supervise l b => exact request fun w u => supervise_items u w

end BankItemsKept

section Config

/-! ### The machine configuration as one record (R180) -/

/-- The machine configuration items of every block. -/
structure Config where
  geometry    : Geometry
  idRequired  : Bool
  channels    : Vector ChannelItems 10
  tankLow     : Nat
  pressureMin : Nat
  zoneKp      : PerZone Nat
  zoneKi      : PerZone Nat
  zoneMargin  : Nat
  pot         : PotItems
  exm         : ExmItems
  idleTimeout : Nat
  wake        : Bool

/-- The items that a state holds. -/
def State.config (s : State) : Config where
  geometry := s.trk.geometry
  idRequired := s.trk.idRequired
  channels := s.saq.items
  tankLow := s.flx.lowThreshold
  pressureMin := s.flx.pressureMin
  zoneKp := s.znc.kp
  zoneKi := s.znc.ki
  zoneMargin := s.znc.margin
  pot := s.pot.items
  exm := s.exm.items
  idleTimeout := s.lmc.idleTimeout
  wake := s.lmc.wakeEnabled

/-- The value of an item. -/
def Config.value (c : Config) : ConfigItem → Int
  | .geometry g => c.geometry.read g
  | .idRequired => if c.idRequired then 1 else 0
  | .channel x k => c.channels[x.index].read k
  | .tankLow => c.tankLow
  | .fluxPressureMin => c.pressureMin
  | .zoneKp z => c.zoneKp.get z
  | .zoneKi z => c.zoneKi.get z
  | .zoneMargin => c.zoneMargin
  | .potKp => c.pot.kp
  | .potKi => c.pot.ki
  | .potMargin => c.pot.margin
  | .pumpSafe => c.pot.pumpSafe
  | .potHold => if c.pot.holdEnabled then 1 else 0
  | .holdSetpoint => c.pot.holdSetpoint
  | .alpha => c.pot.alpha
  | .tRef => c.pot.tRef
  | .dPump => c.pot.dPump
  | .levelMin => c.pot.levelMin
  | .feedOn => c.pot.feedOn
  | .feedOff => c.pot.feedOff
  | .levelMax => c.pot.levelMax
  | .budget => c.pot.budget
  | .ductTrip => c.exm.ductTrip
  | .ductHyst => c.exm.ductHyst
  | .filterWarn => c.exm.filterWarn
  | .filterBlock => c.exm.filterBlock
  | .filterHyst => c.exm.filterHyst
  | .idleTimeout => c.idleTimeout
  | .wake => if c.wake then 1 else 0

theorem configValue_eq (s : State) (i : ConfigItem) : s.configValue i = s.config.value i := by cases i <;> rfl

/-- An item takes a value. -/
def Config.store (c : Config) (i : ConfigItem) (v : Int) : Config :=
  match i with
  | .geometry g => { c with geometry := c.geometry.write g v.toNat }
  | .idRequired => { c with idRequired := v.toNat == 1 }
  | .channel x k => { c with channels := c.channels.set x.index (c.channels[x.index].write k v) }
  | .tankLow => { c with tankLow := v.toNat }
  | .fluxPressureMin => { c with pressureMin := v.toNat }
  | .zoneKp z => { c with zoneKp := c.zoneKp.set z v.toNat }
  | .zoneKi z => { c with zoneKi := c.zoneKi.set z v.toNat }
  | .zoneMargin => { c with zoneMargin := v.toNat }
  | .idleTimeout => { c with idleTimeout := v.toNat }
  | .wake => { c with wake := v.toNat == 1 }
  | i => { c with pot := c.pot.write i v.toNat, exm := c.exm.write i v.toNat }

/-- LMC's machine configuration items. -/
def Lmc.config (l : Lmc) : Nat × Bool := (l.idleTimeout, l.wakeEnabled)

/-- Two states whose blocks have the same items. -/
theorem config_eq {s t : State} (htrk : t.trk.config = s.trk.config) (hsaq : t.saq.items = s.saq.items)
    (hflx : t.flx.config = s.flx.config) (hznc : t.znc.config = s.znc.config) (hpot : t.pot.items = s.pot.items)
    (hexm : t.exm.items = s.exm.items) (hlmc : t.lmc.config = s.lmc.config) : t.config = s.config := by
  simp only [Trk.config, Flx.config, Znc.config, Lmc.config, Prod.mk.injEq] at htrk hflx hznc hlmc
  simp only [State.config, htrk, hsaq, hflx, hznc, hpot, hexm, hlmc]

theorem evaluatePot_config (s : State) (m : LineMode) : (s.evaluatePot m).config = s.config := by
  have hframe := evaluatePot_frame s m
  have htrk : HasTrkConfig s.trk.config (s.evaluatePot m) := .of_boards (setHeat_boards s _ _) rfl
  exact config_eq htrk (congrArg _ (hframe.saq (by decide))) (congrArg _ (hframe.flx (by decide)))
    (congrArg _ (hframe.znc (by decide))) (setHeat_potConfig _ _ rfl) (congrArg _ (hframe.exm (by decide)))
    (congrArg _ (hframe.lmc (by decide)))

theorem evalTankLow_config (s : State) : s.evalTankLow.config = s.config := by
  have hframe := evalTankLow_frame s
  exact config_eq (congrArg _ (hframe.trk (by decide))) (congrArg _ (hframe.saq (by decide)))
    (by rw [evalTankLow_flx]; rfl) (congrArg _ (hframe.znc (by decide))) (congrArg _ (hframe.pot (by decide)))
    (congrArg _ (hframe.exm (by decide))) (congrArg _ (hframe.lmc (by decide)))

/-- R60, R98: what is evaluated at the write changes no item. -/
theorem storeConfig_config (s : State) (i : ConfigItem) (v : Int) : (s.storeConfig i v).config = s.config.store i v := by
  cases i
  case tankLow => exact evalTankLow_config _
  case potHold | holdSetpoint => exact evaluatePot_config _ _
  all_goals rfl

/-! ### An item that takes a value, and the others (R180) -/

theorem Geometry.read_write (g : Geometry) (i j : GeometryItem) (v : Nat) :
    (g.write i v).read j = if j = i then v else g.read j := by
  cases i <;> cases j <;> rfl

theorem ChannelItems.read_write_ne (c : ChannelItems) {i j : ChannelItem} (v : Int) (h : j ≠ i) :
    (c.write i v).read j = c.read j := by
  cases i <;> cases j <;> first | rfl | exact absurd rfl h

theorem channels_set (x y : Channel) (cs : Vector ChannelItems 10) (c : ChannelItems) :
    (cs.set x.index c)[y.index] = if y = x then c else cs[y.index] := by
  by_cases h : y = x
  · simp [h]
  · have hindex : x.index.val ≠ y.index.val := by
      intro e
      apply h
      cases x <;> cases y <;> first | rfl | cases e
    simp [h, hindex]

/-- The items that are neither flags, the channel offset nor out of reach of a natural number. -/
theorem toNat_of_inRange {i : ConfigItem} {v : Int} (h : i.inRange v = true) (hi : i.signed = false) : (v.toNat : Int) = v := by
  rw [ConfigItem.inRange, Bool.and_eq_true, decide_eq_true_eq, decide_eq_true_eq] at h
  have hlow : 0 ≤ i.range.1 := by
    cases i
    case geometry g => cases g <;> decide
    case channel c k => cases k <;> first | exact Int.le_refl 0 | cases hi
    all_goals first | exact Int.le_refl 0 | decide
  omega

/-- R180: the item takes the value, and no other item changes. -/
theorem Config.value_store (c : Config) {i : ConfigItem} {v : Int} (h : i.inRange v = true) : (c.store i v).value i = v := by
  have hnat (hi : i.signed = false) := toNat_of_inRange h hi
  have hflag (hi : i.range = (0, 1)) : (if v.toNat == 1 then 1 else 0 : Int) = v := by
    rw [ConfigItem.inRange, hi] at h
    simp only [Bool.and_eq_true, decide_eq_true_eq] at h
    by_cases hv : v = 1
    · simp [hv]
    · obtain rfl : v = 0 := by omega
      rfl
  cases i
  case geometry g =>
    refine Eq.trans ?_ (hnat rfl)
    simp [Config.store, Config.value, Geometry.read_write]
  case channel x k =>
    simp only [Config.store, Config.value, channels_set, if_true]
    cases k
    case offset => rfl
    all_goals exact hnat rfl
  case zoneKp z | zoneKi z =>
    refine Eq.trans ?_ (hnat rfl)
    simp [Config.store, Config.value]
  case idRequired | potHold | wake => exact hflag rfl
  all_goals exact hnat rfl

theorem Config.value_store_ne (c : Config) {i j : ConfigItem} (v : Int) (h : j ≠ i) : (c.store i v).value j = c.value j := by
  cases i with
  | geometry g =>
    cases j with
    | geometry g' =>
      have hne : g' ≠ g := fun e => h (e ▸ rfl)
      simp [Config.store, Config.value, Geometry.read_write, hne]
    | _ => rfl
  | channel x k =>
    cases j with
    | channel x' k' =>
      simp only [Config.store, Config.value, channels_set]
      split
      next hx =>
        subst hx
        exact ChannelItems.read_write_ne _ v fun e => h (e ▸ rfl)
      next => rfl
    | _ => rfl
  | zoneKp z =>
    cases j with
    | zoneKp z' => simp [Config.store, Config.value, PerZone.get_set_ne _ v.toNat (fun e => h (e ▸ rfl) : z' ≠ z)]
    | _ => rfl
  | zoneKi z =>
    cases j with
    | zoneKi z' => simp [Config.store, Config.value, PerZone.get_set_ne _ v.toNat (fun e => h (e ▸ rfl) : z' ≠ z)]
    | _ => rfl
  | _ => cases j <;> first | rfl | exact absurd rfl h

/-! ### The conditions between the items (R6, R31, R107, R123) -/

/-- R5, R6, R31, R107, R123: every item in its range, and the conditions between them. -/
structure Config.Sound (c : Config) : Prop where
  ranges   : ∀ i : ConfigItem, i.inRange (c.value i) = true
  geometry : c.geometry.valid = true
  channels : ∀ x : Channel, c.channels[x.index].low < c.channels[x.index].high
  levels   : c.pot.levelsOrdered = true
  exm      : c.exm.valid = true

theorem configSound_iff (s : State) : ConfigSound s ↔ s.config.Sound := by
  simp only [ConfigSound, configValue_eq]
  exact ⟨fun ⟨hr, hg, hc, hl, he⟩ => ⟨hr, hg, hc, hl, he⟩, fun ⟨hr, hg, hc, hl, he⟩ => ⟨hr, hg, hc, hl, he⟩⟩

/-- The condition that a write would break, by what the items become. -/
def Config.conflictOf (i : ConfigItem) (after : Config) : Option Status :=
  match i with
  | .geometry .trim => none
  | .geometry _ => if after.geometry.valid = true then none else some .geometryInvalid
  | .channel c .low | .channel c .high =>
    if after.channels[c.index].low < after.channels[c.index].high then none else some .invalid
  | .levelMin | .feedOn | .feedOff | .levelMax => if after.pot.levelsOrdered = true then none else some .invalid
  | .ductTrip | .ductHyst | .filterWarn | .filterBlock | .filterHyst =>
    if after.exm.valid = true then none else some .invalid
  | _ => none

theorem configConflict_eq (s : State) (i : ConfigItem) (v : Int) : s.configConflict i v = (s.config.store i v).conflictOf i := by
  cases i
  case geometry g => cases g <;> rfl
  case channel c k => cases k <;> first | rfl | simp [State.configConflict, Config.conflictOf, Config.store, State.config]
  all_goals rfl

theorem of_refusal_eq_none {p : Prop} [Decidable p] {st : Status} (h : (if p then none else some st) = none) : p := by
  by_contra hp
  rw [if_neg hp] at h
  cases h

/-- A write that is in range and breaks no condition keeps the configuration sound. -/
theorem Config.Sound.store {c : Config} (hc : c.Sound) {i : ConfigItem} {v : Int} (hrange : i.inRange v = true)
    (hconflict : (c.store i v).conflictOf i = none) : (c.store i v).Sound := by
  refine ⟨fun j => ?_, ?_, fun x => ?_, ?_, ?_⟩
  · by_cases hj : j = i
    · rw [hj, c.value_store hrange]
      exact hrange
    · rw [c.value_store_ne v hj]
      exact hc.ranges j
  · cases i
    case geometry g =>
      cases g
      case trim => exact hc.geometry
      all_goals exact of_refusal_eq_none hconflict
    all_goals exact hc.geometry
  · cases i
    case channel y k =>
      by_cases hx : x = y
      · subst hx
        cases k
        case low | high =>
          exact of_refusal_eq_none hconflict
        all_goals simpa [Config.store, channels_set, ChannelItems.write] using hc.channels x
      · have hother : (c.store (.channel y k) v).channels[x.index] = c.channels[x.index] :=
          (channels_set y x _ _).trans (if_neg hx)
        rw [hother]
        exact hc.channels x
    all_goals exact hc.channels x
  · cases i
    case levelMin | feedOn | feedOff | levelMax =>
      exact of_refusal_eq_none hconflict
    all_goals exact hc.levels
  · cases i
    case ductTrip | ductHyst | filterWarn | filterBlock | filterHyst =>
      exact of_refusal_eq_none hconflict
    all_goals exact hc.exm

end Config

end Sys2Proof.Machine

/-! Proofs about what every step keeps: the machine configuration and the banks in their ranges (R5, R6, R45, R46, R164). -/

namespace Sys2Proof.Machine

section ConfigKept

variable {s t : State}

/-! ### The machine configuration (R5, R6, R180) -/

theorem lmcConfig_property (k : Nat × Bool) : ItemsProperty fun s => s.lmc.config = k where
  reads s t h hs := by
    have hlmc : t.lmc = s.lmc := h .lmc (by decide)
    exact (congrArg _ hlmc).trans hs
  items s t h hs := by
    refine Eq.trans ?_ hs
    rw [Lmc.config, h.idleTimeout, h.wakeEnabled]
    rfl

theorem writeBank_lmcConfig (s : State) (b : BankId) (w : BankWrite) : (s.writeBank b w).state.lmc.config = s.lmc.config := by
  unfold State.writeBank State.storeBank
  split
  · rfl
  · split
    · rfl
    · split <;> rfl

theorem setZonesAll_lmcConfig (s : State) (v : Nat) : (s.setZonesAll v).state.lmc.config = s.lmc.config := by
  unfold State.setZonesAll State.storeBank
  dsimp only
  split
  · rfl
  · split
    · rfl
    · split <;> rfl

theorem validateBank_lmcConfig (s : State) : s.validateBank.state.lmc.config = s.lmc.config := by
  unfold State.validateBank
  dsimp only
  split
  · rfl
  · rfl
  · split <;> rfl

theorem exec_lmcConfig_of_writesBank {c : Instr} (hbank : writesBank c = true) (h : exec c s = .next t) :
    t.lmc.config = s.lmc.config := by
  have request {α : Type} {l : Link} {kind : Byte} {allowed : List Link} {args : Option α} {act : α → State → Served}
      (hact : ∀ a u, (act a u).state.lmc.config = u.lmc.config) :
      (s.serve l kind allowed args act).lmc.config = s.lmc.config :=
    serve_keeps s (lmcConfig_property s.lmc.config).reads rfl (fun a u hu => (hact a u).trans hu) (by decide) (by decide)
  cases c <;> first | (exfalso; cases hbank; done) | cases h
  case writeBank l b => exact request fun a u => writeBank_lmcConfig u a.1 a.2
  case setZonesAll l b => exact request fun v u => setZonesAll_lmcConfig u v
  case validateBank l b => exact request fun _ u => validateBank_lmcConfig u

theorem exec_lmcConfig {c : Instr} (hplain : writesConfig c = false) (h : exec c s = .next t) :
    t.lmc.config = s.lmc.config := by
  by_cases hbank : writesBank c = true
  · exact exec_lmcConfig_of_writesBank hbank h
  · exact (lmcConfig_property s.lmc.config).exec hplain (by simpa using hbank) h rfl

/-- No command but WRITE_CONFIG, a frame that carries it and a reset changes the machine configuration. -/
theorem exec_config {c : Instr} (hplain : writesConfig c = false) (h : exec c s = .next t) : t.config = s.config :=
  config_eq (exec_trkConfig hplain h rfl) (exec_saqConfig hplain h rfl) (exec_flxConfig hplain h rfl)
    (exec_zncConfig hplain h rfl) (exec_potConfig hplain h rfl) (exec_exmConfig hplain h rfl) (exec_lmcConfig hplain h)

theorem ConfigSound.of_config (h : t.config = s.config) (hs : ConfigSound s) : ConfigSound t := by
  rw [configSound_iff] at hs ⊢
  rwa [h]

/-- R180: WRITE_CONFIG stores only what is in range and breaks no condition. -/
theorem writeConfig_configSound (i : ConfigItem) (v : Int) (hs : ConfigSound s) : ConfigSound (s.writeConfig i v).state := by
  unfold State.writeConfig
  split
  · exact hs
  · split
    · exact hs
    · split
      · exact hs
      next hrange =>
        split
        · exact hs
        next hconflict =>
          rw [configConflict_eq] at hconflict
          rw [configSound_iff] at hs
          rw [done_state, configSound_iff, storeConfig_config]
          exact hs.store (by simpa using hrange) hconflict

theorem reset_configSound : State.reset.config.Sound := by
  refine ⟨fun i => ?_, by decide, fun c => by cases c <;> decide, by decide, by decide⟩
  cases i with
  | geometry g => cases g <;> decide
  | channel c k => cases c <;> cases k <;> decide
  | zoneKp z => cases z <;> decide
  | zoneKi z => cases z <;> decide
  | _ => decide

theorem restart_config (r : Rtr) (u : State) : (u.restart r).config = State.reset.config := by
  have hempty (w : State) : w.evalSupplyEmpty.config = w.config := by
    have hframe := evalSupplyEmpty_frame w
    exact config_eq (congrArg _ (hframe.trk (by decide))) (congrArg _ (hframe.saq (by decide)))
      (by rw [evalSupplyEmpty_flx]; rfl) (congrArg _ (hframe.znc (by decide))) (congrArg _ (hframe.pot (by decide)))
      (congrArg _ (hframe.exm (by decide))) (congrArg _ (hframe.lmc (by decide)))
  rw [State.restart, hempty, evalTankLow_config]
  rfl

theorem contactPass_config (s : State) (inputs : ContactInputs) : (s.contactPass inputs).config = s.config := by
  have hframe := contactPass_frame s inputs
  exact config_eq (congrArg _ (hframe.trk (by decide))) (contactPass_saqConfig inputs rfl)
    (congrArg _ (hframe.flx (by decide))) (congrArg _ (hframe.znc (by decide))) (congrArg _ (hframe.pot (by decide)))
    (congrArg _ (hframe.exm (by decide))) (congrArg _ (hframe.lmc (by decide)))

theorem timeOrReset_configSound (h : TimeOrReset s t) (hs : ConfigSound s) : ConfigSound t := by
  cases h with
  | tick => exact hs.of_config rfl
  | pin p => exact hs.of_config rfl
  | nothing => exact hs
  | reset u r inputs =>
    rw [configSound_iff, contactPass_config, restart_config]
    exact reset_configSound

theorem exec_configSound (c : Instr) (hchar : isCharacter c = false) (h : exec c s = .next t) (hs : ConfigSound s) :
    ConfigSound t := by
  by_cases htime : movesTimeOrResets c = true
  · exact timeOrReset_configSound (exec_timeOrReset htime h) hs
  by_cases hplain : writesConfig c = false
  · exact hs.of_config (exec_config hplain h)
  · obtain ⟨l, b, rfl⟩ : ∃ l b, c = .writeConfig l b := by
      cases c <;> first | exact ⟨_, _, rfl⟩ | exact absurd rfl hplain | exact absurd rfl htime | cases hchar
    cases h
    refine serve_keeps s (ps := [.trk, .saq, .flx, .znc, .pot, .exm, .lmc]) (P := ConfigSound) ?_ hs
      (fun a u => writeConfig_configSound a.1 a.2) (by decide) (by decide)
    intro u w hsame hu
    exact hu.of_config (config_eq (congrArg _ (hsame .trk (by decide))) (congrArg _ (hsame .saq (by decide)))
      (congrArg _ (hsame .flx (by decide))) (congrArg _ (hsame .znc (by decide))) (congrArg _ (hsame .pot (by decide)))
      (congrArg _ (hsame .exm (by decide))) (congrArg _ (hsame .lmc (by decide))))

end ConfigKept

section BanksKept

variable {s t : State}

/-! ### The banks (R45, R46, R164, R165) -/

theorem sameBanks_property {P : State → Prop} (h : ∀ s t : State, t.lmc.banks = s.lmc.banks → P s → P t) :
    ItemsProperty P where
  reads s t hsame hs := by
    have hlmc : t.lmc = s.lmc := hsame .lmc (by decide)
    exact h s t (congrArg _ hlmc) hs
  items s t hsame hs := h s t hsame.banks hs

theorem storeConfig_banks (s : State) (i : ConfigItem) (v : Int) : (s.storeConfig i v).lmc.banks = s.lmc.banks := by
  cases i
  case tankLow => exact congrArg _ ((evalTankLow_frame _).lmc (by decide))
  case potHold | holdSetpoint => exact congrArg _ ((evaluatePot_frame _ _).lmc (by decide))
  all_goals rfl

theorem bank_of_banks (h : t.lmc.banks = s.lmc.banks) (b : BankId) : t.lmc.bank b = s.lmc.bank b := by
  rw [Lmc.bank, Lmc.bank, h]

theorem bank_setBank (s : State) (b d : BankId) (x : Bank) :
    (s.setBank b x).lmc.bank d = if d = b then x else s.lmc.bank d := by
  cases b <;> cases d <;> rfl

/-- R164: an EMPTY bank first takes every starting value, and these are in range. -/
theorem items_sound (hs : BanksSound s) (b : BankId) : BankItemsSound (s.lmc.bank b).items := by
  cases h : s.lmc.bank b with
  | empty =>
    refine ⟨fun z => by cases z <;> decide, fun z => by cases z <;> decide, ?_, ?_, ?_, ?_, fun n => ?_, ?_, ?_, ?_, ?_⟩ <;>
      first | decide | (revert n; decide)
  | unchecked i => exact hs b i (by rw [h]; rfl)
  | valid i => exact hs b i (by rw [h]; rfl)

theorem setBank_banksSound {b : BankId} {x : Bank} (hs : BanksSound s) (hx : ∀ i, x.held? = some i → BankItemsSound i) :
    BanksSound (s.setBank b x) := by
  intro d i hi
  rw [bank_setBank] at hi
  split at hi
  · exact hx i hi
  · exact hs d i hi

theorem storeBank_banksSound {b : BankId} {f : BankItems → BankItems} (hs : BanksSound s)
    (hf : BankItemsSound (s.lmc.bank b).items → BankItemsSound (f (s.lmc.bank b).items)) :
    BanksSound (s.storeBank b f).state := by
  refine setBank_banksSound hs fun i hi => ?_
  obtain rfl := Option.some.inj hi
  exact hf (items_sound hs b)

/-- What a write may put into a bank: the values that its item admits. -/
def BankWrite.Fits : BankWrite → Prop
  | .number i v => i.inRange v = true
  | .action n a => 1 ≤ a.dose ∧ a.dose ≤ 255 ∧ (n = 0 → a.spray = false)
  | .map runs => 1 ≤ runs.length ∧ runs.length ≤ 32 ∧ ∀ r ∈ runs, 1 ≤ r.cells ∧ r.cells ≤ 255

theorem writeNumber_sound {i : BankItems} (hi : BankItemsSound i) {n : BankNumber} {v : Nat} (h : n.inRange v = true) :
    BankItemsSound (i.writeNumber n v) := by
  rw [BankNumber.inRange, Bool.and_eq_true, decide_eq_true_eq, decide_eq_true_eq] at h
  obtain ⟨zones, coupling, ambient, setbacks, pot, lengths, actions, noSpray, map, thermal, wave⟩ := hi
  have hzone {p : Nat → Prop} (x : PerZone Nat) (z y : Zone) (hx : p (x.get y)) (hv : p v) : p ((x.set z v).get y) := by
    by_cases hy : y = z
    · rw [hy, PerZone.get_set_self]
      exact hv
    · rwa [PerZone.get_set_ne x v hy]
  cases n <;> simp only [BankNumber.range] at h
  case zoneSetpoint z =>
    refine ⟨fun y => ?_, coupling, ambient, setbacks, pot, lengths, actions, noSpray, map, thermal, wave⟩
    obtain ⟨hlow, hhigh, hband⟩ := zones y
    exact ⟨hzone _ z y hlow h.1, hzone (p := (· ≤ 3500)) _ z y hhigh h.2, hband⟩
  case zoneBand z =>
    refine ⟨fun y => ?_, coupling, ambient, setbacks, pot, lengths, actions, noSpray, map, thermal, wave⟩
    obtain ⟨hlow, hhigh, hmin, hmax⟩ := zones y
    exact ⟨hlow, hhigh, hzone _ z y hmin h.1, hzone (p := (· ≤ 200)) _ z y hmax h.2⟩
  case coupling z =>
    refine ⟨zones, fun y => ?_, ambient, setbacks, pot, lengths, actions, noSpray, map, thermal, wave⟩
    exact hzone (p := fun n => 1 ≤ n ∧ n ≤ 4095) _ z y (coupling y) h
  all_goals
    refine ⟨zones, coupling, ?_, ?_, ?_, ?_, actions, noSpray, map, ?_, ?_⟩ <;> simp only [BankItems.writeNumber] <;> omega

theorem write_sound {i : BankItems} (hi : BankItemsSound i) {w : BankWrite} (hw : w.Fits) : BankItemsSound (i.write w) := by
  cases w with
  | number n v => exact writeNumber_sound hi hw
  | map runs =>
    obtain ⟨zones, coupling, ambient, setbacks, pot, lengths, actions, noSpray, -, thermal, wave⟩ := hi
    obtain ⟨hmin, hmax, hruns⟩ := hw
    exact ⟨zones, coupling, ambient, setbacks, pot, lengths, actions, noSpray, ⟨hmin, hmax, hruns⟩, thermal, wave⟩
  | action n a =>
    obtain ⟨zones, coupling, ambient, setbacks, pot, lengths, actions, noSpray, map, thermal, wave⟩ := hi
    obtain ⟨hmin, hmax, hspray⟩ := hw
    have hset (m : Fin 8) : (i.actions.set n a)[m] = if m = n then a else i.actions[m] := by
      by_cases hm : m = n
      · simp [hm]
      · have hval : n.val ≠ m.val := fun e => hm (Fin.ext e.symm)
        simp [hm, hval]
    refine ⟨zones, coupling, ambient, setbacks, pot, lengths, fun m => ?_, ?_, map, thermal, wave⟩
    · simp only [BankItems.write, hset]
      split
      · exact ⟨hmin, hmax⟩
      · exact actions m
    · simp only [BankItems.write, hset]
      split
      next h => exact hspray h.symm
      next => exact noSpray

/-! ### A body that fits names a write that fits (R45, R46, R180) -/

theorem byte_toNat_pos {b : Byte} (h : b ≠ 0) : 1 ≤ b.toNat := by
  by_contra hlow
  exact h (BitVec.eq_of_toNat_eq (by simpa using hlow))

theorem byte_toNat_le (b : Byte) : b.toNat ≤ 255 := Nat.le_of_lt_succ b.isLt

theorem runsOf_fits : ∀ (bs : List Byte) (rs : List Run), runsOf bs = some rs →
    2 * rs.length = bs.length ∧ ∀ r ∈ rs, 1 ≤ r.cells ∧ r.cells ≤ 255
  | [], rs, h => by
    obtain rfl := Option.some.inj h
    exact ⟨rfl, by simp⟩
  | [_], rs, h => by cases h
  | cells :: act :: rest, rs, h => by
    simp only [runsOf, Option.bind_eq_bind, Option.bind_eq_some_iff] at h
    obtain ⟨a, -, rs', hrest, hrun⟩ := h
    obtain ⟨hlength, hruns⟩ := runsOf_fits rest rs' hrest
    split at hrun
    · cases hrun
    next hcells =>
      obtain rfl := Option.some.inj hrun
      refine ⟨by simp only [List.length_cons]; omega, fun r hr => ?_⟩
      obtain rfl | hr := List.mem_cons.mp hr
      · exact ⟨byte_toNat_pos hcells, byte_toNat_le cells⟩
      · exact hruns r hr

theorem actionBody_fits {n : Fin 8} {value : List Byte} {a : SprayAction} (h : actionBody n value = some a) :
    1 ≤ a.dose ∧ a.dose ≤ 255 ∧ (n = 0 → a.spray = false) := by
  unfold actionBody at h
  split at h
  case h_2 => cases h
  case h_1 sp dose counted mark =>
    simp only [Option.bind_eq_bind, Option.bind_eq_some_iff] at h
    obtain ⟨spray, -, count, -, marks, -, h⟩ := h
    split at h
    · cases h
    next hfit =>
      rw [not_or] at hfit
      obtain rfl := Option.some.inj h
      exact ⟨byte_toNat_pos hfit.1, byte_toNat_le dose, fun hn => by simpa [hn] using hfit.2⟩

theorem mapBody_fits {value : List Byte} {runs : List Run} (h : mapBody value = some runs) : (BankWrite.map runs).Fits := by
  unfold mapBody at h
  split at h
  · split at h
    next hsize =>
      obtain ⟨hmin, hmax, hlength⟩ := hsize
      obtain ⟨hruns, hcells⟩ := runsOf_fits _ _ h
      exact ⟨by omega, by omega, hcells⟩
    next => cases h
  · cases h

theorem bankWrite_fits {row inst : Nat} {value : List Byte} {w : BankWrite} (h : bankWrite? row inst value = some w) :
    w.Fits := by
  unfold bankWrite? at h
  split at h
  · simp only [Option.bind_eq_bind, Option.bind_eq_some_iff] at h
    obtain ⟨n, -, a, ha, hw⟩ := h
    obtain rfl := Option.some.inj hw
    exact actionBody_fits ha
  · split at h
    · obtain ⟨runs, hruns, rfl⟩ := Option.map_eq_some_iff.mp h
      exact mapBody_fits hruns
    · cases h
  · simp only [Option.bind_eq_bind, Option.bind_eq_some_iff] at h
    obtain ⟨n, -, hw⟩ := h
    split at hw
    next hfit =>
      obtain rfl := Option.some.inj hw
      exact hfit.2
    next => cases hw

theorem bankBody_fits {body : List Byte} {b : BankId} {w : BankWrite} (h : bankBody body = some (b, w)) : w.Fits := by
  unfold bankBody at h
  split at h
  · simp only [Option.bind_eq_bind, Option.bind_eq_some_iff] at h
    obtain ⟨b', -, hrule⟩ := h
    split at hrule
    · obtain ⟨w', hw, hpair⟩ := Option.bind_eq_some_iff.mp hrule
      obtain ⟨rfl, rfl⟩ := Prod.mk.inj (Option.some.inj hpair)
      exact bankWrite_fits hw
    · cases hrule
  · cases h

/-! ### The requests that write a bank -/

theorem writeBank_banksSound (b : BankId) {w : BankWrite} (hw : w.Fits) (hs : BanksSound s) :
    BanksSound (s.writeBank b w).state := by
  unfold State.writeBank
  split
  · exact hs
  · split
    · exact hs
    · split
      · exact hs
      · exact storeBank_banksSound hs fun hi => write_sound hi hw

theorem setZonesAll_banksSound (v : Nat) (hs : BanksSound s) : BanksSound (s.setZonesAll v).state := by
  unfold State.setZonesAll
  dsimp only
  split
  · exact hs
  next hrange =>
    split
    · exact hs
    · split
      · exact hs
      · refine storeBank_banksSound hs fun hi => ?_
        obtain ⟨zones, coupling, ambient, setbacks, pot, lengths, actions, noSpray, map, thermal, wave⟩ := hi
        refine ⟨fun z => ?_, coupling, ambient, setbacks, pot, lengths, actions, noSpray, map, thermal, wave⟩
        obtain ⟨-, -, hband⟩ := zones z
        have hv : 500 ≤ v ∧ v ≤ 3500 := by omega
        cases z <;> exact ⟨hv.1, hv.2, hband⟩

theorem validateBank_banksSound (hs : BanksSound s) : BanksSound s.validateBank.state := by
  unfold State.validateBank
  dsimp only
  split
  · exact hs
  · exact hs
  next i hbank =>
    split
    · exact hs
    · refine setBank_banksSound hs fun j hj => ?_
      obtain rfl := Option.some.inj hj
      exact hs s.lmc.active.other i (by rw [hbank]; rfl)

theorem BanksSound.of_banks (h : t.lmc.banks = s.lmc.banks) (hs : BanksSound s) : BanksSound t := by
  intro b i hi
  rw [bank_of_banks h] at hi
  exact hs b i hi

theorem banksSound_property : ItemsProperty BanksSound := sameBanks_property fun _ _ h hs => hs.of_banks h

/-- As `serve_keeps`, where what the request does is known of the arguments that its body gives. -/
theorem serve_keeps_of_args {ps : List Part} {P : State → Prop} (hreads : ReadsOnly ps P) {α : Type} {l : Link} {kind : Byte}
    {allowed : List Link} {args : Option α} {act : α → State → Served} (hs : P s)
    (hact : ∀ a, args = some a → ∀ u, P u → P (act a u).state) (hlinks : Part.links ∉ ps) (hposted : Part.posted ∉ ps) :
    P (s.serve l kind allowed args act) := by
  cases args with
  | none =>
    have hnone : s.serve l kind allowed none act = s.serve l kind allowed (none : Option α) fun _ u => u.done := rfl
    rw [hnone]
    exact serve_keeps s hreads hs (fun _ _ hu => hu) hlinks hposted
  | some a => exact serve_keeps s hreads (act := fun _ => act a) (args := some a) hs (fun _ => hact a rfl) hlinks hposted

/-- The requests to write an item of the configuration or of a bank. -/
theorem exec_banksSound_of_writes {c : Instr} (hwrites : writesBank c = true ∨ ∃ l b, c = .writeConfig l b)
    (h : exec c s = .next t) (hs : BanksSound s) : BanksSound t := by
  have request {α : Type} {l : Link} {kind : Byte} {allowed : List Link} {args : Option α} {act : α → State → Served}
      (hact : ∀ a, args = some a → ∀ u, BanksSound u → BanksSound (act a u).state) :
      BanksSound (s.serve l kind allowed args act) :=
    serve_keeps_of_args banksSound_property.reads hs hact (by decide) (by decide)
  cases c <;> first | (exfalso; simp [writesBank] at hwrites; done) | cases h
  case writeConfig l b =>
    exact request fun a _ u => writeConfig_keeps (fun s i v hs => hs.of_banks (storeConfig_banks s i v)) a.1 a.2
  case writeBank l b => exact request fun a ha u => writeBank_banksSound a.1 (bankBody_fits ha)
  case setZonesAll l b => exact request fun v _ u => setZonesAll_banksSound v
  case validateBank l b => exact request fun _ _ u => validateBank_banksSound

theorem restart_lmc (r : Rtr) (u : State) : (u.restart r).lmc = State.reset.lmc := by
  rw [State.restart, (evalSupplyEmpty_frame _).lmc (by decide), (evalTankLow_frame _).lmc (by decide)]

/-- R164: a reset empties both banks. -/
theorem reset_banksSound (h : t.lmc.banks = State.reset.lmc.banks) : BanksSound t := by
  intro b i hi
  rw [Lmc.bank, h] at hi
  cases b <;> cases hi

theorem timeOrReset_banksSound (h : TimeOrReset s t) (hs : BanksSound s) : BanksSound t := by
  cases h with
  | tick => exact hs.of_banks rfl
  | pin p => exact hs.of_banks rfl
  | nothing => exact hs
  | reset u r inputs =>
    refine reset_banksSound ?_
    rw [(contactPass_frame _ _).lmc (by decide), restart_lmc]

theorem exec_banksSound (c : Instr) (hchar : isCharacter c = false) (h : exec c s = .next t) (hs : BanksSound s) :
    BanksSound t := by
  by_cases htime : movesTimeOrResets c = true
  · exact timeOrReset_banksSound (exec_timeOrReset htime h) hs
  by_cases hwrites : writesBank c = true ∨ ∃ l b, c = .writeConfig l b
  · exact exec_banksSound_of_writes hwrites h hs
  · rw [not_or] at hwrites
    refine banksSound_property.exec ?_ (by simpa using hwrites.1) h hs
    cases c <;> first | rfl | exact absurd ⟨_, _, rfl⟩ hwrites.2 | exact absurd rfl htime | cases hchar

end BanksKept

/-- Settles O60: WRITE_CONFIG and WRITE_BANK store only values in their ranges that break no condition, and no other command but a
reset writes an item. -/
theorem everyStepKeepsTheConfigurationSound : Obligations.EveryStepKeepsTheConfigurationSound := by
  intro s t h
  refine ⟨step_keeps ?_ ?_ (fun c _ _ => exec_configSound c) s t h,
    step_keeps ?_ ?_ (fun c _ _ => exec_banksSound c) s t h⟩
  · exact fun u cs hu => hu.of_config rfl
  · exact fun u l r hu => hu.of_config rfl
  · exact fun u cs hu => hu.of_banks rfl
  · exact fun u l r hu => hu.of_banks rfl

/-- Settles O55: each property is evaluated on the reset state. -/
theorem theResetStateIsSound : Obligations.TheResetStateIsSound := by
  refine ⟨?_, ?_, ?_, ?_, ?_, ?_, alarmsSound_aimKept.reset _ rfl, waveEffectSound_aimKept.reset _ rfl,
    (configSound_iff _).mpr reset_configSound, reset_banksSound rfl⟩
  · unfold TanksRetained; decide
  · unfold ValveSound; decide
  · unfold WithinCapacity; decide
  · unfold WaveSound; decide
  · unfold DuctSound; decide
  · unfold LinksSound LinkSound; decide

end Sys2Proof.Machine

/-! Proofs about writing the items: WRITE_CONFIG, WRITE_BANK and SET_ZONES_ALL (sections 9.1, 9.3 and 10.4). -/

namespace Sys2Proof.Machine

section Requests

variable {s u : State} {α : Type} {l : Link} {kind : Byte} {allowed : List Link} {act : α → State → Served} {a : α}

/-! ### A request that is refused, and one that is carried out (R176) -/

theorem serve_refused {st : Status} (hidle : (s.link l).sending = none) (hl : l ∈ allowed)
    (h : act a (s.received l) = (s.received l).refuse st) :
    s.serve l kind allowed (some a) act = (s.received l).reply l kind st [] := by
  rw [serve_some s l kind allowed act a hidle hl, h]
  rfl

theorem serve_done (hidle : (s.link l).sending = none) (hl : l ∈ allowed) (h : act a (s.received l) = u.done) :
    s.serve l kind allowed (some a) act = u.reply l kind .ok [] := by
  rw [serve_some s l kind allowed act a hidle hl, h]
  rfl

theorem natOf_two (a b : Byte) : natOf [a, b] = 256 * a.toNat + b.toNat := by
  simp only [natOf, List.foldl_cons, List.foldl_nil]
  omega

end Requests

section WriteConfig

variable {s : State}

/-! ### The conditions between items (R6, R107, R123) -/

theorem Geometry.valid_iff (g : Geometry) : g.valid = true ↔ g.pFlux < g.pNozzle ∧ g.pNozzle < g.ph1 ∧ g.ph1 < g.ph2 ∧
    g.ph2 < g.ph3 ∧ g.ph3 < g.pGate ∧ g.pGate + g.wMargin < g.pWave ∧ g.pWave + g.wMargin + g.tolerance < g.pExit ∧
    1240 ≤ g.pNozzle := by
  simp only [Geometry.valid, Bool.and_eq_true, decide_eq_true_eq]
  omega

theorem PotItems.levelsOrdered_iff (p : PotItems) :
    p.levelsOrdered = true ↔ p.levelMin < p.feedOn ∧ p.feedOn < p.feedOff ∧ p.feedOff < p.levelMax := by
  simp only [PotItems.levelsOrdered, Bool.and_eq_true, decide_eq_true_eq, and_assoc]

theorem ExmItems.valid_iff (e : ExmItems) : e.valid = true ↔
    e.ductTrip + e.ductHyst ≤ 2000 ∧ e.filterWarn < e.filterBlock ∧ e.filterHyst < e.filterWarn := by
  simp only [ExmItems.valid, Bool.and_eq_true, decide_eq_true_eq, and_assoc]

/-! ### What is stored (R11, R60, R98, R180) -/

theorem configValue_storeConfig {i : ConfigItem} {v : Int} (h : i.inRange v = true) :
    (s.storeConfig i v).configValue i = v ∧ ∀ j, j ≠ i → (s.storeConfig i v).configValue j = s.configValue j := by
  simp only [configValue_eq, storeConfig_config]
  exact ⟨s.config.value_store h, fun j hj => s.config.value_store_ne v hj⟩

theorem configConflict_storeConfig (i : ConfigItem) (v : Int) :
    s.configConflict i v = ((s.storeConfig i v).config).conflictOf i := by
  rw [configConflict_eq, storeConfig_config]

theorem storeConfig_tankLow (v : Int) {low : Bool} (h : low = true ↔ s.flx.amounts.tank s.flx.activeTank < v.toNat) :
    s.storeConfig .tankLow v = (s.setFlx { s.flx with lowThreshold := v.toNat, tankLow := low }).post
      (if low = s.flx.tankLow then [] else if low then [.alarmRaise 23] else [.alarmEnd 23]) := by
  have hnow : ({ s.flx with lowThreshold := v.toNat } : Flx).tankLowNow = low := by
    rw [Flx.tankLowNow, Bool.eq_iff_iff, decide_eq_true_eq, h]
  simp only [State.storeConfig, State.evalTankLow, setFlx_flx, hnow]
  split
  next heq => simp [State.post]; rfl
  next => cases low <;> rfl

theorem PotRec.evaluate_setpoint (r : PotRec) (sp band : Nat) (items : PotItems) (m : LineMode) :
    (r.evaluate sp band items m).setpoint = sp := by
  unfold PotRec.evaluate
  dsimp only
  repeat' split
  all_goals rfl

theorem storeConfig_held {i : ConfigItem} (hi : i = .potHold ∨ i = .holdSetpoint) (v : Int) : ∀ u, u = s.storeConfig i v →
    u = (s.setPot { s.pot with items := u.pot.items }).evaluatePot s.lmc.mode ∧
      u.pot.heat.setpoint = potEffective s.lmc.mode (s.lmc.bank s.lmc.active) u.pot.items := by
  rintro u rfl
  have hstore : s.storeConfig i v =
      (s.setPot { s.pot with items := s.pot.items.write i v.toNat }).evaluatePot s.lmc.mode := by
    obtain rfl | rfl := hi <;> rfl
  have hitems : (s.storeConfig i v).pot.items = s.pot.items.write i v.toNat := by
    rw [hstore]
    exact setHeat_potConfig (s := s.setPot _) _ _ rfl
  rw [hitems]
  refine ⟨hstore, ?_⟩
  rw [hstore, State.evaluatePot, setHeat_heat, PotRec.evaluate_setpoint]
  rfl

/-- R180: a rule that no item is of, or a row and an instance that name none, make no body. -/
theorem configBody_none {r1 r0 row inst : Byte} {rule : Nat} (hrule : rule = 256 * r1.toNat + r0.toNat) (value : List Byte)
    (h : rule ∉ [5, 11, 31, 60, 62, 65, 98, 105, 107, 123, 159] ∨ configItem? rule row.toNat inst.toNat = none) :
    configBody (r1 :: r0 :: row :: inst :: value) = none := by
  have hnone : configItem? rule row.toNat inst.toNat = none := by
    refine h.elim (fun hout => ?_) id
    simp only [List.mem_cons, List.not_mem_nil, or_false, not_or] at hout
    obtain ⟨h5, h11, h31, h60, h62, h65, h98, h105, h107, h123, h159⟩ := hout
    have hrows : rowsOf rule = [] := by
      unfold rowsOf
      split <;> first | rfl | contradiction
    unfold configItem?
    split
    case h_5 => simp [hrows]
    all_goals contradiction
  rw [configBody, natOf_two, ← hrule, hnone]
  rfl

/-! ### The checks of the request (R5, R11, R31, R60, R98, R107, R123) -/

variable {body : List Byte} {i : ConfigItem} {v : Int}

theorem exec_writeConfig_invalid (hbody : configBody body = none) (hidle : (s.link .machine).sending = none) :
    exec (.writeConfig .machine body) s = .next ((s.received .machine).reply .machine 0x06 .invalid []) := by
  refine congrArg Host.Outcome.next ?_
  rw [hbody]
  exact serve_invalid s .machine 0x06 [.machine] _ hidle (by decide)

theorem exec_writeConfig_refused {st : Status} (hbody : configBody body = some (i, v)) (hidle : (s.link .machine).sending = none)
    (h : (s.received .machine).writeConfig i v = (s.received .machine).refuse st) :
    exec (.writeConfig .machine body) s = .next ((s.received .machine).reply .machine 0x06 st []) := by
  refine congrArg Host.Outcome.next ?_
  rw [hbody]
  exact serve_refused hidle (by decide) h

theorem exec_writeConfig_done (hbody : configBody body = some (i, v)) (hidle : (s.link .machine).sending = none)
    (h : (s.received .machine).writeConfig i v = ((s.received .machine).storeConfig i v).done) :
    exec (.writeConfig .machine body) s =
      .next (((s.received .machine).storeConfig i v).reply .machine 0x06 .ok []) := by
  refine congrArg Host.Outcome.next ?_
  rw [hbody]
  exact serve_done hidle (by decide) h

theorem configures_iff (m : LineMode) : m.configures = true ↔ m = .standby ∨ m = .maintenance := by
  cases m <;> simp [LineMode.configures]

theorem isGeometry_iff (i : ConfigItem) : i.isGeometry = true ↔ ∃ g, i = .geometry g := by
  cases i <;> simp [ConfigItem.isGeometry]

theorem writeConfig_wrongMode (h : ¬(s.lmc.mode = .standby ∨ s.lmc.mode = .maintenance)) :
    s.writeConfig i v = s.refuse .wrongMode := if_pos (by simpa [← configures_iff] using h)

theorem writeConfig_busy (hmode : s.lmc.mode = .standby ∨ s.lmc.mode = .maintenance) (hi : ∃ g, i = .geometry g)
    (htable : s.trk.table ≠ []) : s.writeConfig i v = s.refuse .busy :=
  (if_neg (by simp [(configures_iff _).mpr hmode])).trans (if_pos ⟨(isGeometry_iff i).mpr hi, htable⟩)

/-- R5, R11: past the line mode and the board table, the range and then the conditions between items decide. -/
theorem writeConfig_eq (hmode : s.lmc.mode = .standby ∨ s.lmc.mode = .maintenance)
    (htable : (∃ g, i = .geometry g) → s.trk.table = []) :
    s.writeConfig i v = if i.inRange v = false then s.refuse .invalid
      else match s.configConflict i v with
        | some st => s.refuse st
        | none => (s.storeConfig i v).done := by
  refine (if_neg (by simp [(configures_iff _).mpr hmode])).trans (if_neg ?_)
  rw [isGeometry_iff]
  exact fun h => h.2 (htable h.1)

theorem config_received (l : Link) : (s.received l).config = s.config := by
  simp only [State.config, received_trk, received_saq, received_flx, received_znc, received_pot, received_exm, received_lmc]

theorem configConflict_received (l : Link) : (s.received l).configConflict i v = s.configConflict i v := by
  rw [configConflict_eq, configConflict_eq, config_received]

end WriteConfig

/-- Settles O13. -/
theorem writeConfigIsCheckedAndStored : Obligations.WriteConfigIsCheckedAndStored := by
  refine ⟨Geometry.valid_iff, PotItems.levelsOrdered_iff, ExmItems.valid_iff, ?_, ?_, ?_, ?_⟩
  · rintro s i v u rfl
    refine ⟨configValue_storeConfig, ?_, ?_, ?_, fun hi => storeConfig_held hi v _ rfl⟩
    · exact configConflict_storeConfig i v
    · rintro rfl
      rfl
    · rintro rfl low hlow
      exact storeConfig_tankLow v hlow
  · exact fun s body hbody hidle => exec_writeConfig_invalid hbody hidle
  · exact fun r1 r0 row inst value rule hrule h => configBody_none hrule value h
  · intro s body i v hbody hidle
    refine ⟨fun hstandby hmaintenance => ?_, fun hmode => ⟨fun hi htable => ?_, fun htable => ⟨fun hrange => ?_,
      fun hrange => ⟨fun st hconflict => ?_, fun hconflict => ⟨_, rfl, ?_, ?_⟩⟩⟩⟩⟩
    · exact exec_writeConfig_refused hbody hidle (writeConfig_wrongMode (by simp [hstandby, hmaintenance]))
    · exact exec_writeConfig_refused hbody hidle (writeConfig_busy (by simpa using hmode) hi (by simpa using htable))
    · refine exec_writeConfig_refused hbody hidle ?_
      rw [writeConfig_eq (by simpa using hmode) (by simpa using htable), if_pos hrange]
    · refine exec_writeConfig_refused hbody hidle ?_
      rw [writeConfig_eq (by simpa using hmode) (by simpa using htable), if_neg (by simp [hrange]),
        configConflict_received, hconflict]
    · refine exec_writeConfig_done hbody hidle ?_
      rw [writeConfig_eq (by simpa using hmode) (by simpa using htable), if_neg (by simp [hrange]),
        configConflict_received, hconflict]
    · simp only [configValue_eq s, ← config_received (s := s) .machine, ← configValue_eq]
      exact configValue_storeConfig hrange

section WriteBank

variable {s t : State}

/-! ### What a write to a bank stores (R164) -/

theorem read_writeNumber (b : BankItems) (i : BankNumber) (v : Nat) : (b.writeNumber i v).read i = v := by
  cases i
  case zoneSetpoint z | zoneBand z | coupling z => exact PerZone.get_set_self _ z v
  all_goals rfl

theorem read_writeNumber_ne (b : BankItems) {i j : BankNumber} (v : Nat) (h : j ≠ i) :
    (b.writeNumber i v).read j = b.read j := by
  cases i with
  | zoneSetpoint z =>
    cases j with
    | zoneSetpoint y => exact PerZone.get_set_ne _ v fun e => h (e ▸ rfl)
    | _ => rfl
  | zoneBand z =>
    cases j with
    | zoneBand y => exact PerZone.get_set_ne _ v fun e => h (e ▸ rfl)
    | _ => rfl
  | coupling z =>
    cases j with
    | coupling y => exact PerZone.get_set_ne _ v fun e => h (e ▸ rfl)
    | _ => rfl
  | _ => cases j <;> first | rfl | exact absurd rfl h

/-- R165, R180: no bank, no rule or no row of the table. -/
theorem bankBody_none {bank r1 r0 row inst : Byte} (value : List Byte)
    (h : 2 ≤ bank.toNat ∨ 256 * r1.toNat + r0.toNat ≠ 164 ∨ 18 ≤ row.toNat) :
    bankBody (bank :: r1 :: r0 :: row :: inst :: value) = none := by
  have hno (b : Option BankId) : (b.bind fun _ => (none : Option (BankId × BankWrite))) = none := by cases b <;> rfl
  rw [bankBody, natOf_two]
  obtain hbank | hrule | hrow := h
  · have hnone : BankId.ofNat? bank.toNat = none := by
      unfold BankId.ofNat?
      split <;> first | rfl | omega
    rw [hnone]
    rfl
  · simp only [if_neg hrule]
    exact hno _
  · have hnone : bankWrite? row.toNat inst.toNat value = none := by
      have hnumber : bankNumber? row.toNat inst.toNat = none := by
        unfold bankNumber?
        split <;> first | rfl | omega
      unfold bankWrite?
      split
      · omega
      · omega
      · rw [hnumber]
        rfl
    simp only [hnone]
    split <;> exact hno _

/-! ### The checks of the two requests (R77, R165) -/

theorem incoming_iff : s.incoming = true ↔ s.lmc.mode = .changeover ∧ s.lmc.phase = .drainOld := by
  simp [State.incoming]

theorem carries_iff (tr : Trk) (b : BankId) : tr.carries b = true ↔ ∃ r ∈ tr.table, r.bank = b := by
  simp [Trk.carries]

theorem not_carries (tr : Trk) {b : BankId} (h : ∀ r ∈ tr.table, r.bank ≠ b) : ¬tr.carries b = true := by
  rw [carries_iff]
  rintro ⟨r, hr, hb⟩
  exact h r hr hb

variable {body : List Byte} {b : BankId} {w : BankWrite}

theorem exec_writeBank_refused {st : Status} (hbody : bankBody body = some (b, w)) (hidle : (s.link .machine).sending = none)
    (h : (s.received .machine).writeBank b w = (s.received .machine).refuse st) :
    exec (.writeBank .machine body) s = .next ((s.received .machine).reply .machine 0x07 st []) := by
  refine congrArg Host.Outcome.next ?_
  rw [hbody]
  exact serve_refused hidle (by decide) h

theorem exec_writeBank_done {u : State} (hbody : bankBody body = some (b, w)) (hidle : (s.link .machine).sending = none)
    (h : (s.received .machine).writeBank b w = u.done) :
    exec (.writeBank .machine body) s = .next (u.reply .machine 0x07 .ok []) := by
  refine congrArg Host.Outcome.next ?_
  rw [hbody]
  exact serve_done hidle (by decide) h

/-- R165 step 2. -/
theorem writeBank_active (h : b = s.lmc.active) : s.writeBank b w = s.refuse .bankActive := if_pos h

/-- R165 step 3. -/
theorem writeBank_incoming (h : b ≠ s.lmc.active) (hin : s.lmc.mode = .changeover ∧ s.lmc.phase = .drainOld) :
    s.writeBank b w = s.refuse .busy := (if_neg h).trans (if_pos (incoming_iff.mpr hin))

/-- R165 steps 4 and 5. -/
theorem writeBank_eq (h : b ≠ s.lmc.active) (hin : ¬(s.lmc.mode = .changeover ∧ s.lmc.phase = .drainOld)) :
    s.writeBank b w = if s.trk.carries b then s.refuse .bankInUse else s.storeBank b (·.write w) :=
  (if_neg h).trans (if_neg (mt incoming_iff.mp hin))

theorem exec_setZonesAll (hi lo : Byte) (hidle : (s.link .machine).sending = none) :
    ∀ r, r = (s.received .machine).setZonesAll (256 * hi.toNat + lo.toNat) →
      exec (.setZonesAll .machine [hi, lo]) s = .next (r.state.reply .machine 0x08 r.status r.body) := by
  rintro r rfl
  rw [← natOf_two]
  exact congrArg Host.Outcome.next (serve_some s .machine 0x08 [.machine] _ (natOf [hi, lo]) hidle (by decide))

theorem setZonesAll_invalid {v : Nat} (h : v < 500 ∨ 3500 < v) : s.setZonesAll v = s.refuse .invalid := if_pos h

theorem setZonesAll_incoming {v : Nat} (hlow : 500 ≤ v) (hhigh : v ≤ 3500)
    (hin : s.lmc.mode = .changeover ∧ s.lmc.phase = .drainOld) : s.setZonesAll v = s.refuse .busy :=
  (if_neg (by omega)).trans (if_pos (incoming_iff.mpr hin))

theorem setZonesAll_eq {v : Nat} (hlow : 500 ≤ v) (hhigh : v ≤ 3500)
    (hin : ¬(s.lmc.mode = .changeover ∧ s.lmc.phase = .drainOld)) :
    s.setZonesAll v = if s.trk.carries s.lmc.active.other then s.refuse .bankInUse
      else s.storeBank s.lmc.active.other fun i => { i with zoneSetpoint := ⟨v, v, v⟩ } :=
  (if_neg (by omega)).trans (if_neg (mt incoming_iff.mp hin))

/-! ### The active bank is not written (R165, R166) -/

/-- The bank with a number holds what it is said to hold. -/
def HoldsBank (b : BankId) (x : Bank) (s : State) : Prop := s.lmc.bank b = x

theorem holdsBank_property (b : BankId) (x : Bank) : ItemsProperty (HoldsBank b x) :=
  sameBanks_property fun _ _ h hs => (bank_of_banks h b).trans hs

theorem bank_setBank_ne {b d : BankId} (x : Bank) (h : d ≠ b) : (s.setBank b x).lmc.bank d = s.lmc.bank d :=
  (bank_setBank s b d x).trans (if_neg h)

theorem active_ne_other (b : BankId) : b ≠ b.other := by cases b <;> decide

theorem writeBank_keepsActive (b : BankId) (w : BankWrite) :
    (s.writeBank b w).state.lmc.bank s.lmc.active = s.lmc.bank s.lmc.active := by
  unfold State.writeBank State.storeBank
  split
  · rfl
  next h =>
    split
    · rfl
    · split
      · rfl
      · exact bank_setBank_ne _ (Ne.symm h)

theorem setZonesAll_keepsActive (v : Nat) : (s.setZonesAll v).state.lmc.bank s.lmc.active = s.lmc.bank s.lmc.active := by
  unfold State.setZonesAll State.storeBank
  dsimp only
  split
  · rfl
  · split
    · rfl
    · split
      · rfl
      · exact bank_setBank_ne _ (active_ne_other _)

theorem validateBank_keepsActive : s.validateBank.state.lmc.bank s.lmc.active = s.lmc.bank s.lmc.active := by
  unfold State.validateBank
  dsimp only
  split
  · rfl
  · rfl
  · split
    · rfl
    · exact bank_setBank_ne _ (active_ne_other _)

theorem serve_keepsActive {α : Type} {l : Link} {kind : Byte} {allowed : List Link} {args : Option α} {act : α → State → Served}
    (hact : ∀ a u, (act a u).state.lmc.bank u.lmc.active = u.lmc.bank u.lmc.active) :
    (s.serve l kind allowed args act).lmc.bank s.lmc.active = s.lmc.bank s.lmc.active := by
  have hreads : ReadsOnly [.lmc] fun u => u.lmc = s.lmc := fun _ _ hsame hu => (hsame .lmc (by decide)).trans hu
  unfold State.serve
  dsimp only
  split
  · rw [(owe_frame _ _ _ _).lmc (by decide), received_lmc]
  · split
    · rw [reply_lmc, received_lmc]
    · split
      · rw [reply_lmc, received_lmc]
      next a =>
        rw [reply_lmc]
        have hkept := hact a (s.received l)
        rwa [received_lmc] at hkept

theorem exec_keepsActive_of_writes {c : Instr} (hwrites : writesBank c = true ∨ ∃ l b, c = .writeConfig l b)
    (h : exec c s = .next t) : t.lmc.bank s.lmc.active = s.lmc.bank s.lmc.active := by
  cases c <;> first | (exfalso; simp [writesBank] at hwrites; done) | cases h
  case writeConfig l b =>
    exact serve_keeps s (holdsBank_property s.lmc.active (s.lmc.bank s.lmc.active)).reads rfl
      (fun a u hu => writeConfig_keeps (fun s i v hs => (bank_of_banks (storeConfig_banks s i v) _).trans hs) a.1 a.2 hu)
      (by decide) (by decide)
  case writeBank l b => exact serve_keepsActive fun a u => writeBank_keepsActive a.1 a.2
  case setZonesAll l b => exact serve_keepsActive fun v u => setZonesAll_keepsActive v
  case validateBank l b => exact serve_keepsActive fun _ u => validateBank_keepsActive

/-- The resets. -/
def isReset : Instr → Bool
  | .powerOnReset _ | .externalReset _ | .commandedReset _ => true
  | _ => false

theorem exec_keepsActive_of_plain {c : Instr} (hchar : isCharacter c = false) (hreset : isReset c = false)
    (h : exec c s = .next t) : t.lmc.bank s.lmc.active = s.lmc.bank s.lmc.active := by
  by_cases hwrites : writesBank c = true ∨ ∃ l b, c = .writeConfig l b
  · exact exec_keepsActive_of_writes hwrites h
  · rw [not_or] at hwrites
    by_cases htime : movesTimeOrResets c = true
    · cases c <;> first | (cases hreset; done) | (cases htime; done) | (cases h; rfl)
    · refine (holdsBank_property s.lmc.active (s.lmc.bank s.lmc.active)).exec ?_ (by simpa using hwrites.1) h rfl
      cases c <;> first | rfl | exact absurd ⟨_, _, rfl⟩ hwrites.2 | exact absurd rfl htime | cases hchar

theorem plain_of_wireForm {l : Link} {k : Nat} {body : List Byte} {i : Instr} (h : Laws.wireForm? i = some (l, k, body)) :
    isReset i = false := by
  cases i <;> first | rfl | cases h

theorem exec_keepsActive {c : Instr} (hreset : isReset c = false) (h : exec c s = .next t) :
    t.lmc.bank s.lmc.active = s.lmc.bank s.lmc.active := by
  by_cases hchar : isCharacter c = true
  · obtain ⟨l, b, good, rfl⟩ : ∃ l b good, c = .syncByte l b good := by
      cases c <;> first | exact ⟨_, _, _, rfl⟩ | cases hchar
    have hdoes := exec_syncByte_does s l b good
    generalize ho : exec (.syncByte l b good) s = o at hdoes
    rw [ho] at h
    cases hdoes with
    | nothing => obtain rfl := Host.Outcome.next.inj h; rfl
    | receives r => obtain rfl := Host.Outcome.next.inj h; rfl
    | bad k => exact exec_keepsActive_of_plain rfl rfl h
    | unknown k body => exact exec_keepsActive_of_plain rfl rfl h
    | request k body i hi => exact exec_keepsActive_of_plain (wireForm_plain hi).1 (plain_of_wireForm hi) h
  · exact exec_keepsActive_of_plain (by simpa using hchar) hreset h

end WriteBank

/-- Settles O14. -/
theorem bankWritesAreCheckedAndStored : Obligations.BankWritesAreCheckedAndStored := by
  refine ⟨⟨fun b i v => ⟨read_writeNumber b i v, fun j hj => read_writeNumber_ne b v hj⟩,
    fun bank r1 r0 row inst value h => bankBody_none value h, fun s => ⟨fun body hbody hidle => ?_,
      fun body b w hbody hidle => ⟨fun h => ?_, fun h => ⟨fun hin => ?_, fun hin => ⟨fun hused => ?_, fun hfree => ?_⟩⟩⟩,
      fun hi lo hidle => ⟨fun h => ?_, fun hlow hhigh => ⟨fun hin => ?_, fun hin => ⟨fun hused => ?_, fun hfree => ?_⟩⟩⟩⟩⟩,
    fun c s t hc h => exec_keepsActive ?_ h⟩
  · refine congrArg Host.Outcome.next ?_
    rw [hbody]
    exact serve_invalid s .machine 0x07 [.machine] _ hidle (by decide)
  · exact exec_writeBank_refused hbody hidle (writeBank_active (by simpa using h))
  · exact exec_writeBank_refused hbody hidle (writeBank_incoming (by simpa using h) (by simpa using hin))
  · refine exec_writeBank_refused hbody hidle ?_
    rw [writeBank_eq (by simpa using h) (by simpa using hin), if_pos ((carries_iff _ _).mpr (by simpa using hused))]
  · refine exec_writeBank_done hbody hidle ?_
    rw [writeBank_eq (by simpa using h) (by simpa using hin), if_neg (not_carries _ (by simpa using hfree)),
      State.storeBank, received_lmc]
  · rw [exec_setZonesAll hi lo hidle _ rfl, setZonesAll_invalid h]
    rfl
  · rw [exec_setZonesAll hi lo hidle _ rfl, setZonesAll_incoming hlow hhigh (by simpa using hin)]
    rfl
  · rw [exec_setZonesAll hi lo hidle _ rfl, setZonesAll_eq hlow hhigh (by simpa using hin),
      if_pos ((carries_iff _ _).mpr (by simpa using hused))]
    rfl
  · rw [exec_setZonesAll hi lo hidle _ rfl, setZonesAll_eq hlow hhigh (by simpa using hin),
      if_neg (not_carries _ (by simpa using hfree)), State.storeBank, received_lmc]
    rfl
  · cases c
    case powerOnReset i => exact absurd rfl (hc i).1
    case externalReset i => exact absurd rfl (hc i).2.1
    case commandedReset i => exact absurd rfl (hc i).2.2
    all_goals rfl

end Sys2Proof.Machine

/-! Proofs about the run clock and the links: how a request, a character and a whole frame are taken. -/

namespace Sys2Proof.Machine

open Laws

section Links

variable (s : State) (l : Link)

/-! ### The run clock and the arrivals that wait -/

/-- Settles O3: a tick is the ticks of the blocks' own records. -/
theorem runClockTickPassesATenth : Obligations.RunClockTickPassesATenth :=
  ⟨fun _ => rfl, rfl, rfl, fun s => ⟨s.tick, rfl, rfl, rfl, rfl, rfl, rfl, rfl, rfl, fun l => by cases l <;> rfl,
    rfl, rfl, rfl, rfl, rfl, rfl, rfl⟩⟩

/-- Settles O4: with an empty queue a step looks at the arrivals alone, and a frame's end writes its link and posts. -/
theorem postingsAndRequestsAreTaken : Obligations.PostingsAndRequestsAreTaken := by
  refine ⟨fun s hpending => ⟨fun c rest hposted => ?_, fun hposted => ?_⟩, fun s l => ⟨received_frame s l,
    fun k hk => received_link_ne s hk, received_link s l, received_posted s l⟩⟩
  · simp [step, hpending, hposted]
  · simp [step, hpending, hposted]

/-! ### The road of every request (R175, R181) -/

/-- R175: a command is carried out as the request of a kind byte and a body: under its own kind, for the links of R181, and with
no arguments where the body has not the length that R181 fixes. -/
def TakesRoad (l : Link) (kind : Byte) (body : List Byte) (c : Instr) : Prop :=
  ∃ (α : Type) (args : Option α) (act : α → State → Served),
    (∀ s, exec c s = .next (s.serve l kind (permitted kind.toNat) args act)) ∧
    ∀ n, bodyLength? kind.toNat = some n → body.length ≠ n → args = none

theorem emptyBody_none {body : List Byte} (h : body.length ≠ 0) : emptyBody body = none := if_neg fun hb => h (by rw [hb]; rfl)

theorem numberBody_none {w : Nat} {body : List Byte} (h : body.length ≠ w) : numberBody w body = none := if_neg h

theorem refillBody_none {body : List Byte} (h : body.length ≠ 5) : refillBody body = none := by
  cases body with
  | nil => rfl
  | cons b bs => exact if_neg fun hb => h (by simp [hb])

theorem maskBody_none {body : List Byte} (h : body.length ≠ 1) : maskBody body = none := by
  unfold maskBody
  split
  · exact absurd rfl h
  · rfl

theorem inhibitBody_none {body : List Byte} (h : body.length ≠ 1) : inhibitBody body = none := by
  unfold inhibitBody
  split
  · exact absurd rfl h
  · rfl

theorem releaseBody_none {body : List Byte} (h : body.length ≠ 2) : releaseBody body = none := by
  unfold releaseBody
  split
  · exact absurd rfl h
  · rfl

/-- A road whose body has a fixed length. -/
theorem TakesRoad.sized {l : Link} {kind : Byte} {body : List Byte} {c : Instr} {α : Type} {args : Option α}
    {act : α → State → Served} (n : Nat) (hexec : ∀ s, exec c s = .next (s.serve l kind (permitted kind.toNat) args act))
    (hlength : bodyLength? kind.toNat = some n) (hnone : body.length ≠ n → args = none) : TakesRoad l kind body c :=
  ⟨α, args, act, hexec, fun m hm hne => hnone (by rw [hlength, Option.some.injEq] at hm; exact hm ▸ hne)⟩

/-- A road whose body has no fixed length. -/
theorem TakesRoad.free {l : Link} {kind : Byte} {body : List Byte} {c : Instr} {α : Type} {args : Option α}
    {act : α → State → Served} (hexec : ∀ s, exec c s = .next (s.serve l kind (permitted kind.toNat) args act))
    (hlength : bodyLength? kind.toNat = none) : TakesRoad l kind body c :=
  ⟨α, args, act, hexec, fun m hm => absurd (hlength.symm.trans hm) (by simp)⟩

/-- A road whose body is empty. -/
theorem TakesRoad.bare {l : Link} {kind : Byte} {body : List Byte} {c : Instr} {act : Unit → State → Served}
    (hexec : ∀ s, exec c s = .next (s.serve l kind (permitted kind.toNat) (emptyBody body) act))
    (hlength : bodyLength? kind.toNat = some 0) : TakesRoad l kind body c :=
  .sized 0 hexec hlength emptyBody_none

/-- Every request takes its road. -/
theorem takesRoad_of_wireForm {c : Instr} {k : Nat} {body : List Byte} (h : wireForm? c = some (l, k, body)) :
    TakesRoad l (BitVec.ofNat 8 k) body c := by
  cases c <;> cases h
  case readBoard => exact .sized 2 (fun _ => rfl) (by decide) numberBody_none
  case readAlarms => exact .sized 1 (fun _ => rfl) (by decide) numberBody_none
  case ackAlarm => exact .sized 1 (fun _ => rfl) (by decide) numberBody_none
  case assertInhibit => exact .sized 1 (fun _ => rfl) (by decide) inhibitBody_none
  case releaseInhibit => exact .sized 1 (fun _ => rfl) (by decide) inhibitBody_none
  case setZonesAll => exact .sized 2 (fun _ => rfl) (by decide) numberBody_none
  case supervise => exact .sized 2 (fun _ => rfl) (by decide) numberBody_none
  case releaseForce => exact .sized 2 (fun _ => rfl) (by decide) releaseBody_none
  case refill => exact .sized 5 (fun _ => rfl) (by decide) refillBody_none
  case selectTank => exact .sized 1 (fun _ => rfl) (by decide) numberBody_none
  case selectFan => exact .sized 1 (fun _ => rfl) (by decide) numberBody_none
  case subscribe => exact .sized 1 (fun _ => rfl) (by decide) maskBody_none
  case writeConfig => exact .free (fun _ => rfl) (by decide)
  case writeBank => exact .free (fun _ => rfl) (by decide)
  case forceSignalChannel => exact .free (fun _ => rfl) (by decide)
  case forceSignalContact => exact .free (fun _ => rfl) (by decide)
  case pushIdentity => exact .free (fun _ => rfl) (by decide)
  all_goals exact .bare (fun _ => rfl) (by decide)

theorem takesRoad {l : Link} {kind : Byte} {body : List Byte} {c : Instr} (h : requestOf l kind.toNat body = some c) :
    TakesRoad l kind body c := by
  simpa using takesRoad_of_wireForm l (requestOf_wireForm _ _ _ _ h)

/-- R178: a reply owed joins the list where there is room. -/
theorem owe_link (kind : Byte) (st : Status) : (s.owe l kind st).link l = { s.link l with
    owed := if (s.link l).owed.length < 4 then (s.link l).owed ++ [⟨kind, st⟩] else (s.link l).owed } := by
  unfold State.owe Config.owedCapacity
  split
  · simp [State.link]
  · rfl

theorem owe_link_ne {l k : Link} (kind : Byte) (st : Status) (h : k ≠ l) : (s.owe l kind st).link k = s.link k := by
  unfold State.owe
  split
  · exact setLink_link_ne s _ h
  · rfl

/-- Settles O5: the road of the request, at each of its three checks. -/
theorem requestsAreCheckedInOrder : Obligations.RequestsAreCheckedInOrder := by
  intro s l kind body c hc
  obtain ⟨α, args, act, hexec, hlength⟩ := takesRoad hc
  refine ⟨fun hbusy => ⟨_, hexec s, ?_⟩, fun hidle hl => ?_, fun n hidle hl hn hne => ?_⟩
  · rw [serve_busy _ _ _ _ _ _ (Option.ne_none_iff_isSome.mp hbusy)]
    have howe : SameBut [.links, .posted] (s.received l) ((s.received l).owe l kind .busy) :=
      (owe_frame _ _ _ _).mono (by decide)
    refine ⟨(received_frame s l).trans howe, (owe_frame _ _ _ _).posted (by decide), ?_, ?_⟩
    · exact fun k hk => (owe_link_ne _ _ _ hk).trans (received_link_ne s hk)
    · rw [owe_link, received_owed]
  · rw [hexec, serve_notPermitted _ _ _ _ _ _ hidle hl]
  · rw [hexec, hlength n hn hne, serve_invalid _ _ _ _ _ hidle hl]

/-! ### Characters (R173, R174) -/

/-- R178: while a reply is in progress a request, or a frame of an unknown kind, is owed BUSY. -/
theorem exec_request_busy (kind : Byte) (body : List Byte) (hbusy : (s.link l).sending ≠ none) :
    exec ((requestOf l kind.toNat body).getD (.unknownKind l kind body)) s = .next ((s.received l).owe l kind .busy) := by
  have hsome := Option.ne_none_iff_isSome.mp hbusy
  cases hreq : requestOf l kind.toNat body with
  | none => exact congrArg Host.Outcome.next (if_pos hsome)
  | some c =>
    obtain ⟨α, args, act, hexec, -⟩ := takesRoad hreq
    exact (hexec s).trans (congrArg Host.Outcome.next (serve_busy _ _ _ _ _ _ hsome))

theorem exec_busyFrame (kind : Byte) (bad : Bool) (hbusy : (s.link l).sending ≠ none) : exec (.busyFrame l kind bad) s =
    .next (if bad then (s.receiverToHunt l).owe l kind .frameBad else (s.received l).owe l kind .busy) :=
  congrArg Host.Outcome.next (if_pos (Option.ne_none_iff_isSome.mp hbusy))

/-- R174: the check of a length byte, a kind, a body and two check characters. -/
theorem frameGood_iff (len kind : Byte) (body : List Byte) (hi lo : Byte) :
    frameGood (len :: kind :: (body ++ [hi, lo])) = true ↔ bytesOf 2 (crc16 (len :: kind :: body)).toNat = [hi, lo] := by
  simp [frameGood, checkBytes]

/-- R173 to R175: the last character of a frame whose check is right carries out its request. -/
theorem exec_lastCharacter {n : Nat} {len kind : Byte} {body : List Byte} {hi lo c : Byte}
    (hstate : (s.link l).receiver.state = .body n) (hn : (s.link l).receiver.bytes.length = n)
    (hbytes : (s.link l).receiver.bytes ++ [c] = len :: kind :: (body ++ [hi, lo]))
    (hcheck : bytesOf 2 (crc16 (len :: kind :: body)).toNat = [hi, lo]) :
    exec (.syncByte l c true) s = exec ((requestOf l kind.toNat body).getD (.unknownKind l kind body)) s := by
  refine (receive_last s l n c hstate hn).trans ?_
  rw [hbytes, frameComplete_good s l _ ((frameGood_iff _ _ _ _ _).mpr hcheck), carryOut_eq_exec]
  simp

/-- R174: the last character of a frame whose check is wrong. -/
theorem exec_lastCharacter_bad {n : Nat} {c : Byte} (hstate : (s.link l).receiver.state = .body n)
    (hn : (s.link l).receiver.bytes.length = n) (hbad : frameGood ((s.link l).receiver.bytes ++ [c]) = false) :
    exec (.syncByte l c true) s = exec (.badFrame l ((s.link l).receiver.bytes ++ [c])[1]?) s :=
  (receive_last s l n c hstate hn).trans (frameComplete_bad s l _ hbad)

theorem receive_hunt (c : Byte) (h : (s.link l).receiver.state = .hunt) : s.receive l c = .next (if c = 0xA5 then
    s.setLink l { s.link l with receiver := { state := .length, bytes := [], timer := .running 50 } } else s) := by
  rw [State.receive, h]
  rfl

theorem receive_length (c : Byte) (h : (s.link l).receiver.state = .length) : s.receive l c = .next
    (if 1 ≤ c.toNat ∧ c.toNat ≤ 250 then s.setLink l { s.link l with
        receiver := { state := .body (c.toNat + 2), bytes := [c], timer := (s.link l).receiver.timer } }
      else (s.receiverToHunt l).frameBad l none) := by
  rw [State.receive, h]

theorem receive_body {n : Nat} (c : Byte) (h : (s.link l).receiver.state = .body n)
    (hn : (s.link l).receiver.bytes.length < n) : s.receive l c = .next (s.setLink l { s.link l with
      receiver := { (s.link l).receiver with bytes := (s.link l).receiver.bytes ++ [c] } }) := by
  have hmore : ¬((s.link l).receiver.bytes ++ [c]).length = n + 1 := by
    rw [List.length_append, List.length_singleton]
    omega
  rw [State.receive, h]
  exact if_neg hmore |>.trans (by simp only [h])

/-- Settles O6: the receiver's state and the character decide. -/
theorem charactersMoveTheReceiver : Obligations.CharactersMoveTheReceiver := by
  intro s l c
  refine ⟨rfl, receive_hunt s l c, fun h => ⟨fun hlow hhigh => ?_, fun hout => ?_⟩, fun n hstate hn => ?_,
    fun n hstate hn hbad => ?_, fun n hstate hn len kind body hi lo hbytes hcheck => ?_⟩
  · exact (receive_length s l c h).trans (congrArg Host.Outcome.next (if_pos ⟨hlow, hhigh⟩))
  · exact (receive_length s l c h).trans (congrArg Host.Outcome.next (if_neg (by omega)))
  · exact receive_body s l c hstate hn
  · exact exec_lastCharacter_bad s l hstate hn hbad
  · have hlast := exec_lastCharacter s l hstate hn hbytes hcheck
    refine ⟨hlast, fun hbusy => ?_⟩
    rw [hlast, exec_request_busy s l kind body hbusy, exec_busyFrame s l kind false hbusy]
    rfl

/-! ### A whole frame (R173 to R175) -/

/-- A link whose receiver has come to a point within a frame. -/
def State.hearing (l : Link) (r : Receiver) (s : State) : State := s.setLink l { s.link l with receiver := r }

@[simp] theorem hearing_link (r : Receiver) : (s.hearing l r).link l = { s.link l with receiver := r } := by
  simp [State.hearing, State.link]

@[simp] theorem hearing_hearing (r q : Receiver) : (s.hearing l r).hearing l q = s.hearing l q := by
  simp [State.hearing, State.link]

/-- A frame's end lets go of what the receiver held. -/
@[simp] theorem hearing_received (r : Receiver) : (s.hearing l r).received l = s.received l := by
  have hhunt : (s.hearing l r).receiverToHunt l = s.receiverToHunt l := by
    simp [State.receiverToHunt, State.hearing, State.link]
  simp only [State.received, hhunt]

/-- What a request comes to does not depend on its own link's receiver. -/
theorem exec_request_hearing (r : Receiver) (kind : Byte) (body : List Byte) :
    exec ((requestOf l kind.toNat body).getD (.unknownKind l kind body)) (s.hearing l r) =
      exec ((requestOf l kind.toNat body).getD (.unknownKind l kind body)) s := by
  cases hreq : requestOf l kind.toNat body with
  | none =>
    refine congrArg Host.Outcome.next ?_
    simp
  | some c =>
    obtain ⟨α, args, act, hexec, -⟩ := takesRoad hreq
    refine (hexec _).trans (Eq.trans (congrArg Host.Outcome.next ?_) (hexec s).symm)
    simp [State.serve]

/-- The commands of a list of characters with good stop bits. -/
def characters (l : Link) (cs : List Byte) : List Instr := cs.map fun c => .syncByte l c true

theorem execAll_cons {c : Instr} {cs : List Instr} {t : State} (h : exec c s = .next t) : execAll (c :: cs) s = execAll cs t := by
  rw [execAll, h]

theorem execAll_singleton (c : Instr) : execAll [c] s = exec c s := by
  rw [execAll]
  cases exec c s <;> rfl

/-- The characters of the body that are not the last are kept, one after another. -/
theorem execAll_characters (n : Nat) (timer : Timer) (cs : List Byte) (more : List Instr) : ∀ bytes : List Byte,
    bytes.length + cs.length ≤ n →
    execAll (characters l cs ++ more) (s.hearing l ⟨.body n, bytes, timer⟩) =
      execAll more (s.hearing l ⟨.body n, bytes ++ cs, timer⟩) := by
  induction cs with
  | nil => intro bytes _; simp [characters]
  | cons c cs ih =>
    intro bytes hlength
    rw [List.length_cons] at hlength
    have hstep : exec (.syncByte l c true) (s.hearing l ⟨.body n, bytes, timer⟩) =
        .next (s.hearing l ⟨.body n, bytes ++ [c], timer⟩) := by
      refine (receive_body _ l c (n := n) (by simp) (by simp; omega)).trans (congrArg Host.Outcome.next ?_)
      rw [hearing_link]
      simp [State.hearing]
    refine ((execAll_cons _ hstep).trans (ih (bytes ++ [c]) (by simp; omega))).trans ?_
    simp

/-- R173: the sync byte and the length byte. -/
theorem execAll_head (m : Nat) (hlow : 1 ≤ m) (hhigh : m ≤ 250) (more : List Instr)
    (hhunt : (s.link l).receiver.state = .hunt) :
    execAll (characters l [0xA5, BitVec.ofNat 8 m] ++ more) s =
      execAll more (s.hearing l ⟨.body (m + 2), [BitVec.ofNat 8 m], .running 50⟩) := by
  have hsync : exec (.syncByte l 0xA5 true) s = .next (s.hearing l ⟨.length, [], .running 50⟩) := receive_hunt s l _ hhunt
  have hm : (BitVec.ofNat 8 m).toNat = m := by simp; omega
  have hcount : exec (.syncByte l (BitVec.ofNat 8 m) true) (s.hearing l ⟨.length, [], .running 50⟩) =
      .next (s.hearing l ⟨.body (m + 2), [BitVec.ofNat 8 m], .running 50⟩) := by
    refine (receive_length _ l _ (by simp)).trans (congrArg Host.Outcome.next ?_)
    rw [hm, if_pos ⟨hlow, hhigh⟩, hearing_link]
    simp [State.hearing]
  exact (execAll_cons _ hsync).trans (execAll_cons _ hcount)

/-- A frame's characters: sync byte and length, the kind with the body and the first check character, and the last one. -/
theorem frameOf_eq (kind : Byte) (body : List Byte) : ∃ hi lo : Byte,
    bytesOf 2 (crc16 (BitVec.ofNat 8 (body.length + 1) :: kind :: body)).toNat = [hi, lo] ∧
    frameOf (kind :: body) = [0xA5, BitVec.ofNat 8 (body.length + 1)] ++ ((kind :: body ++ [hi]) ++ [lo]) :=
  ⟨_, _, rfl, by simp [frameOf, checkBytes, bytesOf]⟩

theorem execAll_frame (kind : Byte) (body : List Byte) (hlength : body.length ≤ 249)
    (hhunt : (s.link l).receiver.state = .hunt) :
    execAll (characters l (frameOf (kind :: body))) s =
      exec ((requestOf l kind.toNat body).getD (.unknownKind l kind body)) s := by
  obtain ⟨hi, lo, hcheck, hframe⟩ := frameOf_eq kind body
  have hsplit : characters l (frameOf (kind :: body)) = characters l [0xA5, BitVec.ofNat 8 (body.length + 1)] ++
      (characters l (kind :: body ++ [hi]) ++ characters l [lo]) := by
    simp only [hframe, characters, List.map_append]
  rw [hsplit, execAll_head s l _ (by omega) (by omega) _ hhunt, execAll_characters s l _ _ _ _ _ (by simp; omega)]
  refine (execAll_singleton _ _).trans ((exec_lastCharacter _ l (n := body.length + 3) ?_ ?_ ?_ hcheck).trans
    (exec_request_hearing s l _ kind body))
  · simp
  · simp
  · simp

/-- R178, R171: a frame that is owed BUSY, with the frame arrival of a supervised link. -/
theorem received_owe (kind : Byte) : (s.received l).owe l kind .busy = (s.setLink l { s.link l with
      receiver := .reset,
      owed := if (s.link l).owed.length < 4 then (s.link l).owed ++ [⟨kind, .busy⟩] else (s.link l).owed }).post
    (if l = .safety ∧ s.lmc.supervision.running = true then [.frameArrival] else []) := by
  have hpost : s.received l = (s.receiverToHunt l).post
      (if l = .safety ∧ s.lmc.supervision.running = true then [.frameArrival] else []) := by
    unfold State.received State.frameAccepted
    rw [receiverToHunt_lmc]
    split
    · rfl
    · exact (post_nil _).symm
  rw [hpost]
  unfold State.owe Config.owedCapacity
  rw [post_link, receiverToHunt_link]
  dsimp only
  split
  · rw [post_setLink]
    simp [State.receiverToHunt]
  · rfl

/-- Settles O7, character by character. -/
theorem frameIsReceivedWhole : Obligations.FrameIsReceivedWhole := by
  intro s l kind body hlength hhunt
  have hframe := execAll_frame s l kind body hlength hhunt
  exact ⟨hframe, fun hbusy => hframe.trans ((exec_request_busy s l kind body hbusy).trans
    (congrArg Host.Outcome.next (received_owe s l kind)))⟩

/-! ### Frames that are no request, and the end of a reply (R174, R178) -/

theorem frameBad_receiverToHunt (k : Option Byte) : (s.receiverToHunt l).frameBad l k =
    if (s.link l).sending = none then (s.receiverToHunt l).reply l (k.getD 0x00) .frameBad []
    else (s.receiverToHunt l).owe l (k.getD 0x00) .frameBad := by
  unfold State.frameBad
  rw [receiverToHunt_link]
  cases (s.link l).sending <;> rfl

theorem resets_iff (r : Reply) : r.resets l = true ↔ l = .machine ∧ r.kind = 0x1D ∧ r.status = .ok := by
  simp [Reply.resets, and_assoc]

theorem nextReply_idle {k : LinkState} (h : k.owed = []) : k.nextReply = { k with sending := none } := by
  cases k
  cases h
  rfl

theorem nextReply_owed {k : LinkState} {o : Owed} {os : List Owed} (h : k.owed = o :: os) :
    k.nextReply = { k with sending := some ⟨o.kind, o.status, []⟩, owed := os } := by
  cases k
  cases h
  rfl

theorem exec_replyEnd {r : Reply} (h : (s.link l).sending = some r) :
    exec (.replyEnd l) s = .next (if r.resets l then s else s.setLink l (s.link l).nextReply) := by
  refine congrArg Host.Outcome.next ?_
  rw [h]

/-- Settles O8. -/
theorem otherFramesAndReplyEnds : Obligations.OtherFramesAndReplyEnds := by
  intro s l
  refine ⟨fun k => congrArg Host.Outcome.next (frameBad_receiverToHunt s l k), ?_, fun kind bad hidle => ?_, fun kind hbusy =>
    ⟨exec_busyFrame s l kind true hbusy, exec_busyFrame s l kind false hbusy⟩, fun kind body => congrArg Host.Outcome.next ?_,
    fun hidle => ?_, resets_iff l, fun r hr hresets => ?_, fun r hr hresets => ⟨fun howed => ?_, fun o os howed => ?_⟩⟩
  · exact apply_ite Host.Outcome.next _ _ _
  · exact congrArg Host.Outcome.next (if_neg (by simp [hidle]))
  · cases (s.link l).sending <;> rfl
  · refine congrArg Host.Outcome.next ?_
    rw [hidle]
  · rw [exec_replyEnd s l hr, if_pos hresets]
  · rw [exec_replyEnd s l hr, if_neg (by simp [hresets]), nextReply_idle howed]
  · rw [exec_replyEnd s l hr, if_neg (by simp [hresets]), nextReply_owed howed]

end Links

end Sys2Proof.Machine

/-! Proofs about the signals (chapter 2): the converter, the contact passes and the forces. -/

namespace Sys2Proof.Machine

section Commands

variable {s u : State} {α : Type} {l : Link} {kind : Byte} {allowed : List Link} {act : α → State → Served} {a : α} {c : Instr}

/-! ### The command of a request that is refused, and of one that is carried out (R175, R176) -/

variable {args : Option α}

theorem exec_invalid (hexec : exec c s = .next (s.serve l kind allowed args act)) (hargs : args = none)
    (hidle : (s.link l).sending = none) (hl : l ∈ allowed) : exec c s = .next ((s.received l).reply l kind .invalid []) := by
  subst hargs
  exact hexec.trans (congrArg Host.Outcome.next (serve_invalid s l kind allowed act hidle hl))

theorem exec_refused {st : Status} (hexec : exec c s = .next (s.serve l kind allowed args act)) (hargs : args = some a)
    (hidle : (s.link l).sending = none) (hl : l ∈ allowed) (h : act a (s.received l) = (s.received l).refuse st) :
    exec c s = .next ((s.received l).reply l kind st []) := by
  subst hargs
  exact hexec.trans (congrArg Host.Outcome.next (serve_refused hidle hl h))

theorem exec_done (hexec : exec c s = .next (s.serve l kind allowed args act)) (hargs : args = some a)
    (hidle : (s.link l).sending = none) (hl : l ∈ allowed) (h : act a (s.received l) = u.done) :
    exec c s = .next (u.reply l kind .ok []) := by
  subst hargs
  exact hexec.trans (congrArg Host.Outcome.next (serve_done hidle hl h))

end Commands

section Contacts

variable (s : State)

/-! ### One contact after another (R40) -/

theorem contacts_set (x y : Contact) (cs : Vector ContactRec 10) (c : ContactRec) :
    (cs.set x.index c)[y.index] = if y = x then c else cs[y.index] := by
  by_cases h : y = x
  · simp [h]
  · have hindex : x.index.val ≠ y.index.val := by
      intro e
      apply h
      cases x <;> cases y <;> first | rfl | cases e
    simp [h, hindex]

/-- R40: the arrival of a contact whose reported level has changed. -/
def transitionOf (c : Contact) (after before : ContactRec) (cause : TransitionCause) : List Instr :=
  if after.reported = before.reported then [] else [transitionArrival c ⟨after.reported, before.reported, cause⟩]

theorem setContact_eq (c : Contact) (r : ContactRec) (cause : TransitionCause) : s.setContact c r cause =
    (s.setSaq { s.saq with contacts := s.saq.contacts.set c.index r }).post
      (transitionOf c r (s.saq.contact c) cause) := by
  unfold State.setContact transitionOf
  dsimp only
  split <;> simp

theorem setContact_contact (c d : Contact) (r : ContactRec) (cause : TransitionCause) :
    (s.setContact c r cause).saq.contact d = if d = c then r else s.saq.contact d := by
  rw [setContact_eq]
  exact contacts_set c d _ r

/-- Every contact of a list takes a new record, in order. -/
def State.setContacts (f : Contact → ContactRec → ContactRec) (cause : TransitionCause) (cs : List Contact) (s : State) : State :=
  cs.foldl (fun s c => s.setContact c (f c (s.saq.contact c)) cause) s

/-- SAQ but for its contacts. -/
structure SameButContacts (q r : Saq) : Prop where
  channels      : r.channels = q.channels
  items         : r.items = q.items
  converting    : r.converting = q.converting
  pairLeft      : r.pairLeft = q.pairLeft
  passLeft      : r.passLeft = q.passLeft
  passTimer     : r.passTimer = q.passTimer
  priorityTimer : r.priorityTimer = q.priorityTimer
  contactTimer  : r.contactTimer = q.contactTimer

theorem SameButContacts.refl (q : Saq) : SameButContacts q q := ⟨rfl, rfl, rfl, rfl, rfl, rfl, rfl, rfl⟩

theorem SameButContacts.trans {q r t : Saq} (h : SameButContacts q r) (h' : SameButContacts r t) : SameButContacts q t where
  channels := h'.channels.trans h.channels
  items := h'.items.trans h.items
  converting := h'.converting.trans h.converting
  pairLeft := h'.pairLeft.trans h.pairLeft
  passLeft := h'.passLeft.trans h.passLeft
  passTimer := h'.passTimer.trans h.passTimer
  priorityTimer := h'.priorityTimer.trans h.priorityTimer
  contactTimer := h'.contactTimer.trans h.contactTimer

theorem setContact_sameButContacts (c : Contact) (r : ContactRec) (cause : TransitionCause) :
    SameButContacts s.saq (s.setContact c r cause).saq := by
  rw [setContact_eq]
  exact ⟨rfl, rfl, rfl, rfl, rfl, rfl, rfl, rfl⟩

variable (f : Contact → ContactRec → ContactRec) (cause : TransitionCause)

theorem setContacts_sameButContacts (cs : List Contact) : SameButContacts s.saq (s.setContacts f cause cs).saq :=
  List.foldlRecOn (motive := fun u => SameButContacts s.saq u.saq) cs _ (.refl _) fun u hu c _ =>
    hu.trans (setContact_sameButContacts u c _ _)

/-- Each contact of the list has its new record; the others keep theirs. -/
theorem setContacts_contact (cs : List Contact) (hnodup : cs.Nodup) (d : Contact) :
    (s.setContacts f cause cs).saq.contact d = if d ∈ cs then f d (s.saq.contact d) else s.saq.contact d := by
  induction cs generalizing s with
  | nil => rfl
  | cons c cs ih =>
    obtain ⟨hc, hcs⟩ := List.nodup_cons.mp hnodup
    refine (ih _ hcs).trans ?_
    rw [setContact_contact]
    by_cases h : d = c
    · subst h
      simp [hc]
    · simp [h]

/-- Each contact whose reported level has changed has posted its transition, in the list's order. -/
theorem setContacts_posted (cs : List Contact) (hnodup : cs.Nodup) : (s.setContacts f cause cs).posted =
    s.posted ++ cs.flatMap fun c => transitionOf c (f c (s.saq.contact c)) (s.saq.contact c) cause := by
  induction cs generalizing s with
  | nil => simp [State.setContacts]
  | cons c cs ih =>
    obtain ⟨hc, hcs⟩ := List.nodup_cons.mp hnodup
    refine (ih _ hcs).trans ?_
    have hrest : ∀ d ∈ cs, (s.setContact c (f c (s.saq.contact c)) cause).saq.contact d = s.saq.contact d := by
      intro d hd
      rw [setContact_contact, if_neg]
      rintro rfl
      exact hc hd
    rw [List.flatMap_congr fun d hd => by rw [hrest d hd]]
    dsimp only
    rw [setContact_eq, List.flatMap_cons, ← List.append_assoc]
    rfl

theorem contact_mem_all (c : Contact) : c ∈ Contact.all := by cases c <;> decide

theorem contact_all_nodup : Contact.all.Nodup := by decide

theorem setAllContacts_contact (d : Contact) : (s.setContacts f cause Contact.all).saq.contact d = f d (s.saq.contact d) := by
  rw [setContacts_contact s f cause _ contact_all_nodup, if_pos (contact_mem_all d)]

/-! ### A contact pass (R38) -/

theorem contactPass_eq (inputs : ContactInputs) :
    s.contactPass inputs = s.setContacts (fun c r => r.scan inputs[c.index]) .scan Contact.all := rfl

@[simp] theorem scan_forced (k : ContactRec) (closed : Bool) : (k.scan closed).forced = k.forced := by
  unfold ContactRec.scan
  dsimp only
  repeat' split
  all_goals rfl

variable {k : ContactRec} {closed : Bool} {level : ContactLevel}

theorem scan_first (hlevel : level = if closed then ContactLevel.closed else .opened) (h : k.accepted = .unknown) :
    k.scan closed = { k with accepted := level } := by
  subst hlevel
  exact if_pos h

theorem scan_same (hlevel : level = if closed then ContactLevel.closed else .opened) (h : k.accepted = level) :
    k.scan closed = { k with count := 0 } := by
  have hknown : k.accepted ≠ .unknown := by rw [h, hlevel]; cases closed <;> decide
  subst hlevel
  exact (if_neg hknown).trans (if_pos h)

theorem scan_other (hlevel : level = if closed then ContactLevel.closed else .opened) (hknown : k.accepted ≠ .unknown)
    (h : k.accepted ≠ level) :
    k.scan closed = if k.count < 2 then { k with count := k.count + 1 } else { k with accepted := level, count := 0 } := by
  subst hlevel
  exact (if_neg hknown).trans (if_neg h)

end Contacts

/-- Settles O25: every contact is scanned once, and its transition follows from its new record. -/
theorem contactPassesAcceptLevels : Obligations.ContactPassesAcceptLevels := by
  intro s inputs
  have hsame : SameButContacts s.saq (s.contactPass inputs).saq := by
    rw [contactPass_eq]
    exact setContacts_sameButContacts s _ _ _
  have hcontact (c : Contact) : (s.contactPass inputs).saq.contact c = (s.saq.contact c).scan inputs[c.index] := by
    rw [contactPass_eq, setAllContacts_contact]
  have hposted := setContacts_posted s (fun c r => r.scan inputs[c.index]) .scan Contact.all contact_all_nodup
  have hframe := contactPass_frame s inputs
  have hexec : exec (.contactPass inputs) s =
    .next ((s.contactPass inputs).setSaq { (s.contactPass inputs).saq with contactTimer := .running 10 }) := rfl
  rw [← contactPass_eq] at hposted
  generalize s.contactPass inputs = u at hsame hcontact hposted hframe hexec
  refine ⟨_, hexec, hframe.trans ((setSaq_frame u _).mono (by decide)), hsame.channels, hsame.items, rfl, ?_, ?_⟩
  · rintro c k rfl level hlevel
    have hc := hcontact c
    refine ⟨?_, fun hfirst => ?_, fun heq => ?_, fun hknown hne => ⟨fun hlow => ?_, fun hhigh => ?_⟩⟩
    · exact (congrArg ContactRec.forced hc).trans (scan_forced _ _)
    · rw [scan_first hlevel hfirst] at hc
      exact ⟨(congrArg ContactRec.accepted hc :), (congrArg ContactRec.count hc :)⟩
    · rw [scan_same hlevel heq] at hc
      exact ⟨(congrArg ContactRec.accepted hc).trans heq, (congrArg ContactRec.count hc :)⟩
    · rw [scan_other hlevel hknown hne, if_pos hlow] at hc
      exact ⟨(congrArg ContactRec.accepted hc :), (congrArg ContactRec.count hc :)⟩
    · rw [scan_other hlevel hknown hne, if_neg (Nat.not_lt.mpr hhigh)] at hc
      exact ⟨(congrArg ContactRec.accepted hc :), (congrArg ContactRec.count hc :)⟩
  · refine hposted.trans (congrArg (s.posted ++ ·) (List.flatMap_congr fun c _ => ?_))
    rw [← hcontact c]
    rfl

section Forces

variable (s : State)

/-! ### Forces (R41 to R43) -/

theorem channelRecs_set (x y : Channel) (cs : Vector ChannelRec 10) (c : ChannelRec) :
    (cs.set x.index c)[y.index] = if y = x then c else cs[y.index] := by
  by_cases h : y = x
  · simp [h]
  · have hindex : x.index.val ≠ y.index.val := by
      intro e
      apply h
      cases x <;> cases y <;> first | rfl | cases e
    simp [h, hindex]

theorem forceChannel_channel (c d : Channel) (v : Option Nat) : (s.forceChannel c v).saq.channel d =
    if d = c then { s.saq.channel c with forced := v } else s.saq.channel d :=
  channelRecs_set c d _ _

/-- R43: the forces of a list of channels end. -/
def State.freeChannels (cs : List Channel) (s : State) : State := cs.foldl (fun s c => s.forceChannel c none) s

/-- Only the forced values of the list's channels change. -/
theorem freeChannels_saq (cs : List Channel) :
    (s.freeChannels cs).saq = { s.saq with channels := (s.freeChannels cs).saq.channels } := by
  induction cs generalizing s with
  | nil => rfl
  | cons c cs ih => exact (ih _).trans rfl

theorem freeChannels_channel (cs : List Channel) (d : Channel) : (s.freeChannels cs).saq.channel d =
    if d ∈ cs then { s.saq.channel d with forced := none } else s.saq.channel d := by
  induction cs generalizing s with
  | nil => rfl
  | cons c cs ih =>
    refine (ih _).trans ?_
    rw [forceChannel_channel]
    by_cases h : d = c
    · subst h
      simp
    · simp [h]

theorem freeChannels_frame (cs : List Channel) : SameBut [.saq] s (s.freeChannels cs) :=
  SameBut.foldl _ (fun s _ => forceChannel_frame s _ _) cs s

theorem channel_mem_all (c : Channel) : c ∈ Channel.all := by cases c <;> decide

theorem endForces_eq :
    s.endForces = (s.freeChannels Channel.all).setContacts (fun _ r => { r with forced := none }) .release Contact.all := rfl

theorem endForces_channel (c : Channel) : s.endForces.saq.channel c = { s.saq.channel c with forced := none } := by
  have hsame := setContacts_sameButContacts (s.freeChannels Channel.all) (fun _ r => { r with forced := none }) .release
    Contact.all
  rw [endForces_eq, Saq.channel, hsame.channels]
  exact (freeChannels_channel s Channel.all c).trans (if_pos (channel_mem_all c))

theorem freeChannels_contact (cs : List Channel) (c : Contact) : (s.freeChannels cs).saq.contact c = s.saq.contact c := by
  rw [freeChannels_saq]
  rfl

theorem endForces_contact (c : Contact) : s.endForces.saq.contact c = { s.saq.contact c with forced := none } := by
  rw [endForces_eq, setAllContacts_contact, freeChannels_contact]

theorem endForces_items : s.endForces.saq.items = s.saq.items := by
  rw [endForces_eq, (setContacts_sameButContacts _ _ _ _).items, freeChannels_saq]

/-- R43: the RELEASE transitions of the contacts whose reported level changes as the forces end. -/
def releaseTransitions (q : Saq) : List Instr := Contact.all.flatMap fun c =>
  if (q.contact c).accepted = (q.contact c).reported then []
  else [transitionArrival c ⟨(q.contact c).accepted, (q.contact c).reported, .release⟩]

theorem endForces_posted : s.endForces.posted = s.posted ++ releaseTransitions s.saq := by
  rw [endForces_eq, setContacts_posted _ _ _ _ contact_all_nodup, (freeChannels_frame s _).posted (by decide)]
  refine congrArg (s.posted ++ ·) (List.flatMap_congr fun c _ => ?_)
  rw [freeChannels_contact]
  rfl

/-! ### The bodies of FORCE_SIGNAL and RELEASE_FORCE (R179, R181) -/

theorem forceChannelBody_none {body : List Byte} (h : ∀ n hi lo : Byte, body ≠ [0, n, hi, lo]) :
    forceChannelBody body = none := by
  unfold forceChannelBody
  split
  next ty n hi lo => exact if_neg fun hty => h n hi lo (by rw [hty])
  next => rfl

theorem forceContactBody_none {body : List Byte} (h : ∀ n v : Byte, body ≠ [1, n, v]) : forceContactBody body = none := by
  unfold forceContactBody
  split
  next ty n v => exact if_neg fun hty => h n v (by rw [hty])
  next => rfl

theorem forceChannelBody_some (n hi lo : Byte) :
    forceChannelBody [0, n, hi, lo] = some (n.toNat, 256 * hi.toNat + lo.toNat) := by
  rw [← natOf_two]
  rfl

theorem levelOf_none {v : Byte} (h1 : v ≠ 1) (h2 : v ≠ 2) : levelOf v = none := (if_neg h1).trans (if_neg h2)

theorem forceContactBody_some (n : Byte) {v : Byte} {level : ContactLevel} (h : levelOf v = some level) :
    forceContactBody [1, n, v] = some (n.toNat, level) := by
  simp [forceContactBody, h]

theorem forceContactBody_noLevel (n : Byte) {v : Byte} (h1 : v ≠ 1) (h2 : v ≠ 2) : forceContactBody [1, n, v] = none := by
  simp [forceContactBody, levelOf_none h1 h2]

theorem channel_ofNat? {c : Channel} {n : Nat} (h : c.index.val = n) : Channel.ofNat? n = some c := by
  subst h
  cases c <;> rfl

theorem contact_ofNat? {c : Contact} {n : Nat} (h : c.index.val = n) : Contact.ofNat? n = some c := by
  subst h
  cases c <;> rfl

theorem channel_ofNat?_none {n : Nat} (h : 10 ≤ n) : Channel.ofNat? n = none := List.getElem?_eq_none h

theorem contact_ofNat?_none {n : Nat} (h : 10 ≤ n) : Contact.ofNat? n = none := List.getElem?_eq_none h

/-! ### What the three requests come to, in the order of their checks -/

section Checks

variable {s} {n v : Nat} {level : ContactLevel}

theorem forceSignalChannel_wrongMode (h : s.lmc.mode ≠ .maintenance) : s.forceSignalChannel n v = s.refuse .wrongMode := if_pos h

theorem forceSignalChannel_none (h : s.lmc.mode = .maintenance) (hn : 10 ≤ n) :
    s.forceSignalChannel n v = s.refuse .invalid := by
  rw [State.forceSignalChannel, if_neg (not_not_intro h), channel_ofNat?_none hn]

theorem forceSignalChannel_eq (h : s.lmc.mode = .maintenance) {c : Channel} (hc : c.index.val = n) :
    s.forceSignalChannel n v = if c.max < v then s.refuse .invalid else (s.forceChannel c (some v)).done := by
  rw [State.forceSignalChannel, if_neg (not_not_intro h), channel_ofNat? hc]

theorem forceSignalContact_wrongMode (h : s.lmc.mode ≠ .maintenance) :
    s.forceSignalContact n level = s.refuse .wrongMode := if_pos h

theorem forceSignalContact_none (h : s.lmc.mode = .maintenance) (hn : 10 ≤ n) :
    s.forceSignalContact n level = s.refuse .invalid := by
  rw [State.forceSignalContact, if_neg (not_not_intro h), contact_ofNat?_none hn]

theorem forceSignalContact_eq (h : s.lmc.mode = .maintenance) {c : Contact} (hc : c.index.val = n) :
    s.forceSignalContact n level = (s.forceContact c (some level)).done := by
  rw [State.forceSignalContact, if_neg (not_not_intro h), contact_ofNat? hc]

theorem releaseForce_wrongMode {t : ReleaseTarget} (h : s.lmc.mode ≠ .maintenance) : s.releaseForce t = s.refuse .wrongMode :=
  if_pos h

theorem releaseForce_all (h : s.lmc.mode = .maintenance) : s.releaseForce .all = s.endForces.done := by
  rw [State.releaseForce, if_neg (not_not_intro h)]

theorem releaseForce_noChannel (h : s.lmc.mode = .maintenance) (hn : 10 ≤ n) :
    s.releaseForce (.analog n) = s.refuse .invalid := by
  simp only [State.releaseForce, if_neg (not_not_intro h), channel_ofNat?_none hn]

theorem releaseForce_noContact (h : s.lmc.mode = .maintenance) (hn : 10 ≤ n) :
    s.releaseForce (.contact n) = s.refuse .invalid := by
  simp only [State.releaseForce, if_neg (not_not_intro h), contact_ofNat?_none hn]

theorem releaseForce_analog (h : s.lmc.mode = .maintenance) {c : Channel} (hc : c.index.val = n) :
    s.releaseForce (.analog n) = (s.forceChannel c none).done := by
  simp only [State.releaseForce, if_neg (not_not_intro h), channel_ofNat? hc]

theorem releaseForce_contact (h : s.lmc.mode = .maintenance) {c : Contact} (hc : c.index.val = n) :
    s.releaseForce (.contact n) = (s.forceContact c none).done := by
  simp only [State.releaseForce, if_neg (not_not_intro h), contact_ofNat? hc]

end Checks

theorem forceContact_some (c : Contact) (level : ContactLevel) : s.forceContact c (some level) =
    (s.setSaq { s.saq with
      contacts := s.saq.contacts.set c.index { s.saq.contact c with forced := some level } }).post
      (if level = (s.saq.contact c).reported then []
        else [transitionArrival c ⟨level, (s.saq.contact c).reported, .force⟩]) :=
  setContact_eq s c _ .force

theorem forceContact_none (c : Contact) : s.forceContact c none =
    (s.setSaq { s.saq with contacts := s.saq.contacts.set c.index { s.saq.contact c with forced := none } }).post
      (if (s.saq.contact c).accepted = (s.saq.contact c).reported then []
        else [transitionArrival c ⟨(s.saq.contact c).accepted, (s.saq.contact c).reported, .release⟩]) :=
  setContact_eq s c _ .release

variable {s}

theorem natOf_one (n : Byte) : natOf [n] = n.toNat := by simp [natOf]

theorem releaseBody_analog (n : Byte) : releaseBody [0, n] = some (.analog n.toNat) := rfl

theorem releaseBody_contact (n : Byte) : releaseBody [1, n] = some (.contact n.toNat) := rfl

theorem releaseBody_all (n : Byte) : releaseBody [2, n] = some .all := rfl

theorem releaseBody_unknown {ty : Byte} (n : Byte) (h : 3 ≤ ty.toNat) : releaseBody [ty, n] = none := by
  have hne (k : Byte) (hk : k.toNat < 3) : ty ≠ k := by
    rintro rfl
    omega
  exact (if_neg (hne 0 (by decide))).trans ((if_neg (hne 1 (by decide))).trans (if_neg (hne 2 (by decide))))

/-- R181: the three types of RELEASE_FORCE. -/
theorem releaseBody_known {ty : Byte} (n : Byte) (h : ty.toNat ≤ 2) : ∃ t, releaseBody [ty, n] = some t ∧
    (ty.toNat ≤ 1 → t = .analog n.toNat ∨ t = .contact n.toNat) := by
  have hty : ty = 0 ∨ ty = 1 ∨ ty = 2 := by
    have : ty.toNat = 0 ∨ ty.toNat = 1 ∨ ty.toNat = 2 := by omega
    exact this.imp BitVec.eq_of_toNat_eq (Or.imp BitVec.eq_of_toNat_eq BitVec.eq_of_toNat_eq)
  rcases hty with rfl | rfl | rfl
  · exact ⟨_, rfl, fun _ => .inl rfl⟩
  · exact ⟨_, rfl, fun _ => .inr rfl⟩
  · exact ⟨.all, rfl, fun hle => absurd hle (by decide)⟩

end Forces

/-- Settles O23, in the order of each request's checks. -/
theorem forcesAreSetAndReleased : Obligations.ForcesAreSetAndReleased := by
  refine ⟨fun body c => ⟨fun h => (Option.some.inj h).symm, fun h => congrArg some h.symm⟩, fun s => ⟨fun body hidle =>
    ⟨fun h => exec_invalid rfl (forceChannelBody_none h) hidle (by decide),
      fun h => exec_invalid rfl (forceContactBody_none h) hidle (by decide)⟩, ?_, ?_, ?_⟩⟩
  · rintro n hi lo _ hidle rfl
    have hbody := forceChannelBody_some n hi lo
    refine ⟨fun hmode => ?_, fun hmode => ⟨fun hn => ?_, fun c hc => ⟨fun hhigh => ?_, fun hlow => ?_⟩⟩⟩
    · exact exec_refused rfl hbody hidle (by decide) (forceSignalChannel_wrongMode (by simpa using hmode))
    · exact exec_refused rfl hbody hidle (by decide) (forceSignalChannel_none (by simpa using hmode) hn)
    · exact exec_refused rfl hbody hidle (by decide)
        ((forceSignalChannel_eq (by simpa using hmode) hc).trans (if_pos hhigh))
    · refine exec_done rfl hbody hidle (by decide)
        (((forceSignalChannel_eq (by simpa using hmode) hc).trans (if_neg (Nat.not_lt.mpr hlow))).trans ?_)
      rw [State.forceChannel, received_saq]
  · rintro n v _ hidle rfl
    refine ⟨fun h1 h2 => exec_invalid rfl (forceContactBody_noLevel n h1 h2) hidle (by decide), fun level hlevel => ?_⟩
    have hbody := forceContactBody_some n hlevel
    refine ⟨fun hmode => ?_, fun hmode => ⟨fun hn => ?_, fun c hc => ?_⟩⟩
    · exact exec_refused rfl hbody hidle (by decide) (forceSignalContact_wrongMode (by simpa using hmode))
    · exact exec_refused rfl hbody hidle (by decide) (forceSignalContact_none (by simpa using hmode) hn)
    · refine exec_done rfl hbody hidle (by decide) ((forceSignalContact_eq (by simpa using hmode) hc).trans ?_)
      rw [forceContact_some, received_saq]
  · rintro ty n _ hidle rfl
    refine ⟨fun hty => exec_invalid rfl (releaseBody_unknown n hty) hidle (by decide), fun hty hmode => ?_, fun hmode =>
      ⟨fun hty hn => ?_, fun hty c hc => ?_, fun hty c hc => ?_, fun hty => ?_⟩⟩
    · obtain ⟨t, hbody, -⟩ := releaseBody_known n hty
      exact exec_refused rfl hbody hidle (by decide) (releaseForce_wrongMode (by simpa using hmode))
    · obtain ⟨t, hbody, htarget⟩ := releaseBody_known n (show ty.toNat ≤ 2 by omega)
      refine exec_refused rfl hbody hidle (by decide) ?_
      rcases htarget hty with rfl | rfl
      · exact releaseForce_noChannel (by simpa using hmode) hn
      · exact releaseForce_noContact (by simpa using hmode) hn
    · subst hty
      refine exec_done rfl (releaseBody_analog n) hidle (by decide) ((releaseForce_analog (by simpa using hmode) hc).trans ?_)
      rw [State.forceChannel, received_saq]
    · subst hty
      refine exec_done rfl (releaseBody_contact n) hidle (by decide) ((releaseForce_contact (by simpa using hmode) hc).trans ?_)
      rw [forceContact_none, received_saq]
    · subst hty
      have hexec : exec (.releaseForce .machine [2, n]) s =
          .next ((s.received .machine).endForces.reply .machine 0x13 .ok []) :=
        exec_done rfl (releaseBody_all n) hidle (by decide) (releaseForce_all (by simpa using hmode))
      have hframe : SameBut [.saq, .links, .posted] s (s.received .machine).endForces :=
        ((received_frame s .machine).mono (by decide)).trans ((endForces_frame _).mono (by decide))
      have hchannel := endForces_channel (s.received .machine)
      have hcontact := endForces_contact (s.received .machine)
      have hitems := endForces_items (s.received .machine)
      have hposted := endForces_posted (s.received .machine)
      rw [received_saq] at hchannel hcontact hitems hposted
      generalize (s.received .machine).endForces = u at hexec hframe hchannel hcontact hitems hposted
      exact ⟨_, hexec, hframe.trans ((reply_frame _ _ _ _ _).mono (by decide)), hchannel, hcontact, hitems, hposted, by simp⟩

section Converter

variable (s : State)

/-! ### The converter (R29 to R35) -/

/-- R29: what remains of the pair and of the pass, in the order of its conversions. -/
def Saq.toConvert (q : Saq) : List Channel := q.pairLeft ++ q.passLeft

theorem advance_converting (q : Saq) : q.advance.converting = q.toConvert.head? := by
  unfold Saq.advance Saq.toConvert
  cases q.pairLeft with
  | cons c cs => rfl
  | nil => cases q.passLeft <;> rfl

theorem advance_toConvert (q : Saq) : q.advance.toConvert = q.toConvert.tail := by
  obtain ⟨channels, items, converting, pair, pass, passTimer, priorityTimer, contacts, contactTimer⟩ := q
  cases pair with
  | cons c cs => rfl
  | nil => cases pass <;> rfl

theorem advance_channels (q : Saq) : q.advance.channels = q.channels := by
  unfold Saq.advance
  repeat' split
  all_goals rfl

theorem advance_keepsItems (q : Saq) : q.advance.items = q.items := by
  unfold Saq.advance
  repeat' split
  all_goals rfl

theorem advance_contacts (q : Saq) : q.advance.contacts = q.contacts := by
  unfold Saq.advance
  repeat' split
  all_goals rfl

theorem requestPair_busy {q : Saq} (h : q.converting ≠ none) :
    q.requestPair = { q with pairLeft := [.wvh, .dsp], priorityTimer := .running 50 } := if_neg h

theorem requestPair_idle {q : Saq} (h : q.converting = none) :
    q.requestPair = { q with converting := some .wvh, pairLeft := [.dsp], priorityTimer := .running 50 } := if_pos h

theorem exec_conversionComplete {c : Channel} (code : Code) (h : s.saq.converting = some c) :
    exec (.conversionComplete code) s = .next (s.convert c code) := by
  refine congrArg Host.Outcome.next ?_
  rw [h]

theorem convert_channel (c d : Channel) (code : Code) : (s.convert c code).saq.channel d =
    if d = c then (s.saq.channel c).convert s.saq.items[c.index] c.max code else s.saq.channel d := by
  simp only [State.convert, post_saq, setSaq_saq, Saq.channel, advance_channels]
  exact channelRecs_set c d _ _

/-! ### A converted value (R30, R31) -/

theorem clampInt_of_mem {lo hi x : Int} (hlow : lo ≤ x) (hhigh : x ≤ hi) : clampInt lo hi x = x := by
  rw [clampInt, if_neg (by omega), if_neg (by omega)]

theorem clampInt_of_lt {lo hi x : Int} (h : x < lo) : clampInt lo hi x = lo := if_pos h

theorem clampInt_of_gt {lo hi x : Int} (hrange : lo ≤ hi) (h : hi < x) : clampInt lo hi x = hi := by
  rw [clampInt, if_neg (by omega), if_pos h]

theorem engineering_le (i : ChannelItems) (max : Nat) (code : Code) : engineering i max code ≤ max := by
  unfold engineering clampInt
  split
  · omega
  · split <;> omega

/-! ### What a sample makes of its channel (R33) -/

variable {c : ChannelRec} {i : ChannelItems} {max : Nat} {code : Code}

theorem convert_good (hlow : i.low ≤ engineering i max code) (hhigh : engineering i max code ≤ i.high) :
    c.convert i max code = { c with lastCode := code }.goodSample (engineering i max code) :=
  if_pos (by simp [inWindow, hlow, hhigh])

theorem convert_bad (h : engineering i max code < i.low ∨ i.high < engineering i max code) :
    c.convert i max code = { c with lastCode := code }.badSample :=
  if_neg (by simp [inWindow]; omega)

theorem goodSample_faulted {v : Nat} (h : c.state = .faulted) : c.goodSample v =
    if 3 ≤ c.goodRun + 1 then { c with value := v, hadGood := true, state := .good, badRun := 0, goodRun := 0 }
    else { c with value := v, hadGood := true, goodRun := c.goodRun + 1 } := by
  unfold ChannelRec.goodSample
  dsimp only
  rw [h]

theorem goodSample_other {v : Nat} (h : c.state ≠ .faulted) :
    c.goodSample v = { c with value := v, hadGood := true, state := .good, badRun := 0 } := by
  unfold ChannelRec.goodSample
  dsimp only
  cases hstate : c.state
  case faulted => exact absurd hstate h
  all_goals rfl

theorem badSample_good (h : c.state = .good) : c.badSample = { c with state := .suspect, badRun := 1 } := by
  unfold ChannelRec.badSample
  rw [h]

theorem badSample_faulted (h : c.state = .faulted) : c.badSample = { c with goodRun := 0 } := by
  unfold ChannelRec.badSample
  rw [h]

theorem badSample_other (h : c.state = .initial ∨ c.state = .suspect) : c.badSample =
    if 3 ≤ c.badRun + 1 then { c with state := .faulted, badRun := 3, goodRun := 0 } else { c with badRun := c.badRun + 1 } := by
  unfold ChannelRec.badSample
  rcases h with h | h <;> rw [h]

theorem convert_forced (c : ChannelRec) (i : ChannelItems) (max : Nat) (code : Code) :
    (c.convert i max code).forced = c.forced := by
  unfold ChannelRec.convert ChannelRec.goodSample ChannelRec.badSample
  dsimp only
  repeat' split
  all_goals rfl

theorem convert_lastCode (c : ChannelRec) (i : ChannelItems) (max : Nat) (code : Code) :
    (c.convert i max code).lastCode = code := by
  unfold ChannelRec.convert ChannelRec.goodSample ChannelRec.badSample
  dsimp only
  repeat' split
  all_goals rfl

end Converter

/-- Settles O24: the order of the conversions from `advance`, and a channel's new record case by case of its state. -/
theorem conversionsAreMadeAndQualified : Obligations.ConversionsAreMadeAndQualified := by
  refine ⟨fun s => ⟨rfl, fun c hc => ?_, fun hidle => ?_, fun code hidle => ?_, fun c code hc => ?_⟩, fun c i max code => ?_⟩
  · exact congrArg (fun q => Host.Outcome.next (s.setSaq q)) (requestPair_busy (by simp [hc]))
  · exact congrArg (fun q => Host.Outcome.next (s.setSaq q)) (requestPair_idle hidle)
  · refine congrArg Host.Outcome.next ?_
    rw [hidle]
  · have hchannel := convert_channel s c c code
    rw [if_pos rfl] at hchannel
    refine ⟨_, exec_conversionComplete s code hc, convert_frame s c code, advance_converting _, advance_toConvert _, hchannel,
      fun d hd => (convert_channel s c d code).trans (if_neg hd), advance_keepsItems _, advance_contacts _, ?_⟩
    rw [hchannel, List.append_assoc]
    rfl
  · dsimp only
    refine ⟨engineering_le i max code, fun hlow hhigh => ?_, fun h => ?_, fun h => ?_, ?_, ?_, fun hlow hhigh => ?_,
      fun hout => ?_⟩
    · unfold engineering
      rw [clampInt_of_mem hlow hhigh]
      omega
    · unfold engineering
      rw [clampInt_of_lt h]
      rfl
    · unfold engineering
      rw [clampInt_of_gt (by omega) h]
      rfl
    · exact convert_forced c i max code
    · exact convert_lastCode c i max code
    · by_cases hfault : c.state = .faulted
      · rw [(convert_good hlow hhigh).trans (goodSample_faulted hfault)]
        by_cases hrun : 3 ≤ c.goodRun + 1
        · simp [hfault, Nat.not_lt.mpr hrun, hrun]
        · simp [hfault, Nat.lt_of_not_le hrun, hrun]
      · rw [(convert_good hlow hhigh).trans (goodSample_other hfault)]
        simp [hfault]
    · cases hstate : c.state with
      | good =>
        rw [(convert_bad hout).trans (badSample_good hstate)]
        simp
      | faulted =>
        rw [(convert_bad hout).trans (badSample_faulted hstate)]
        simp [hstate]
      | initial =>
        rw [(convert_bad hout).trans (badSample_other (.inl hstate))]
        by_cases hrun : 3 ≤ c.badRun + 1
        · simp [Nat.not_lt.mpr hrun, hrun]
        · simp [Nat.lt_of_not_le hrun, hrun, hstate]
      | suspect =>
        rw [(convert_bad hout).trans (badSample_other (.inr hstate))]
        by_cases hrun : 3 ≤ c.badRun + 1
        · simp [Nat.not_lt.mpr hrun, hrun]
        · simp [Nat.lt_of_not_le hrun, hrun, hstate]

end Sys2Proof.Machine

/-! Proofs about the event queues, the identities and the exit log's reader, and about the resets (chapters 1, 10 and 11). -/

namespace Sys2Proof.Machine

section Events

variable (s : State) (l : Link)

/-! ### The event queues (R185 to R188) -/

theorem copyEvent_eq (k : LinkState) (r : EventRecord) : k.copyEvent r =
    if k.mask.has r.event.cls then
      (if k.queue.length < 16 then { k with queue := k.queue ++ [r] } else { k with gap := true })
    else k := rfl

variable {s l}

theorem exec_readEvents (hidle : (s.link l).sending = none) : exec (.readEvents l []) s =
    .next (((s.received l).readEvents l).state.reply l 0x1B .ok ((s.received l).readEvents l).body) :=
  congrArg Host.Outcome.next (serve_some s l 0x1B [.machine, .safety, .trace] _ () hidle (by cases l <;> decide))

theorem link_mem_all (l : Link) : l ∈ [Link.machine, .safety, .trace] := by cases l <;> decide

theorem maskBody_fits {b : Byte} (h : b.toNat < 32) :
    maskBody [b] = some ⟨b.getLsbD 0, b.getLsbD 1, b.getLsbD 2, b.getLsbD 3, b.getLsbD 4⟩ := if_pos h

theorem maskBody_beyond {b : Byte} (h : 32 ≤ b.toNat) : maskBody [b] = none := if_neg (Nat.not_lt.mpr h)

theorem attention_iff (k : LinkState) : k.attention = true ↔ k.queue ≠ [] := by
  simp [LinkState.attention]

end Events

/-- Settles O26. -/
theorem eventsAreQueuedReadAndShown : Obligations.EventsAreQueuedReadAndShown := by
  refine ⟨fun _ => rfl, ⟨fun _ _ _ _ => rfl, fun _ => rfl, fun _ _ _ _ => rfl, fun _ _ => rfl, fun _ _ _ => rfl, fun _ _ _ => rfl,
    fun _ _ _ _ _ => rfl, fun _ _ _ => rfl, fun _ _ _ _ => rfl, fun _ _ => rfl, fun _ _ => rfl⟩, fun s e l => event_link s e l,
    fun s l => ⟨?_, ?_⟩, fun s => ⟨fun hhigh => ?_, fun hlow => ?_⟩⟩
  · rintro _ hidle rfl
    rw [exec_readEvents hidle]
    simp [State.readEvents]
  · rintro b _ hidle rfl
    exact ⟨fun hfits => exec_done rfl (maskBody_fits hfits) hidle (link_mem_all l) rfl,
      fun hbeyond => exec_invalid rfl (maskBody_beyond hbeyond) hidle (link_mem_all l)⟩
  · rw [State.outputs, if_pos hhigh]
    refine ⟨fun z => by simp, rfl, rfl, rfl, by simp, fun f => rfl, rfl, fun l => ?_⟩
    rw [PerLink.get_map]
    exact attention_iff _
  · exact if_neg hlow

section Identities

variable {s : State}

/-! ### Identities and the exit log (R22, R24) -/

theorem identityOk_iff (i : Identity) :
    identityOk i = true ↔ 1 ≤ i.length ∧ i.length ≤ 20 ∧ ∀ c ∈ i, 0x20 ≤ c.toNat ∧ c.toNat ≤ 0x7E := by
  simp [identityOk, and_assoc]

theorem identityBody_counted {cs : List Byte} (h : cs.length < 256) :
    identityBody (BitVec.ofNat 8 cs.length :: cs) = some cs := by
  refine if_pos ?_
  simp
  omega

theorem identityBody_none {body : List Byte} (h : ∀ (n : Byte) (cs : List Byte), cs.length = n.toNat → body ≠ n :: cs) :
    identityBody body = none := by
  cases body with
  | nil => rfl
  | cons n cs => exact if_neg fun hlength => h n cs hlength rfl

theorem pushIdentity_unfit {i : Identity} (h : ¬identityOk i = true) : s.pushIdentity i = s.refuse .invalid :=
  if_pos (by simpa using h)

theorem pushIdentity_fit {i : Identity} (h : identityOk i = true) : s.pushIdentity i =
    if 8 ≤ s.trk.identities.length then s.refuse .full
    else (s.setTrk { s.trk with identities := s.trk.identities ++ [i] }).evalReady.done :=
  if_neg (by simp [h])

theorem takeExitRecord_empty (h : s.trk.exitLog = []) : s.takeExitRecord = s.refuse .empty := by
  rw [State.takeExitRecord, h]

theorem takeExitRecord_oldest {r : ExitRecord} {rest : List ExitRecord} (h : s.trk.exitLog = r :: rest) :
    s.takeExitRecord = ⟨.ok, r.encode, (s.setTrk (s.trk.removeOldest r rest)).evalReady⟩ := by
  rw [State.takeExitRecord, h]

theorem exec_takeExitRecord (hidle : (s.link .trace).sending = none) : ∀ r, r = (s.received .trace).takeExitRecord →
    exec (.takeExitRecord .trace []) s = .next (r.state.reply .trace 0x25 r.status r.body) := by
  rintro _ rfl
  exact congrArg Host.Outcome.next (serve_some s .trace 0x25 [.trace] _ () hidle (by decide))

end Identities

/-- Settles O27. -/
theorem identitiesAndExitRecordsAreTaken : Obligations.IdentitiesAndExitRecordsAreTaken := by
  refine fun s => ⟨fun body hbody hidle => exec_invalid rfl (identityBody_none hbody) hidle (by decide), ?_, ?_, ?_⟩
  · rintro cs hlength _ rfl _ hidle rfl
    have hargs := identityBody_counted hlength
    refine ⟨fun hunfit => ?_, fun hlow hhigh hchars => ⟨fun hfull => ?_, fun hroom => ?_⟩⟩
    · exact exec_refused rfl hargs hidle (by decide) (pushIdentity_unfit fun h => hunfit ((identityOk_iff cs).mp h))
    all_goals have hfit := pushIdentity_fit (s := s.received .trace) ((identityOk_iff cs).mpr ⟨hlow, hhigh, hchars⟩)
    all_goals rw [received_trk] at hfit
    · exact exec_refused rfl hargs hidle (by decide) (hfit.trans (if_pos hfull))
    · exact exec_done rfl hargs hidle (by decide) (hfit.trans (if_neg (Nat.not_le.mpr hroom)))
  · rintro _ hidle rfl
    refine exec_done rfl (show emptyBody [] = some () from rfl) hidle (by decide) ?_
    rw [State.flushIdentities, received_trk]
  · rintro _ hidle rfl
    have hexec := exec_takeExitRecord hidle _ rfl
    refine ⟨fun hempty => ?_, fun r rest hlog => ?_⟩
    · rw [hexec, takeExitRecord_empty (by simpa using hempty)]
      rfl
    · rw [hexec, takeExitRecord_oldest (by simpa using hlog), received_trk]
      rfl

section Resets

variable (s : State)

/-! ### The reset requests and the pin (R190, R192) -/

theorem resets_machine_iff (r : Reply) : r.resets .machine = true ↔ ∃ b, r = ⟨0x1D, .ok, b⟩ := by
  rw [resets_iff]
  obtain ⟨kind, status, body⟩ := r
  simp [and_comm]

theorem resetDue_iff : s.resetDue = true ↔ ∃ b, s.links.machine.sending = some ⟨0x1D, .ok, b⟩ := by
  unfold State.resetDue
  cases hsending : s.links.machine.sending with
  | none => simp
  | some r => simp [resets_machine_iff]

/-- R190: what each source makes of the retained record and of the state that the reset starts from. -/
theorem exec_resets {inputs : ContactInputs} {c : Instr} {r : Rtr}
    (h : (c = .powerOnReset inputs ∧ r = ⟨⟨0, 0⟩, .t0, 0, ⟨false, false⟩, false, ⟨true, false, false⟩⟩) ∨
      (c = .externalReset inputs ∧ s.resetPin ≠ .lowSincePowerOn ∧
        r = { s.rtr with causes := { s.rtr.causes with external := true } }) ∨
      (c = .externalReset inputs ∧ s.resetPin = .lowSincePowerOn ∧ r = s.rtr) ∨
      (c = .commandedReset inputs ∧ (∃ b, s.links.machine.sending = some ⟨0x1D, .ok, b⟩) ∧
        r = { s.rtr with causes := { s.rtr.causes with commanded := true } })) :
    ∃ pin, exec c s = .next (((s.setResetPin pin).restart r).contactPass inputs) := by
  rcases h with ⟨rfl, rfl⟩ | ⟨rfl, hpin, rfl⟩ | ⟨rfl, hpin, rfl⟩ | ⟨rfl, hdue, rfl⟩
  · exact ⟨_, rfl⟩
  · refine ⟨.high, congrArg Host.Outcome.next ?_⟩
    cases hstate : s.resetPin with
    | lowSincePowerOn => exact absurd hstate hpin
    | high => rfl
    | low => rfl
  · refine ⟨.high, congrArg Host.Outcome.next ?_⟩
    rw [hpin]
    rfl
  · exact ⟨s.resetPin, congrArg Host.Outcome.next (if_pos ((resetDue_iff s).mpr hdue))⟩

theorem exec_externalReset (inputs : ContactInputs) :
    ∃ r, exec (.externalReset inputs) s = .next (((s.setResetPin .high).restart r).contactPass inputs) := by
  cases hstate : s.resetPin with
  | lowSincePowerOn =>
    refine ⟨s.rtr, congrArg Host.Outcome.next ?_⟩
    rw [hstate]
    rfl
  | high | low =>
    refine ⟨s.rtr.afterReset .external, congrArg Host.Outcome.next ?_⟩
    rw [hstate]
    rfl

/-! ### The state that a reset starts from (R190, R191) -/

/-- Every block at its reset values, before FLX evaluates the amounts of the retained record. -/
def State.rested (r : Rtr) (s : State) : State :=
  { State.reset with
    flx := .restored r, rtr := r, resetPin := s.resetPin, pending := s.pending, posted := [], freeCount := s.freeCount }

theorem restart_eq (r : Rtr) : s.restart r = (s.rested r).evalTankLow.evalSupplyEmpty := rfl

theorem restart_frame (r : Rtr) : SameBut [.flx, .posted] (s.rested r) (s.restart r) :=
  (evalTankLow_frame _).trans (evalSupplyEmpty_frame _)

theorem restart_flx_eq (r : Rtr) : (s.restart r).flx = { Flx.restored r with
    tankLow := decide (r.amounts.tank r.activeTank < 1000000),
    supplyEmpty := decide (r.amounts.fst < 1) && decide (r.amounts.snd < 1) } := by
  rw [restart_eq, evalSupplyEmpty_flx, evalTankLow_flx, (evalTankLow_frame _).lmc (by decide)]
  rfl

theorem restart_posted (r : Rtr) : (s.restart r).posted =
    (if r.amounts.tank r.activeTank < 1000000 then [.alarmRaise Alarm.fluxTankLow] else []) ++
      (if r.amounts.fst < 1 ∧ r.amounts.snd < 1 then [.alarmRaise Alarm.fluxSupplyEmpty] else []) := by
  have hlow : (s.rested r).flx.tankLowNow = decide (r.amounts.tank r.activeTank < 1000000) := rfl
  have hempty : (s.rested r).evalTankLow.flx.supplyEmptyNow (s.rested r).lmc.activeBank.supplyThreshold =
      (decide (r.amounts.fst < 1) && decide (r.amounts.snd < 1)) := by
    rw [evalTankLow_flx]
    rfl
  have hwas : (s.rested r).evalTankLow.flx.supplyEmpty = false := by
    rw [evalTankLow_flx]
    rfl
  rw [restart_eq, evalSupplyEmpty_posted, evalTankLow_posted, (evalTankLow_frame _).lmc (by decide), hlow, hempty, hwas]
  have hposted : (s.rested r).posted = [] := rfl
  have hlowWas : (s.rested r).flx.tankLow = false := rfl
  rw [hposted, hlowWas, List.nil_append]
  by_cases h1 : r.amounts.tank r.activeTank < 1000000 <;> by_cases h2 : r.amounts.fst < 1 <;>
    by_cases h3 : r.amounts.snd < 1 <;> simp [h1, h2, h3]

theorem restart_contact (r : Rtr) (k : Contact) :
    (s.restart r).saq.contact k = { accepted := .unknown, count := 0, forced := none } := by
  rw [(restart_frame s r).saq (by decide)]
  cases k <;> rfl

/-- R39: the first pass accepts every level, and each is a transition from UNKNOWN. -/
theorem restart_pass_posted (r : Rtr) (inputs : ContactInputs) : ((s.restart r).contactPass inputs).posted =
    (s.restart r).posted ++ Contact.all.map fun k =>
      transitionArrival k ⟨if inputs[k.index] then .closed else .opened, .unknown, .scan⟩ := by
  rw [contactPass_eq, setContacts_posted _ _ _ _ contact_all_nodup, List.map_eq_flatMap]
  refine congrArg _ (List.flatMap_congr fun k _ => ?_)
  rw [restart_contact, scan_first rfl rfl]
  cases inputs[k.index] <;> rfl

theorem restart_pass_contact (r : Rtr) (inputs : ContactInputs) (k : Contact) :
    ((s.restart r).contactPass inputs).saq.contact k =
      { accepted := if inputs[k.index] then .closed else .opened, count := 0, forced := none } := by
  rw [contactPass_eq, setAllContacts_contact, restart_contact]
  exact scan_first rfl rfl

end Resets

/-- Settles O28: `exec_resets` gives the state that the first pass is made on, whose blocks are those of `rested` but for FLX and
what it posts. -/
theorem resetsRestoreEveryBlock : Obligations.ResetsRestoreEveryBlock := by
  intro s inputs c r h
  obtain ⟨pin, hexec⟩ := exec_resets s h
  have hcontact := restart_pass_contact (s.setResetPin pin) r inputs
  have hposted := restart_pass_posted (s.setResetPin pin) r inputs
  rw [restart_posted] at hposted
  have hflx := restart_flx_eq (s.setResetPin pin) r
  have hrested := restart_frame (s.setResetPin pin) r
  have hpass := contactPass_frame ((s.setResetPin pin).restart r) inputs
  have hsaq : SameButContacts ((s.setResetPin pin).rested r).saq (((s.setResetPin pin).restart r).contactPass inputs).saq := by
    rw [← hrested.saq (by decide), contactPass_eq]
    exact setContacts_sameButContacts _ _ _ _
  have hframe : SameBut [.saq, .flx, .posted] ((s.setResetPin pin).rested r)
      (((s.setResetPin pin).restart r).contactPass inputs) :=
    (hrested.mono (by decide)).trans (hpass.mono (by decide))
  rw [← hpass.flx (by decide)] at hflx
  generalize ((s.setResetPin pin).restart r).contactPass inputs = t at *
  refine ⟨t, hexec, hframe.rtr (by decide), hframe.clock, ?_, ?_, hframe.pot (by decide), hframe.exm (by decide),
    hframe.aim (by decide), hframe.lmc (by decide), fun l => ?_, hsaq.channels, hsaq.items, hsaq.converting, hsaq.pairLeft,
    hsaq.passLeft, hsaq.passTimer, hsaq.priorityTimer, hsaq.contactTimer, hcontact, hflx, hposted, hframe.pending⟩
  · rintro _ rfl
    exact hframe.trk (by decide)
  · rintro _ rfl
    exact hframe.znc (by decide)
  · rw [State.link, hframe.links (by decide)]
    cases l <;> rfl

/-- Settles O29. -/
theorem resetRequestsThePinAndTheReply : Obligations.ResetRequestsThePinAndTheReply := by
  refine ⟨fun s => ⟨fun hidle => ?_, fun hidle => ?_⟩, fun s => ⟨?_, fun inputs hdue => ?_, fun b hsending => ?_,
    fun inputs => ⟨_, rfl, ?_⟩, fun inputs => ?_⟩⟩
  · exact exec_done rfl (show emptyBody [] = some () from rfl) hidle (by decide) rfl
  · refine exec_done rfl (show emptyBody [] = some () from rfl) hidle (by decide) ?_
    rw [State.clearResetCauses, received_rtr]
  · refine congrArg Host.Outcome.next ?_
    cases s.resetPin <;> rfl
  · exact congrArg Host.Outcome.next (if_neg fun h => hdue ((resetDue_iff s).mp h))
  · rw [exec_replyEnd s .machine (r := ⟨0x1D, .ok, b⟩) hsending]
    exact congrArg Host.Outcome.next (if_pos rfl)
  · rw [State.resetFrom, (contactPass_frame _ _).resetPin, (restart_frame _ _).resetPin]
    cases s.resetPin <;> rfl
  · obtain ⟨r, hexec⟩ := exec_externalReset s inputs
    refine ⟨_, hexec, ?_⟩
    rw [(contactPass_frame _ _).resetPin, (restart_frame _ _).resetPin]
    rfl

end Sys2Proof.Machine

/-! Proofs about the line mode (chapter 9): its changes, the requests that make them, and what LMC takes. -/

namespace Sys2Proof.Machine

section Modes

variable (s : State)

/-! ### A change of the line mode (R155) -/

theorem changeMode_saq (m : LineMode) (ph : ChangeoverPhase) (cause : ModeCause) :
    (s.changeMode m ph cause).saq = if s.lmc.mode = .maintenance then s.endForces.saq else s.saq := by
  unfold State.changeMode
  dsimp only
  rw [post_saq, event_saq, setLmc_saq]
  split <;> rfl

theorem changeMode_posted_eq (m : LineMode) (ph : ChangeoverPhase) (cause : ModeCause) : (s.changeMode m ph cause).posted =
    s.posted ++ (if s.lmc.mode = .maintenance then releaseTransitions s.saq else []) ++ modeArrivals m := by
  unfold State.changeMode
  dsimp only
  rw [post_posted, event_posted, setLmc_posted]
  split
  · rw [endForces_posted]
  · rw [List.append_nil]

theorem changeMode_link (m : LineMode) (ph : ChangeoverPhase) (cause : ModeCause) (l : Link) :
    (s.changeMode m ph cause).link l = (s.link l).copyEvent ⟨s.clock, .modeChanged s.lmc.mode m ph cause⟩ := by
  have hframe : SameBut [.saq, .posted] s (if s.lmc.mode = .maintenance then s.endForces else s) :=
    (endForces_frame s).ite (.refl _ s)
  unfold State.changeMode
  dsimp only
  rw [post_link, event_link, setLmc_clock, hframe.clock, hframe.lmc (by decide)]
  exact congrArg (LinkState.copyEvent _) (congrArg (PerLink.get · l) (hframe.links (by decide)))

theorem inMode_eq (k : Lmc) (m : LineMode) (ph : ChangeoverPhase) : k.inMode m ph = { k with
    mode := m, phase := ph, setbackPending := false,
    idleTimer := if m = .idle ∧ k.idleTimeout ≠ 0 then .running (k.idleTimeout * 60000) else .stopped } := by
  unfold Lmc.inMode Lmc.idleStart
  by_cases hm : m = .idle
  · by_cases h : k.idleTimeout = 0
    · simp [hm, h]
    · simp [hm, h, Timer.start, Config.minuteMs]
  · simp [hm]

/-- R43, R155: leaving MAINTENANCE frees every channel and every contact, and posts the transitions of that. -/
theorem changeMode_maintenance (m : LineMode) (ph : ChangeoverPhase) (cause : ModeCause) (h : s.lmc.mode = .maintenance) :
    (∀ c, (s.changeMode m ph cause).saq.channel c = { s.saq.channel c with forced := none }) ∧
    (∀ c, (s.changeMode m ph cause).saq.contact c = { s.saq.contact c with forced := none }) ∧
    (s.changeMode m ph cause).saq.items = s.saq.items ∧
    (s.changeMode m ph cause).posted = s.posted ++ releaseTransitions s.saq ++ modeArrivals m := by
  rw [changeMode_saq, changeMode_posted_eq, if_pos h, if_pos h]
  exact ⟨endForces_channel s, endForces_contact s, endForces_items s, rfl⟩

/-- Settles O16. -/
theorem aModeChangeIsHandedOn : Obligations.AModeChangeIsHandedOn := by
  intro s m ph cause
  refine ⟨changeMode_frame s m ph cause, (changeMode_lmc s m ph cause).trans (inMode_eq _ _ _), changeMode_link s m ph cause,
    fun h => ⟨?_, ?_⟩, fun h => changeMode_maintenance s m ph cause h⟩
  · rw [changeMode_saq, if_neg h]
  · exact changeMode_posted s m ph cause h

/-! ### The readiness test (R157, R169) -/

theorem testReadiness_of_not_running (h : s.lmc.mode ≠ .warmup) (hc : ¬(s.lmc.mode = .changeover ∧ s.lmc.phase = .retarget)) :
    s.testReadiness = s := by
  unfold State.testReadiness
  split
  next hmode => exact absurd hmode h
  next hmode hphase => exact absurd ⟨hmode, hphase⟩ hc
  next => rfl

theorem testReadiness_warmup (h : s.lmc.mode = .warmup) : s.testReadiness =
    if s.lmc.view.ready = true ∧ s.lmc.awaited = [] then s.changeMode .production .none .readiness else s := by
  rw [State.testReadiness, h]

theorem testReadiness_retarget (h : s.lmc.mode = .changeover) (hph : s.lmc.phase = .retarget) : s.testReadiness =
    if s.lmc.view.ready = true ∧ s.lmc.view.waveBankActive = true ∧ s.lmc.awaited = [] then
      s.changeMode .production .none .readiness
    else s := by
  rw [State.testReadiness, h, hph]

/-- The test changes nothing, or the line mode to PRODUCTION. -/
theorem testReadiness_cases : s.testReadiness = s ∨
    (s.lmc.mode ≠ .maintenance ∧ s.testReadiness = s.changeMode .production .none .readiness) := by
  unfold State.testReadiness
  split
  next h =>
    split
    · exact .inr ⟨by simp [h], rfl⟩
    · exact .inl rfl
  next h _ =>
    split
    · exact .inr ⟨by simp [h], rfl⟩
    · exact .inl rfl
  next => exact .inl rfl

theorem testReadiness_not_ready (h : s.lmc.view.ready = false) : s.testReadiness = s := by
  unfold State.testReadiness
  split <;> simp [h]

theorem testReadiness_other_wave_bank (h : s.lmc.mode = .changeover) (hbank : s.lmc.view.waveBankActive = false) :
    s.testReadiness = s := by
  unfold State.testReadiness
  rw [h]
  split <;> simp_all

theorem enterWarmup_eq (cause : ModeCause) : s.enterWarmup cause =
    if s.lmc.view.ready = true ∧ s.lmc.awaited = [] then
      (s.changeMode .warmup .none cause).changeMode .production .none .readiness
    else s.changeMode .warmup .none cause := by
  rw [State.enterWarmup, testReadiness_warmup _ (changeMode_mode _ _ _ _), changeMode_lmc]
  rfl

/-! ### WARMUP and START (R156) -/

variable {s} {taken : LineMode → Bool} {kind : Byte}

theorem warmupRequest_wrongMode (h : taken s.lmc.mode = false) : s.warmupRequest taken kind = s.refuse .wrongMode := if_pos h

theorem isValid_iff (b : Bank) : b.isValid = true ↔ ∃ i, b = .valid i := by cases b <;> simp [Bank.isValid]

theorem warmupRequest_invalid (h : taken s.lmc.mode = true) (hbank : ∀ i, s.lmc.bank s.lmc.active ≠ .valid i) :
    s.warmupRequest taken kind = s.refuse .invalid := by
  have hinvalid : s.lmc.activeBank.isValid = false := by
    rw [Bool.eq_false_iff]
    intro hvalid
    obtain ⟨i, hi⟩ := (isValid_iff _).mp hvalid
    exact hbank i hi
  rw [State.warmupRequest, if_neg (by simp [h]), if_pos hinvalid]

theorem warmupRequest_valid (h : taken s.lmc.mode = true) {i : BankItems} (hbank : s.lmc.bank s.lmc.active = .valid i) :
    s.warmupRequest taken kind =
      if s.trk.trackUnknown = true then s.refuse .busy else (s.enterWarmup (.request kind)).done := by
  have hvalid : s.lmc.activeBank.isValid = true := (isValid_iff _).mpr ⟨i, hbank⟩
  rw [State.warmupRequest, if_neg (by simp [h]), if_neg (by simp [hvalid])]

/-- What a WARMUP or START that is carried out by `warmupRequest` comes to. -/
theorem exec_warmupRequest {c : Instr} {modes : List LineMode}
    (hexec : exec c s = .next (s.serve .machine kind [.machine] (emptyBody []) fun _ s => s.warmupRequest taken kind))
    (htaken : ∀ m, taken m = decide (m ∈ modes)) (hidle : (s.link .machine).sending = none) :
    (s.lmc.mode ∉ modes → exec c s = .next ((s.received .machine).reply .machine kind .wrongMode [])) ∧
    (s.lmc.mode ∈ modes →
      ((∀ i, s.lmc.bank s.lmc.active ≠ .valid i) →
        exec c s = .next ((s.received .machine).reply .machine kind .invalid [])) ∧
      (∀ i, s.lmc.bank s.lmc.active = .valid i →
        (s.trk.trackUnknown = true → exec c s = .next ((s.received .machine).reply .machine kind .busy [])) ∧
        (s.trk.trackUnknown = false → exec c s = .next
          ((if s.lmc.view.ready = true ∧ s.lmc.awaited = [] then
              ((s.received .machine).changeMode .warmup .none (.request kind)).changeMode .production .none .readiness
            else (s.received .machine).changeMode .warmup .none (.request kind)).reply .machine kind .ok [])))) := by
  have hargs : emptyBody [] = some () := rfl
  have htakes (h : s.lmc.mode ∈ modes) : taken (s.received .machine).lmc.mode = true := by simp [htaken, h]
  refine ⟨fun h => ?_, fun h => ⟨fun hbank => ?_, fun i hbank => ⟨fun hunknown => ?_, fun hknown => ?_⟩⟩⟩
  · exact exec_refused hexec hargs hidle (by decide) (warmupRequest_wrongMode (by simp [htaken, h]))
  · exact exec_refused hexec hargs hidle (by decide) (warmupRequest_invalid (htakes h) (by simpa using hbank))
  · refine exec_refused hexec hargs hidle (by decide)
      ((warmupRequest_valid (htakes h) (i := i) (by simpa using hbank)).trans (if_pos ?_))
    simpa using hunknown
  · refine exec_done hexec hargs hidle (by decide)
      ((warmupRequest_valid (htakes h) (i := i) (by simpa using hbank)).trans ((if_neg ?_).trans (congrArg State.done ?_)))
    · simp [hknown]
    · rw [enterWarmup_eq, received_lmc]

/-- Settles O17: WARMUP and START differ in their modes and their kind byte. -/
theorem warmupAndStartAreChecked : Obligations.WarmupAndStartAreChecked := by
  rintro s early c k hck hidle _ rfl
  cases early with
  | true =>
    cases hck
    exact exec_warmupRequest rfl (fun m => by cases m <;> rfl) hidle
  | false =>
    cases hck
    exact exec_warmupRequest rfl (fun m => by cases m <;> rfl) hidle

/-! ### STOP, STOP_HEAT and MAINTENANCE (R156, R163) -/

theorem stopRequest_eq : s.stopRequest =
    if s.lmc.mode = .production then
      (if s.trk.table = [] then (s.changeMode .drain .none (.request 0x0E)).changeMode .idle .none .tableEmpty
        else s.changeMode .drain .none (.request 0x0E)).done
    else if s.lmc.mode = .changeover then s.refuse .busy else s.refuse .wrongMode := by
  have htrk : (s.changeMode .drain .none (.request 0x0E)).trk = s.trk := (changeMode_frame s _ _ _).trk (by decide)
  unfold State.stopRequest
  dsimp only
  rw [htrk]
  cases s.lmc.mode <;> rfl

theorem takesStopHeat_iff (m : LineMode) : takesStopHeat m = true ↔ m ∈ [.idle, .setback, .warmup] := by cases m <;> decide

theorem leaveMaintenance_eq (h : s.lmc.mode = .maintenance) : ∀ u,
    u = s.changeMode (if s.lmc.safeHeld then .safe else .standby) .none (.request 0x11) →
    s.leaveMaintenance = (u.setLmc { u.lmc with safeHeld := false }).done := by
  rintro _ rfl
  exact if_pos h

/-- Settles O18. -/
theorem stopsAndMaintenanceGoByTheMode : Obligations.StopsAndMaintenanceGoByTheMode := by
  intro s
  have hargs : emptyBody [] = some () := rfl
  refine ⟨?_, ?_, ?_, fun hidle hmode => ?_, fun hidle hmode => ?_⟩
  · rintro _ hidle rfl
    have heq := stopRequest_eq (s := s.received .machine)
    rw [received_lmc, received_trk] at heq
    split
    next h => exact exec_done rfl hargs hidle (by decide) (heq.trans (if_pos h))
    next h =>
      replace heq := heq.trans (if_neg h)
      split
      next hc => exact exec_refused rfl hargs hidle (by decide) (heq.trans (if_pos hc))
      next hc => exact exec_refused rfl hargs hidle (by decide) (heq.trans (if_neg hc))
  · rintro _ hidle rfl
    split
    next h => exact exec_done rfl hargs hidle (by decide) (if_pos (by rwa [received_lmc, takesStopHeat_iff]))
    next h => exact exec_refused rfl hargs hidle (by decide) (if_neg (by rwa [received_lmc, takesStopHeat_iff]))
  · rintro _ hidle rfl
    split
    next h => exact exec_done rfl hargs hidle (by decide) (if_pos (by rwa [received_lmc]))
    next h => exact exec_refused rfl hargs hidle (by decide) (if_neg (by rwa [received_lmc]))
  · exact exec_refused rfl hargs hidle (by decide) (if_neg (by rwa [received_lmc]))
  · have hleft := leaveMaintenance_eq (s := s.received .machine) (by rwa [received_lmc]) _ rfl
    have hexec : exec (.leaveMaintenance .machine []) s = _ := exec_done rfl hargs hidle (by decide) hleft
    obtain ⟨hchannel, hcontact, -, hposted⟩ := changeMode_maintenance (s.received .machine)
      (if (s.received .machine).lmc.safeHeld then .safe else .standby) .none (.request 0x11) (by rwa [received_lmc])
    have hlmc := changeMode_lmc (s.received .machine) (if (s.received .machine).lmc.safeHeld then .safe else .standby) .none
      (.request 0x11)
    have hframe := changeMode_frame (s.received .machine) (if (s.received .machine).lmc.safeHeld then .safe else .standby) .none
      (.request 0x11)
    rw [received_saq] at hchannel hcontact hposted
    generalize (s.received .machine).changeMode (if (s.received .machine).lmc.safeHeld then .safe else .standby) .none
      (.request 0x11) = u at *
    refine ⟨_, hexec, ?_, ?_, hchannel, hcontact, ?_, by simp⟩
    · exact ((((received_frame s .machine).mono (by decide)).trans (hframe.mono (by decide))).trans
        ((setLmc_frame u _).mono (by decide))).trans ((reply_frame _ _ _ _ _).mono (by decide))
    · rw [reply_lmc, setLmc_lmc, hlmc, received_lmc, inMode_eq]
      cases s.lmc.safeHeld <;> rfl
    · rintro m rfl
      rw [received_lmc] at hposted
      exact hposted

end Modes

end Sys2Proof.Machine

/-! Proofs about the banks, supervision and the arrivals that LMC takes (chapter 9). -/

namespace Sys2Proof.Machine

section Banks

variable {s : State}

/-! ### Validation and the swap (R166 to R170) -/

theorem failing?_eq (i : BankItems) (pumpSafe : Nat) : i.failing? pumpSafe =
    if i.maxLength < i.minLength then some [0, 164, 6, 1]
    else if (i.potSetpoint : Int) - i.potBand < pumpSafe then some [0, 164, 4, 0]
    else if i.hLo ≤ i.hDip then some [0, 164, 17, 1]
    else if i.waveSpeed ≤ i.dipSpeed then some [0, 164, 16, 1]
    else none := rfl

theorem validateBank_empty (h : s.lmc.bank s.lmc.active.other = .empty) : s.validateBank = s.refuse .invalid := by
  rw [State.validateBank, h]

theorem validateBank_valid {i : BankItems} (h : s.lmc.bank s.lmc.active.other = .valid i) : s.validateBank = s.done := by
  rw [State.validateBank, h]

theorem validateBank_failing {i : BankItems} {name : List Byte} (h : s.lmc.bank s.lmc.active.other = .unchecked i)
    (hfail : i.failing? s.pot.items.pumpSafe = some name) : s.validateBank = ⟨.invalid, name, s⟩ := by
  simp only [State.validateBank, h, hfail]

theorem validateBank_sound {i : BankItems} (h : s.lmc.bank s.lmc.active.other = .unchecked i)
    (hsound : i.failing? s.pot.items.pumpSafe = none) : s.validateBank = (s.setBank s.lmc.active.other (.valid i)).done := by
  simp only [State.validateBank, h, hsound]

theorem exec_validateBank (hidle : (s.link .machine).sending = none) : ∀ r, r = (s.received .machine).validateBank →
    exec (.validateBank .machine []) s = .next (r.state.reply .machine 0x09 r.status r.body) := by
  rintro _ rfl
  exact congrArg Host.Outcome.next (serve_some s .machine 0x09 [.machine] _ () hidle (by decide))

theorem exec_validateBank_failing {i : BankItems} {name : List Byte} (hidle : (s.link .machine).sending = none)
    (h : s.lmc.bank s.lmc.active.other = .unchecked i) (hfail : i.failing? s.pot.items.pumpSafe = some name) :
    exec (.validateBank .machine []) s = .next ((s.received .machine).reply .machine 0x09 .invalid name) := by
  rw [exec_validateBank hidle _ rfl, validateBank_failing (i := i) (name := name) (by simpa using h) (by simpa using hfail)]

theorem pendingBoards_eq_zero_iff (t : Trk) : t.pendingBoards = 0 ↔ ∀ r ∈ t.table, r.decision ≠ .pending := by
  simp [Trk.pendingBoards, List.countP_eq_zero]

theorem swapBank_refusesMode (h : s.lmc.mode ∈ [.drain, .safe, .maintenance]) : s.swapBank = s.refuse .wrongMode := by
  unfold State.swapBank
  cases hmode : s.lmc.mode
  case drain | safe | maintenance => rfl
  all_goals exact absurd h (by rw [hmode]; decide)

theorem swapBank_changeover (h : s.lmc.mode = .changeover) : s.swapBank = s.refuse .busy := by
  rw [State.swapBank, h]

theorem swapBank_takes (h : s.lmc.mode ∉ [.drain, .safe, .maintenance, .changeover]) : s.swapBank =
    if (s.lmc.bank s.lmc.active.other).isValid = true then
      (if s.lmc.mode = .production then s.startChangeover else s.swapBanks .immediate).done
    else s.refuse .invalid := by
  unfold State.swapBank
  cases hmode : s.lmc.mode
  case drain | safe | maintenance | changeover => exact absurd h (by rw [hmode]; decide)
  all_goals rfl

theorem startChangeover_eq : s.startChangeover =
    if s.trk.pendingBoards = 0 then (s.changeMode .changeover .drainOld (.request 0x0A)).enterRetarget
    else s.changeMode .changeover .drainOld (.request 0x0A) := by
  have htrk : (s.changeMode .changeover .drainOld (.request 0x0A)).trk = s.trk := (changeMode_frame s _ _ _).trk (by decide)
  unfold State.startChangeover
  dsimp only
  rw [htrk]

theorem cancelSwap_changeover (h : s.lmc.mode = .changeover) : s.cancelSwap =
    if s.lmc.phase = .drainOld then (s.changeMode .production .none (.request 0x0B)).done else s.refuse .tooLate :=
  if_neg (not_not_intro h)

theorem enterRetarget_eq : s.enterRetarget =
    ((s.setLmc { s.lmc with phase := .retarget }).event (.modeChanged .changeover .changeover .retarget .allGated)).swapBanks
      .changeover := rfl

end Banks

/-- Settles O15. -/
theorem banksAreValidatedAndSwapped : Obligations.BanksAreValidatedAndSwapped := by
  intro s
  have hargs : emptyBody [] = some () := rfl
  refine ⟨?_, ?_, ?_⟩
  · rintro _ hidle rfl
    have hexec := exec_validateBank hidle _ rfl
    refine ⟨fun h => ?_, fun i h => ?_, fun i h => ?_⟩
    · rw [hexec, validateBank_empty (by simpa using h)]
      rfl
    · rw [hexec, validateBank_valid (i := i) (by simpa using h)]
      rfl
    · split
      next h1 => exact exec_validateBank_failing hidle h ((failing?_eq _ _).trans (if_pos h1))
      next h1 =>
        split
        next h2 => exact exec_validateBank_failing hidle h (by rw [failing?_eq, if_neg h1, if_pos h2])
        next h2 =>
          split
          next h3 => exact exec_validateBank_failing hidle h (by rw [failing?_eq, if_neg h1, if_neg h2, if_pos h3])
          next h3 =>
            split
            next h4 => exact exec_validateBank_failing hidle h (by rw [failing?_eq, if_neg h1, if_neg h2, if_neg h3, if_pos h4])
            next h4 =>
              rw [hexec, validateBank_sound (i := i) (by simpa using h)
                (by rw [received_pot, failing?_eq, if_neg h1, if_neg h2, if_neg h3, if_neg h4]), received_lmc]
              rfl
  · rintro _ hidle rfl
    refine ⟨fun h => ?_, fun h => ?_, fun h => ⟨fun hinvalid => ?_, fun i hvalid => ?_⟩⟩
    · exact exec_refused rfl hargs hidle (by decide) (swapBank_refusesMode (by rwa [received_lmc]))
    · exact exec_refused rfl hargs hidle (by decide) (swapBank_changeover (by rwa [received_lmc]))
    all_goals have heq := swapBank_takes (s := s.received .machine) (by rwa [received_lmc])
    all_goals rw [received_lmc] at heq
    · refine exec_refused rfl hargs hidle (by decide) (heq.trans (if_neg fun hv => ?_))
      obtain ⟨i, hi⟩ := (isValid_iff _).mp hv
      exact hinvalid i hi
    · replace heq := heq.trans (if_pos ((isValid_iff _).mpr ⟨i, hvalid⟩))
      rintro _ rfl _ rfl
      refine ⟨?_, fun hmode => ?_⟩
      · rintro hmode _ rfl
        rw [if_pos hmode, startChangeover_eq, received_trk] at heq
        refine ⟨fun hpending => ?_, fun hnone => ?_⟩
        · have hsome : s.trk.pendingBoards ≠ 0 := by
            obtain ⟨r, hr, hdecision⟩ := hpending
            exact fun hzero => (pendingBoards_eq_zero_iff _).mp hzero r hr hdecision
          rw [if_neg hsome] at heq
          exact exec_done rfl hargs hidle (by decide) heq
        · rw [if_pos ((pendingBoards_eq_zero_iff _).mpr hnone)] at heq
          refine exec_done rfl hargs hidle (by decide) (heq.trans (congrArg State.done ?_))
          rw [enterRetarget_eq, changeMode_lmc, received_lmc]
          rfl
      · rw [if_neg hmode] at heq
        refine exec_done rfl hargs hidle (by decide) (heq.trans ?_)
        rw [State.swapBanks, received_lmc]
        rfl
  · rintro _ hidle rfl
    refine ⟨fun h => ?_, fun h => ⟨fun hph => ?_, fun hph => ?_⟩⟩
    · exact exec_refused rfl hargs hidle (by decide) (if_pos (by rwa [received_lmc]))
    all_goals have heq := cancelSwap_changeover (s := s.received .machine) (by rwa [received_lmc])
    all_goals rw [received_lmc] at heq
    · exact exec_done rfl hargs hidle (by decide) (heq.trans (if_pos hph))
    · exact exec_refused rfl hargs hidle (by decide) (heq.trans (if_neg hph))

section Supervision

variable {s : State}

/-! ### Supervision (R171) -/

theorem superviseFrame_eq : s.superviseFrame = (s.setLmc { s.lmc with
      supervision := { s.lmc.supervision with timer := .running s.lmc.supervision.window, expired := false } }).post
    (if s.lmc.supervision.expired then [.alarmEnd 36] else []) := by
  unfold State.superviseFrame
  dsimp only
  split
  · rfl
  · rw [post_nil]
    rfl

end Supervision

/-- Settles O20. -/
theorem supervisionIsKept : Obligations.SupervisionIsKept := by
  refine fun s => ⟨?_, ?_, fun h => ?_, fun h => ?_⟩
  · rintro hi lo _ rfl _ hidle rfl
    have hargs : numberBody 2 [hi, lo] = some (256 * hi.toNat + lo.toNat) := by
      rw [← natOf_two]
      rfl
    refine ⟨fun hout => ?_, fun hlow hhigh => ?_⟩
    · exact exec_refused rfl hargs hidle (by decide) (if_pos hout)
    · refine exec_done rfl hargs hidle (by decide) ((if_neg (by omega)).trans ?_)
      rw [received_lmc]
      rfl
  · rintro _ rfl
    refine ⟨fun h => congrArg Host.Outcome.next (if_neg (by simp [h])), fun h => congrArg Host.Outcome.next ?_⟩
    exact (if_pos h).trans superviseFrame_eq
  · exact congrArg Host.Outcome.next (if_pos h)
  · exact congrArg Host.Outcome.next (if_neg (by simp [h]))

section Arrivals

variable {s : State}

/-! ### The arrivals that LMC takes (R157 to R160, R168, R169) -/

theorem view_ready_iff (v : View) : v.ready = true ↔
    v.zones.z1 = true ∧ v.zones.z2 = true ∧ v.zones.z3 = true ∧ v.pot = true ∧ v.wave = .on := by
  simp [View.ready, and_assoc]

theorem updatesView_iff (a : Instr) : updatesView a = true ↔ ∃ r, a = .readinessArrival r := by
  unfold updatesView
  split
  next r => simp
  next h => simpa using h

/-- R169: a change of active bank that the test awaits. -/
theorem bankTaken_of_mem {c : Instr} {n : Nat} (h : c ∈ s.lmc.awaited) : s.bankTaken c n = (s.bankActed c n).testReadiness :=
  if_pos h

theorem bankTaken_of_not_mem {c : Instr} {n : Nat} (h : c ∉ s.lmc.awaited) : s.bankTaken c n = s := if_neg h

theorem takeBank_lmc (b : BankBlock) : (s.takeBank b).lmc = s.lmc := by
  cases b
  · exact (evaluateZones_frame s _).lmc (by decide)
  · exact (potBank_frame s).lmc (by decide)
  · exact (evalSupplyEmpty_frame s).lmc (by decide)
  · exact (evalReady_frame s).lmc (by decide)

theorem exec_activeBankArrival {b : BankBlock} {bank : BankId} {c : Instr} (hb : b = .znc ∨ b = .pot)
    (hc : c = .activeBankArrival b bank) :
    exec c s = .next (((s.taken c).takeBank b).bankTaken c (s.taken c).posted.length) := by
  subst hc
  rcases hb with rfl | rfl <;> rfl

theorem exec_lineModeArrival {b : ModeBlock} {b' : BankBlock} {m : LineMode} {c : Instr}
    (hb : (b = .znc ∧ b' = .znc) ∨ (b = .pot ∧ b' = .pot)) (hc : c = .lineModeArrival b m) :
    exec c s = .next (((s.taken c).takeMode b m).modeTaken b' (s.taken c).posted.length) := by
  subst hc
  rcases hb with ⟨rfl, rfl⟩ | ⟨rfl, rfl⟩ <;> rfl

theorem modeTaken_of_awaited {b : BankBlock} {n : Nat} (h : ∃ k, Instr.activeBankArrival b k ∈ s.lmc.awaited) :
    s.modeTaken b n = s.setLmc (s.lmc.awaitCaused s.posted n) := if_pos ((awaits_iff _ _).mpr h)

theorem idleExpired_eq : s.idleExpired =
    if s.aim.unackCount .alarm + s.aim.unackCount .warn ≠ 0 then
      s.setLmc { s.lmc with idleTimer := if s.lmc.idleTimeout = 0 then .stopped else .running (s.lmc.idleTimeout * 60000) }
    else if s.lmc.view.feeding = true then s.setLmc { s.lmc with setbackPending := true, idleTimer := .stopped }
    else s.changeMode .setback .none .idleTimeout := rfl

end Arrivals

/-- Settles O21. -/
theorem lineModeArrivalsAreActedOn : Obligations.LineModeArrivalsAreActedOn := by
  refine ⟨fun v => ⟨view_ready_iff v, updatesView_iff, fun _ _ => rfl, fun _ => rfl, fun _ _ => rfl⟩, fun s =>
    ⟨fun r => rfl, ?_, ?_, ⟨fun hmode hready hawaited => ?_, fun hmode hphase hready hbank hawaited => ?_,
      testReadiness_not_ready s, testReadiness_awaited s, testReadiness_other_wave_bank s, testReadiness_of_not_running s⟩,
      ?_, ?_, rfl⟩, fun s => ⟨fun hmode htimer => ?_, fun hstopped => ?_, ?_⟩⟩
  · rintro b c bank hb hc _ rfl
    have hlmc : ((s.taken c).takeBank b).lmc = s.lmc := takeBank_lmc b
    refine ⟨fun h => ?_, ?_⟩
    · rw [exec_activeBankArrival hb hc, bankTaken_of_not_mem (by rwa [hlmc])]
    · rintro h _ rfl
      rw [exec_activeBankArrival hb hc, bankTaken_of_mem (by rwa [hlmc]), State.bankActed, hlmc]
      rfl
  · rintro b b' m c hb hc _ rfl
    have hlmc : ((s.taken c).takeMode b m).lmc = s.lmc := takeMode_lmc _ b m
    refine ⟨fun h => ?_, ?_⟩
    · rw [exec_lineModeArrival hb hc, modeTaken_of_not_awaited _ _ _ (by rwa [hlmc])]
    · rintro h _ rfl
      rw [exec_lineModeArrival hb hc, modeTaken_of_awaited (by rwa [hlmc]), hlmc]
      rfl
  · rw [testReadiness_warmup s hmode, if_pos ⟨hready, hawaited⟩]
  · rw [testReadiness_retarget s hmode hphase, if_pos ⟨hready, hbank, hawaited⟩]
  · rintro tr _ rfl
    rfl
  · rintro n _ rfl
    rfl
  · exact congrArg Host.Outcome.next ((if_pos ⟨hmode, htimer⟩).trans idleExpired_eq)
  · exact congrArg Host.Outcome.next (if_neg hstopped)
  · rintro st _ rfl
    rfl

end Sys2Proof.Machine

/-! Proofs about the preheat zones (chapter 4): their setpoints, their samples and the PREHEAT inhibit. -/

namespace Sys2Proof.Machine

section ForZones

variable (s : State)

/-! ### Every zone in turn (R76) -/

variable (f : Zone → ZoneRec → ZoneRec)

theorem forZones_zone (z : Zone) : (s.forZones f).znc.zones.get z = f z (s.znc.zones.get z) := by
  cases z <;> rfl

end ForZones

section Evaluate

/-! ### What an evaluation makes of a zone record (R66, R72) -/

theorem zoneEffective_cases (m : LineMode) (i : BankItems) (z : Zone) :
    zoneEffective m .empty z = 0 ∧
    (m ∈ [.warmup, .production, .changeover, .drain, .idle] → zoneEffective m (.valid i) z = i.zoneSetpoint.get z) ∧
    (m = .setback → zoneEffective m (.valid i) z = i.zoneSetpoint.get z - i.zoneSetback) ∧
    (m ∈ [.standby, .safe, .maintenance] → zoneEffective m (.valid i) z = 0) := by
  refine ⟨?_, fun h => ?_, fun h => ?_, fun h => ?_⟩
  · cases m <;> simp [zoneEffective, Bank.zoneSetpoint, Bank.held?]
  · simp only [List.mem_cons, List.not_mem_nil, or_false] at h
    rcases h with rfl | rfl | rfl | rfl | rfl <;> rfl
  · subst h
    rfl
  · simp only [List.mem_cons, List.not_mem_nil, or_false] at h
    rcases h with rfl | rfl | rfl <;> rfl

variable {r : ZoneRec} {sp band : Nat} {m : LineMode} {preheat : Bool}

theorem evaluate_fault (h : r.state = .fault) : r.evaluate sp band m preheat =
    { r with setpoint := sp, band := band, armed := r.armed && decide (r.setpoint = sp) } := by
  unfold ZoneRec.evaluate
  dsimp only
  rw [if_pos h]
  by_cases hsp : r.setpoint = sp
  · simp [hsp]
  · simp [hsp]

theorem evaluate_off (h : r.state ≠ .fault) (hsp : sp = 0) :
    r.evaluate sp band m preheat = { r with setpoint := sp, band := band }.toOff := by
  unfold ZoneRec.evaluate
  dsimp only
  rw [if_neg h, if_pos hsp]

theorem evaluate_start (h : r.state = .off) (hsp : sp ≠ 0) : r.evaluate sp band m preheat = { r with
    setpoint := sp, band := band, state := unqualified m preheat, integral := 0, readyCount := 0, outCount := 0,
    armed := false } := by
  unfold ZoneRec.evaluate
  dsimp only
  rw [if_neg (by simp [h]), if_neg hsp, if_pos h]

theorem evaluate_changed (h : r.state ≠ .fault) (hoff : r.state ≠ .off) (hsp : sp ≠ 0)
    (hchanged : r.setpoint ≠ sp ∨ r.band ≠ band) : r.evaluate sp band m preheat = { r with
    setpoint := sp, band := band, state := unqualified m preheat, readyCount := 0, outCount := 0, armed := false } := by
  unfold ZoneRec.evaluate
  dsimp only
  rw [if_neg h, if_neg hsp, if_neg hoff, if_pos hchanged]

theorem evaluate_same (h : r.state ≠ .fault) (hoff : r.state ≠ .off) (hsp : sp ≠ 0) (hset : r.setpoint = sp)
    (hband : r.band = band) : r.evaluate sp band m preheat = { r with
    setpoint := sp, band := band,
    state := if isQualified r.state = true then qualified m else unqualified m preheat } := by
  unfold ZoneRec.evaluate
  dsimp only
  rw [if_neg h, if_neg hsp, if_neg hoff, if_neg (by simp [hset, hband])]
  split <;> rfl

/-- R66, R72: an evaluation, clause by clause. -/
theorem evaluate_clauses (r : ZoneRec) (sp band : Nat) (m : LineMode) (preheat : Bool) :
    ∀ r', r' = r.evaluate sp band m preheat →
      r'.setpoint = sp ∧ r'.band = band ∧ r'.temp = r.temp ∧ r'.tempState = r.tempState ∧ r'.overtemp = r.overtemp ∧
      (r.state = .fault → r' = { r with
        setpoint := r'.setpoint, band := r'.band, armed := r.armed && decide (r.setpoint = r'.setpoint) }) ∧
      (r.state ≠ .fault → r'.setpoint = 0 →
        r'.state = .off ∧ r'.integral = 0 ∧ r'.computed = 0 ∧ r'.applied = 0 ∧ r'.output = false ∧ r'.armed = false ∧
        r'.readyCount = 0 ∧ r'.outCount = 0) ∧
      (r.state ≠ .fault → r'.setpoint ≠ 0 →
        r'.computed = r.computed ∧ r'.applied = r.applied ∧ r'.output = r.output ∧
        r'.integral = (if r.state = .off then 0 else r.integral) ∧
        (r.state = .off ∨ r.setpoint ≠ r'.setpoint ∨ r.band ≠ r'.band →
          r'.state = (if m = .setback ∧ preheat = false then .setback else .heating) ∧
          r'.armed = false ∧ r'.readyCount = 0 ∧ r'.outCount = 0) ∧
        (r.state ≠ .off → r.setpoint = r'.setpoint → r.band = r'.band →
          r'.armed = r.armed ∧ r'.readyCount = r.readyCount ∧ r'.outCount = r.outCount ∧
          r'.state = (if isQualified r.state = true then (if m = .setback then .setbackReady else .ready)
            else if m = .setback ∧ preheat = false then .setback else .heating))) := by
  rintro _ rfl
  by_cases hfault : r.state = .fault
  · rw [evaluate_fault hfault]
    exact ⟨rfl, rfl, rfl, rfl, rfl, fun _ => rfl, fun h => absurd hfault h, fun h => absurd hfault h⟩
  by_cases hsp : sp = 0
  · rw [evaluate_off hfault hsp]
    exact ⟨rfl, rfl, rfl, rfl, rfl, fun h => absurd h hfault, fun _ _ => ⟨rfl, rfl, rfl, rfl, rfl, rfl, rfl, rfl⟩,
      fun _ h => absurd hsp h⟩
  by_cases hoff : r.state = .off
  · rw [evaluate_start hoff hsp]
    exact ⟨rfl, rfl, rfl, rfl, rfl, fun h => absurd h hfault, fun _ h => absurd h hsp, fun _ _ => ⟨rfl, rfl, rfl,
      (if_pos hoff).symm, fun _ => ⟨rfl, rfl, rfl, rfl⟩, fun h => absurd hoff h⟩⟩
  by_cases hchanged : r.setpoint ≠ sp ∨ r.band ≠ band
  · rw [evaluate_changed hfault hoff hsp hchanged]
    refine ⟨rfl, rfl, rfl, rfl, rfl, fun h => absurd h hfault, fun _ h => absurd h hsp, fun _ _ => ⟨rfl, rfl, rfl,
      (if_neg hoff).symm, fun _ => ⟨rfl, rfl, rfl, rfl⟩, fun _ hset hband => ?_⟩⟩
    exact absurd hchanged (not_or.mpr ⟨not_not_intro hset, not_not_intro hband⟩)
  · obtain ⟨hset, hband⟩ := not_or.mp hchanged
    rw [not_not] at hset hband
    rw [evaluate_same hfault hoff hsp hset hband]
    refine ⟨rfl, rfl, rfl, rfl, rfl, fun h => absurd h hfault, fun _ h => absurd h hsp, fun _ _ => ⟨rfl, rfl, rfl,
      (if_neg hoff).symm, fun h => ?_, fun _ _ _ => ⟨rfl, rfl, rfl, rfl⟩⟩⟩
    exact (h.elim hoff fun h => hchanged h).elim

end Evaluate

section Taken

variable (s : State)

/-! ### What follows a block's taking of a mode or a bank (R169) -/

theorem testReadiness_posted : ∃ tested, s.testReadiness.posted = s.posted ++ tested := by
  rcases testReadiness_cases s with h | ⟨hmode, h⟩
  · exact ⟨[], by rw [h, List.append_nil]⟩
  · exact ⟨_, by rw [h, changeMode_posted s _ _ _ hmode]⟩

theorem bankTaken_posted (c : Instr) (n : Nat) : ∃ tested, (c ∉ s.lmc.awaited → tested = []) ∧
    (s.bankTaken c n).posted = s.posted ++ tested := by
  by_cases h : c ∈ s.lmc.awaited
  · rw [bankTaken_of_mem h]
    obtain ⟨tested, htested⟩ := testReadiness_posted (s.bankActed c n)
    exact ⟨tested, fun hnot => absurd h hnot, htested⟩
  · exact ⟨[], fun _ => rfl, by rw [bankTaken_of_not_mem h, List.append_nil]⟩

end Taken

/-- What ZNC makes of a line mode, its own or a new one, and of the arrivals that wait. -/
theorem evaluateZones_posted (s : State) (m : LineMode) : ∀ u, u = s.evaluateZones m →
    u.posted = s.posted ++ [Zone.z1, .z2, .z3].flatMap fun z =>
      if (s.znc.zones.get z).state ≠ (u.znc.zones.get z).state ∧
          (isQualified (s.znc.zones.get z).state = true ∨ isQualified (u.znc.zones.get z).state = true) then
        [.readinessArrival (.zone z (u.znc.zones.get z).state)] else [] := by
  rintro _ rfl
  refine (forZones_posted s _).trans (congrArg (s.posted ++ ·) (List.flatMap_congr fun z _ => ?_))
  rw [State.evaluateZones, forZones_zone]
  rfl

theorem evaluateZones_zone (s : State) (m : LineMode) (z : Zone) : (s.evaluateZones m).znc.zones.get z =
    (s.znc.zones.get z).evaluate (zoneEffective m (s.lmc.bank s.lmc.active) z) ((s.lmc.bank s.lmc.active).zoneBand z) m
      s.znc.preheatInhibit := forZones_zone s _ z

/-- Settles O22: a mode and a bank are evaluated alike, and differ in what the readiness test awaits after them. -/
theorem zonesTakeTheirSetpoints : Obligations.ZonesTakeTheirSetpoints := by
  refine ⟨zoneEffective_cases, fun s c m hc => ?_⟩
  have hposted := evaluateZones_posted (s.taken c) m _ rfl
  have hframe : SameBut [.znc, .posted] s ((s.taken c).evaluateZones m) :=
    ((taken_frame s c).mono (by decide)).trans (evaluateZones_frame _ m)
  have hzone (z : Zone) := evaluate_clauses _ _ _ _ _ _ (evaluateZones_zone (s.taken c) m z)
  have hznc : ((s.taken c).evaluateZones m).znc = { s.znc with zones := ((s.taken c).evaluateZones m).znc.zones } := rfl
  rw [taken_znc] at hposted hzone
  rw [taken_lmc] at hzone
  rw [taken_posted] at hposted
  generalize hu : (s.taken c).evaluateZones m = u at *
  rcases hc with hc | ⟨⟨b, hc⟩, hm⟩
  · have hexec := exec_lineModeArrival (s := s) (.inl ⟨rfl, rfl⟩) hc
    rw [State.takeMode, hu] at hexec
    have htaken : SameBut [.lmc] u (u.modeTaken .znc (s.taken c).posted.length) := modeTaken_frame u _ _
    have hlmc := modeTaken_lmc u .znc (s.taken c).posted.length
    rw [hframe.lmc (by decide)] at hlmc
    have hkeeps : SameBut [.znc, .lmc, .posted] s (u.modeTaken .znc (s.taken c).posted.length) :=
      (hframe.mono (by decide)).trans (htaken.mono (by decide))
    rw [← htaken.znc (by decide)] at hznc hzone hposted
    rw [← htaken.posted (by decide)] at hposted
    refine ⟨_, hexec, hkeeps.mono (by decide), hznc, fun _ => ⟨hkeeps, hlmc⟩, ?_,
      ⟨[], fun _ => rfl, by rwa [List.append_nil]⟩, ?_⟩
    · rintro (⟨-, hnot⟩ | ⟨⟨b, hbank⟩, -⟩)
      · rw [modeTaken_of_not_awaited u _ _ (by rwa [hframe.lmc (by decide)])]
        exact hframe
      · cases hc.symm.trans hbank
    · rintro z _ rfl _ rfl
      exact hzone z
  · have hexec := exec_activeBankArrival (s := s) (.inl rfl) hc
    rw [State.takeBank, taken_lmc, ← hm, hu] at hexec
    have htaken : SameBut [.lmc, .links, .posted] u (u.bankTaken c (s.taken c).posted.length) := bankTaken_frame u _ _
    obtain ⟨tested, hnone, htested⟩ := bankTaken_posted u c (s.taken c).posted.length
    rw [hframe.lmc (by decide)] at hnone
    rw [hposted] at htested
    rw [← htaken.znc (by decide)] at hznc hzone htested
    have hnoMode : c ≠ .lineModeArrival .znc m := by
      rw [hc]
      exact fun h => by cases h
    refine ⟨_, hexec, (hframe.mono (by decide)).trans (htaken.mono (by decide)), hznc, fun h => absurd h hnoMode, ?_,
      ⟨tested, fun h => hnone (h.resolve_left hnoMode), htested⟩, ?_⟩
    · rintro (⟨hmode, -⟩ | ⟨-, hnot⟩)
      · exact absurd hmode hnoMode
      · rw [bankTaken_of_not_mem (by rwa [hframe.lmc (by decide)])]
        exact hframe
    · rintro z _ rfl _ rfl
      exact hzone z

end Sys2Proof.Machine

/-! Proofs about the heaters, and about the samples and the inhibit of the preheat zones (chapters 4 and 6). -/

namespace Sys2Proof.Machine

section Law

/-! ### The heater law (R69) -/

/-- Rounding to nearest is off by at most half a divisor, and by no less than nothing away from zero at a tie. -/
theorem roundDiv_near (p : Int) {d : Nat} (hd : 0 < d) :
    2 * (p - roundDiv p d * d).natAbs ≤ d ∧ (2 * (p - roundDiv p d * d).natAbs = d → p.natAbs ≤ (roundDiv p d).natAbs * d) := by
  unfold roundDiv
  dsimp only
  set q := (2 * p.natAbs + d) / (2 * d) with hq
  have hdiv := Nat.div_add_mod (2 * p.natAbs + d) (2 * d)
  have hmod := Nat.mod_lt (2 * p.natAbs + d) (show 0 < 2 * d by omega)
  rw [← hq] at hdiv
  have hmul : 2 * d * q = 2 * (q * d) := by ring
  rw [hmul] at hdiv
  split
  next hneg =>
    have : (-(q : Int) * d) = -((q * d : Nat) : Int) := by push_cast; ring
    rw [this, Int.natAbs_neg, Int.natAbs_natCast]
    omega
  next hpos =>
    have : ((q : Int) * d) = ((q * d : Nat) : Int) := by push_cast; ring
    rw [this, Int.natAbs_natCast]
    omega

theorem roundDiv_nonneg {p : Int} {d : Nat} (h : 0 ≤ p) : 0 ≤ roundDiv p d := by
  unfold roundDiv
  dsimp only
  rw [if_neg (by omega)]
  exact Int.natCast_nonneg _

/-- A quotient stays at or below an integer bound. -/
theorem roundDiv_le {p : Int} {d n : Nat} (hd : 0 < d) (h : p ≤ n * d) : roundDiv p d ≤ n := by
  obtain ⟨hnear, -⟩ := roundDiv_near p hd
  by_contra hlt
  have hstep : ((n : Int) + 1) * d ≤ roundDiv p d * d := Int.mul_le_mul_of_nonneg_right (by omega) (by omega)
  rw [Int.add_mul, Int.one_mul] at hstep
  omega

theorem clampInt_le {lo hi x : Int} (h : lo ≤ hi) : clampInt lo hi x ≤ hi := by
  unfold clampInt
  split
  · exact h
  · split <;> omega

theorem le_clampInt {lo hi x : Int} (h : lo ≤ hi) : lo ≤ clampInt lo hi x := by
  unfold clampInt
  split
  · omega
  · split <;> omega

variable {kp ki sp t i : Nat}

theorem heaterLaw_saturated {e cand out : Int} (he : e = (sp : Int) - t) (hcand : cand = clampInt 0 65280 (i + e * ki))
    (hout : out = roundDiv (e * kp + cand) 256) (h : (255 < out ∧ 0 < e) ∨ (out < 0 ∧ e < 0)) :
    heaterLaw kp ki sp t i = ⟨(clampInt 0 255 (roundDiv (e * kp + i) 256)).toNat, i⟩ := by
  subst he hcand hout
  exact if_pos h

theorem heaterLaw_free {e cand out : Int} (he : e = (sp : Int) - t) (hcand : cand = clampInt 0 65280 (i + e * ki))
    (hout : out = roundDiv (e * kp + cand) 256) (h : ¬((255 < out ∧ 0 < e) ∨ (out < 0 ∧ e < 0))) :
    heaterLaw kp ki sp t i = ⟨(clampInt 0 255 out).toNat, cand.toNat⟩ := by
  subst he hcand hout
  exact if_neg h

/-- Where the output does not saturate in the direction of the error, it lies within the duty's range. -/
theorem output_range {e cand out : Int} (hrange : 0 ≤ cand ∧ cand ≤ 65280) (hout : out = roundDiv (e * kp + cand) 256)
    (h : ¬((255 < out ∧ 0 < e) ∨ (out < 0 ∧ e < 0))) : 0 ≤ out ∧ out ≤ 255 := by
  refine ⟨?_, ?_⟩
  · by_cases he : 0 ≤ e
    · rw [hout]
      exact roundDiv_nonneg (by have := Int.mul_nonneg he (Int.natCast_nonneg kp); omega)
    · omega
  · by_cases he : e ≤ 0
    · rw [hout]
      refine roundDiv_le (n := 255) (by decide) ?_
      have := Int.mul_nonneg (show 0 ≤ -e by omega) (Int.natCast_nonneg kp)
      rw [Int.neg_mul] at this
      push_cast
      omega
    · omega

/-- R70: the on time is the duty's share of the window, to the nearest millisecond. -/
theorem onTimeMs_near (n : Nat) : 2 * ((onTimeMs n : Int) * 255 - n * 2000).natAbs ≤ 255 := by
  have hnear := (roundDiv_near ((n * 2000 : Nat) : Int) (show 0 < 255 by decide)).1
  have hpos : 0 ≤ roundDiv ((n * 2000 : Nat) : Int) 255 := roundDiv_nonneg (by omega)
  have hon : (onTimeMs n : Int) = roundDiv ((n * 2000 : Nat) : Int) 255 := Int.toNat_of_nonneg hpos
  rw [hon]
  push_cast at hnear ⊢
  omega

theorem PerZone.set_get {α : Type} (p : PerZone α) (z : Zone) : p.set z (p.get z) = p := by cases z <;> rfl

end Law

/-- Settles O42. -/
theorem heatersFollowTheLawAndTheWindow : Obligations.HeatersFollowTheLawAndTheWindow := by
  refine ⟨fun p d hd => roundDiv_near p hd, ?_, fun n hn => ?_, fun s => ⟨rfl, rfl, fun z => ?_, ?_⟩⟩
  · rintro kp ki sp t i hi e he cand hcand out hout _ rfl
    have hrange : 0 ≤ cand ∧ cand ≤ 65280 := hcand ▸ ⟨le_clampInt (by decide), clampInt_le (by decide)⟩
    by_cases hsat : (255 < out ∧ 0 < e) ∨ (out < 0 ∧ e < 0)
    · have hlow : 0 ≤ clampInt 0 255 (roundDiv (e * kp + i) 256) := le_clampInt (by decide)
      have hhigh : clampInt 0 255 (roundDiv (e * kp + i) 256) ≤ 255 := clampInt_le (by decide)
      rw [heaterLaw_saturated he hcand hout hsat]
      exact ⟨by dsimp only; omega, hi, fun _ => ⟨rfl, Int.toNat_of_nonneg hlow⟩, fun h => absurd hsat h⟩
    · obtain ⟨hlow, hhigh⟩ := output_range hrange hout hsat
      rw [heaterLaw_free he hcand hout hsat, clampInt_of_mem hlow hhigh]
      exact ⟨by dsimp only; omega, by dsimp only; omega, fun h => absurd h hsat,
        fun _ => ⟨Int.toNat_of_nonneg hrange.1, Int.toNat_of_nonneg hlow⟩⟩
  · have hnear := onTimeMs_near n
    exact ⟨hnear, by omega, by omega⟩
  · refine congrArg Host.Outcome.next ?_
    by_cases h : onTimeMs (s.znc.zones.get z).applied < 2000
    · rw [if_pos h, show (s.znc.zones.get z).onEnd = _ from if_pos h]
    · rw [if_neg h, show (s.znc.zones.get z).onEnd = _ from if_neg h, PerZone.set_get]
      rfl
  · refine congrArg Host.Outcome.next ?_
    by_cases h : onTimeMs s.pot.heat.applied < 2000
    · rw [if_pos h, show s.pot.heat.onEnd = _ from if_pos h]
    · rw [if_neg h, show s.pot.heat.onEnd = _ from if_neg h]
      rfl

section Overtemperature

/-! ### Overtemperature (R74) -/

variable {limit : Int} {sp margin v : Nat} {armed holds : Bool}

theorem judgeOvertemp_armed : (judgeOvertemp limit sp margin v armed holds).armed =
    (armed || (sp != 0 && decide ((v : Int) ≤ (sp : Int) + margin))) := by
  unfold judgeOvertemp
  dsimp only
  split <;> split <;> rfl

theorem judgeOvertemp_absent (h : holds = false) : ∀ a, a = (judgeOvertemp limit sp margin v armed holds).armed →
    judgeOvertemp limit sp margin v armed holds =
      if limit < v ∨ (a = true ∧ (sp : Int) + margin < v) then ⟨a, true, true, false⟩ else ⟨a, false, false, false⟩ := by
  rintro _ rfl
  rw [judgeOvertemp_armed]
  subst h
  rfl

theorem judgeOvertemp_present (h : holds = true) : ∀ a, a = (judgeOvertemp limit sp margin v armed holds).armed →
    judgeOvertemp limit sp margin v armed holds =
      if (v : Int) ≤ limit - 50 ∧ (a = true → (v : Int) ≤ (sp : Int) + margin - 50) then ⟨a, false, false, true⟩
      else ⟨a, true, false, false⟩ := by
  rintro _ rfl
  rw [judgeOvertemp_armed]
  subst h
  rfl

/-- R74: what begins and ends the condition. -/
theorem judgeOvertemp_clauses : ∀ j, j = judgeOvertemp limit sp margin v armed holds →
    (j.armed = true ↔ armed = true ∨ (sp ≠ 0 ∧ v ≤ sp + margin)) ∧
    (holds = false → j.ended = false ∧ (j.raised = true ↔ j.holds = true) ∧
      (j.holds = true ↔ limit < v ∨ (j.armed = true ∧ sp + margin < v))) ∧
    (holds = true → j.raised = false ∧ (j.ended = true ↔ j.holds = false) ∧
      (j.holds = false ↔ (v : Int) ≤ limit - 50 ∧ (j.armed = true → (v : Int) ≤ (sp : Int) + margin - 50))) := by
  intro j hj
  have harmed := congrArg Judged.armed hj
  have hcast : ((sp : Int) + margin < v) ↔ sp + margin < v := by omega
  refine ⟨?_, fun h => ?_, fun h => ?_⟩
  · have hle : (v : Int) ≤ (sp : Int) + margin ↔ v ≤ sp + margin := by omega
    rw [harmed, judgeOvertemp_armed]
    simp [hle]
  · have heq := hj.trans (judgeOvertemp_absent h _ harmed)
    simp only [hcast] at heq
    by_cases hover : limit < v ∨ (j.armed = true ∧ sp + margin < v)
    · rw [if_pos hover] at heq
      exact ⟨congrArg Judged.ended heq, by rw [heq], iff_of_true (congrArg Judged.holds heq) hover⟩
    · rw [if_neg hover] at heq
      have hholds := congrArg Judged.holds heq
      exact ⟨congrArg Judged.ended heq, by rw [heq], iff_of_false (by simp [hholds]) hover⟩
  · have heq := hj.trans (judgeOvertemp_present h _ harmed)
    by_cases hunder : (v : Int) ≤ limit - 50 ∧ (j.armed = true → (v : Int) ≤ (sp : Int) + margin - 50)
    · rw [if_pos hunder] at heq
      exact ⟨congrArg Judged.raised heq, by rw [heq]; simp, iff_of_true (congrArg Judged.holds heq) hunder⟩
    · rw [if_neg hunder] at heq
      have hholds := congrArg Judged.holds heq
      exact ⟨congrArg Judged.raised heq, by rw [heq]; simp, iff_of_false (by simp [hholds]) hunder⟩

/-- Only one of the two arrivals follows. -/
theorem judged_arrivals {j : Judged} (hj : j = judgeOvertemp limit sp margin v armed holds) (i : AlarmId) :
    j.arrivals i = (if j.raised = true then [.alarmRaise i] else []) ++ (if j.ended = true then [.alarmEnd i] else []) := by
  obtain ⟨-, habsent, hpresent⟩ := judgeOvertemp_clauses j hj
  unfold Judged.arrivals
  cases holds with
  | false => simp [(habsent rfl).1]
  | true => simp [(hpresent rfl).1]

end Overtemperature

section ZoneSample

variable {r : ZoneRec} {kp ki margin v : Nat} {m : LineMode} {preheat : Bool} {rep : ReportedState}

/-! ### What a sample makes of a zone record (R68 to R75) -/

/-- The counts and the state alone follow from the readiness counts. -/
theorem qualify_same (r : ZoneRec) (m : LineMode) : r.qualify m = { r with
    state := (r.qualify m).state, readyCount := (r.qualify m).readyCount, outCount := (r.qualify m).outCount } := by
  unfold ZoneRec.qualify
  dsimp only
  repeat' split
  all_goals rfl

theorem qualify_unqualified (h : r.state = .heating ∨ r.state = .setback) : r.qualify m =
    if absDiff r.temp r.setpoint ≤ r.band then
      (if 20 ≤ r.readyCount + 1 then { r with state := qualified m, readyCount := 20, outCount := 0 }
        else { r with readyCount := r.readyCount + 1 })
    else { r with readyCount := 0 } := by
  unfold ZoneRec.qualify
  rcases h with h | h <;> rw [h]

theorem qualify_qualified (h : r.state = .ready ∨ r.state = .setbackReady) : r.qualify m =
    if absDiff r.temp r.setpoint ≤ r.band then { r with outCount := 0 }
    else if 4 ≤ r.outCount + 1 then { r with state := unqualified m false, readyCount := 0, outCount := 0 }
    else { r with outCount := r.outCount + 1 } := by
  unfold ZoneRec.qualify
  rcases h with h | h <;> rw [h]

/-- R73: the record that the law and the counts work on. -/
def ZoneRec.outOfFault (r : ZoneRec) (m : LineMode) (preheat : Bool) : ZoneRec :=
  if r.state = .fault then r.leaveFault m preheat else r

theorem outOfFault_same (r : ZoneRec) (m : LineMode) (preheat : Bool) : r.outOfFault m preheat = { r with
    state := (r.outOfFault m preheat).state, integral := if r.state = .fault then 0 else r.integral,
    readyCount := if r.state = .fault then 0 else r.readyCount, outCount := (r.outOfFault m preheat).outCount } := by
  unfold ZoneRec.outOfFault ZoneRec.leaveFault
  split <;> rfl

theorem work_zero (h : r.setpoint = 0) : r.work kp ki m preheat = { r.outOfFault m preheat with state := .off } := by
  have hsp : (r.outOfFault m preheat).setpoint = 0 := by rw [outOfFault_same]; exact h
  exact if_pos hsp

theorem work_inhibited (h : r.setpoint ≠ 0) : r.work kp ki m true = (r.outOfFault m true).inhibited := by
  have hsp : (r.outOfFault m true).setpoint ≠ 0 := by rw [outOfFault_same]; exact h
  exact (if_neg hsp).trans (if_pos rfl)

theorem work_law (h : r.setpoint ≠ 0) : r.work kp ki m false = ((r.outOfFault m false).law kp ki).qualify m := by
  have hsp : (r.outOfFault m false).setpoint ≠ 0 := by rw [outOfFault_same]; exact h
  exact (if_neg hsp).trans (if_neg (by decide))

/-- What the work of a usable sample leaves of the record. -/
theorem work_same (r : ZoneRec) (kp ki : Nat) (m : LineMode) (preheat : Bool) : ∀ r', r' = r.work kp ki m preheat →
    r'.temp = r.temp ∧ r'.tempState = r.tempState ∧ r'.setpoint = r.setpoint ∧ r'.band = r.band ∧ r'.armed = r.armed ∧
      r'.overtemp = r.overtemp := by
  rintro _ rfl
  by_cases h : r.setpoint = 0
  · rw [work_zero h, outOfFault_same]
    exact ⟨rfl, rfl, rfl, rfl, rfl, rfl⟩
  · cases preheat with
    | true =>
      rw [work_inhibited h, outOfFault_same]
      exact ⟨rfl, rfl, rfl, rfl, rfl, rfl⟩
    | false =>
      rw [work_law h, outOfFault_same, qualify_same]
      exact ⟨rfl, rfl, rfl, rfl, rfl, rfl⟩

theorem qualify_unqualified_clauses (h : r.state = .heating ∨ r.state = .setback) :
    (absDiff r.temp r.setpoint ≤ r.band → 20 ≤ r.readyCount + 1 →
      (r.qualify m).state = (if m = .setback then .setbackReady else .ready) ∧ (r.qualify m).readyCount = 20 ∧
      (r.qualify m).outCount = 0) ∧
    (absDiff r.temp r.setpoint ≤ r.band → r.readyCount + 1 < 20 →
      isQualified (r.qualify m).state = false ∧ (r.qualify m).readyCount = r.readyCount + 1) ∧
    (r.band < absDiff r.temp r.setpoint → isQualified (r.qualify m).state = false ∧ (r.qualify m).readyCount = 0) := by
  have hnot : isQualified r.state = false := by rcases h with h | h <;> rw [h] <;> rfl
  rw [qualify_unqualified h]
  refine ⟨fun hin hn => ?_, fun hin hn => ?_, fun hout => ?_⟩
  · rw [if_pos hin, if_pos hn]
    exact ⟨rfl, rfl, rfl⟩
  · rw [if_pos hin, if_neg (Nat.not_le.mpr hn)]
    exact ⟨hnot, rfl⟩
  · rw [if_neg (Nat.not_le.mpr hout)]
    exact ⟨hnot, rfl⟩

theorem qualify_qualified_clauses (h : r.state = .ready ∨ r.state = .setbackReady) :
    (absDiff r.temp r.setpoint ≤ r.band → (r.qualify m).state = r.state ∧ (r.qualify m).outCount = 0) ∧
    (r.band < absDiff r.temp r.setpoint → r.outCount + 1 < 4 →
      (r.qualify m).state = r.state ∧ (r.qualify m).outCount = r.outCount + 1) ∧
    (r.band < absDiff r.temp r.setpoint → 4 ≤ r.outCount + 1 →
      (r.qualify m).state = (if m = .setback then .setback else .heating) ∧ (r.qualify m).readyCount = 0 ∧
      (r.qualify m).outCount = 0) := by
  rw [qualify_qualified h]
  refine ⟨fun hin => ?_, fun hout hn => ?_, fun hout hn => ?_⟩
  · rw [if_pos hin]
    exact ⟨rfl, rfl⟩
  · rw [if_neg (Nat.not_le.mpr hout), if_neg (Nat.not_le.mpr hn)]
    exact ⟨rfl, rfl⟩
  · rw [if_neg (Nat.not_le.mpr hout), if_pos hn]
    exact ⟨by simp [unqualified], rfl, rfl⟩

theorem outOfFault_of_ne (h : r.state ≠ .fault) : r.outOfFault m preheat = r := if_neg h

theorem outOfFault_state (hsp : r.setpoint ≠ 0) (h : r.state = .fault) :
    (r.outOfFault m preheat).state = unqualified m preheat := by
  rw [ZoneRec.outOfFault, if_pos h]
  exact if_neg hsp

theorem unqualified_cases (m : LineMode) (preheat : Bool) :
    unqualified m preheat = .heating ∨ unqualified m preheat = .setback := by
  unfold unqualified
  split
  · exact .inr rfl
  · exact .inl rfl

/-- R68 to R71: the work of a usable sample where no inhibit is active, clause by clause. -/
theorem work_clauses (h : r.setpoint ≠ 0) : ∀ r', r' = r.work kp ki m false →
    (∀ x, x = heaterLaw kp ki r.setpoint r.temp (if r.state = .fault then 0 else r.integral) →
      r'.computed = x.duty ∧ r'.integral = x.integral) ∧ r'.applied = r.applied ∧ r'.output = r.output ∧
    (r.state ∈ [.heating, .setback, .fault] → ∀ n, n = (if r.state = .fault then 0 else r.readyCount) →
      (absDiff r.temp r.setpoint ≤ r.band → 20 ≤ n + 1 →
        r'.state = (if m = .setback then .setbackReady else .ready) ∧ r'.readyCount = 20 ∧ r'.outCount = 0) ∧
      (absDiff r.temp r.setpoint ≤ r.band → n + 1 < 20 → isQualified r'.state = false ∧ r'.readyCount = n + 1) ∧
      (r.band < absDiff r.temp r.setpoint → isQualified r'.state = false ∧ r'.readyCount = 0)) ∧
    (r.state ∈ [.ready, .setbackReady] →
      (absDiff r.temp r.setpoint ≤ r.band → r'.state = r.state ∧ r'.outCount = 0) ∧
      (r.band < absDiff r.temp r.setpoint → r.outCount + 1 < 4 → r'.state = r.state ∧ r'.outCount = r.outCount + 1) ∧
      (r.band < absDiff r.temp r.setpoint → 4 ≤ r.outCount + 1 →
        r'.state = (if m = .setback then .setback else .heating) ∧ r'.readyCount = 0 ∧ r'.outCount = 0)) := by
  rintro _ rfl
  have hsame := outOfFault_same r m false
  have hlaw : (r.outOfFault m false).law kp ki = { r with
      state := (r.outOfFault m false).state,
      integral := (heaterLaw kp ki r.setpoint r.temp (if r.state = .fault then 0 else r.integral)).integral,
      computed := (heaterLaw kp ki r.setpoint r.temp (if r.state = .fault then 0 else r.integral)).duty,
      readyCount := if r.state = .fault then 0 else r.readyCount, outCount := (r.outOfFault m false).outCount } := by
    rw [hsame]
    rfl
  rw [work_law h, hlaw]
  refine ⟨?_, ?_, ?_, fun hstate => ?_, fun hstate => ?_⟩
  · rintro _ rfl
    rw [qualify_same]
    exact ⟨rfl, rfl⟩
  · rw [qualify_same]
  · rw [qualify_same]
  · rintro _ rfl
    have hwarming : (r.outOfFault m false).state = .heating ∨ (r.outOfFault m false).state = .setback := by
      by_cases hfault : r.state = .fault
      · rw [outOfFault_state h hfault]
        exact unqualified_cases m false
      · rw [outOfFault_of_ne hfault]
        simpa [hfault] using hstate
    have hclauses := qualify_unqualified_clauses (r := (r.outOfFault m false).law kp ki) (m := m) hwarming
    rw [hlaw] at hclauses
    exact hclauses
  · have hfault : r.state ≠ .fault := by
      intro hfault
      simp [hfault] at hstate
    have hready : r.state = .ready ∨ r.state = .setbackReady := by simpa using hstate
    have hclauses := qualify_qualified_clauses (r := (r.outOfFault m false).law kp ki) (m := m)
      (by rw [outOfFault_of_ne hfault]; exact hready)
    rw [hlaw, outOfFault_of_ne hfault] at hclauses
    rw [outOfFault_of_ne hfault]
    exact hclauses

/-- R73, R74: a sample that cannot be used. -/
theorem sample_unusable (h : usable rep = false) :
    r.sample kp ki margin m preheat v rep = ({ r with temp := v, tempState := rep }.toFault, none) :=
  if_neg (by simp [h])

theorem sample_usable (h : usable rep = true) : ∀ j, j = judgeOvertemp 3800 r.setpoint margin v r.armed r.overtemp →
    ∀ q, q = { r with temp := v, tempState := rep, armed := j.armed, overtemp := j.holds } →
    r.sample kp ki margin m preheat v rep = (if j.holds = true then q.toFault else q.work kp ki m preheat, some j) := by
  rintro _ rfl _ rfl
  exact if_pos h

end ZoneSample

/-- R75: what a change of the PREHEAT inhibit makes of a zone record. -/
theorem preheatChange_eq (r : ZoneRec) (active : Bool) (m : LineMode) : r.preheatChange active m =
    if active = true then
      (if r.state = .off ∨ r.state = .fault then r
        else { r with state := .heating, computed := 0, applied := 0, readyCount := 0, outCount := 0, output := false })
    else if r.state = .heating ∧ m = .setback then { r with state := .setback } else r := by
  cases active with
  | true => rfl
  | false =>
    by_cases h : r.state = .heating
    · by_cases hm : m = .setback
      · simp [ZoneRec.preheatChange, unqualified, h, hm]
      · simp [ZoneRec.preheatChange, unqualified, h, hm]
        rw [← h]
    · simp [ZoneRec.preheatChange, h]

section ZoneCommands

variable (s : State)

theorem zoneSample_eq (z : Zone) (v : Nat) (rep : ReportedState) : ∀ x, x = (s.znc.zones.get z).sample (s.znc.kp.get z)
      (s.znc.ki.get z) s.znc.margin s.lmc.mode s.znc.preheatInhibit v rep →
    s.zoneSample z v rep = (s.setZone z x.1).post ((x.2.map fun j => j.arrivals (Alarm.zoneOvertemp z)).getD []) := by
  rintro x rfl
  unfold State.zoneSample
  dsimp only
  split
  next j h => rw [h]; rfl
  next h => rw [h]; exact (post_nil _).symm

end ZoneCommands

/-- Settles O43: the record's sample case by case, with the readiness of the zone and the judgement posted after it. -/
theorem zoneSamplesAreWorkedInOrder : Obligations.ZoneSamplesAreWorkedInOrder := by
  refine ⟨fun limit sp margin v armed holds => judgeOvertemp_clauses, fun s z v rep => ?_, fun s active => ?_⟩
  · obtain ⟨x, hx⟩ : ∃ x, x = (s.znc.zones.get z).sample (s.znc.kp.get z) (s.znc.ki.get z) s.znc.margin s.lmc.mode
      s.znc.preheatInhibit v rep := ⟨_, rfl⟩
    have hexec : exec (.zoneSampleArrival z v rep) s = .next (((s.taken (.zoneSampleArrival z v rep)).setZone z x.1).post
        ((x.2.map fun j => j.arrivals (Alarm.zoneOvertemp z)).getD [])) :=
      congrArg Host.Outcome.next (zoneSample_eq (s.taken (.zoneSampleArrival z v rep)) z v rep x hx)
    refine ⟨_, hexec, ?_, fun y hy => PerZone.get_set_ne _ _ hy, rfl, ?_⟩
    · exact (((taken_frame s _).mono (by decide)).trans (setZone_frame _ z x.1)).trans ((post_frame _ _).mono (by decide))
    rintro r hr r' hr' j hj
    replace hr' : r' = x.1 := hr'.trans (PerZone.get_set_self _ _ _)
    have hposted : (((s.taken (.zoneSampleArrival z v rep)).setZone z x.1).post
        ((x.2.map fun j => j.arrivals (Alarm.zoneOvertemp z)).getD [])).posted = s.posted.erase (.zoneSampleArrival z v rep) ++
        zoneReadiness z r.state r'.state ++ (x.2.map fun j => j.arrivals (Alarm.zoneOvertemp z)).getD [] := by
      rw [hr, hr']
      rfl
    rw [hposted]
    rw [← hr] at hx
    cases husable : usable rep with
    | false =>
      have hfault := hx.trans (sample_unusable husable)
      rw [hfault] at hr'
      subst hr'
      refine ⟨rfl, rfl, rfl, rfl, ?_, fun _ => ⟨rfl, rfl⟩, fun h => absurd h (by decide),
        fun _ => ⟨rfl, rfl, rfl, rfl, rfl, rfl, rfl⟩, fun h => absurd h (by decide)⟩
      simp [hfault, zoneReadiness]
    | true =>
      obtain ⟨q, hq⟩ : ∃ q : ZoneRec, q = { r with
        temp := v, tempState := rep, armed := j.armed, overtemp := j.holds } := ⟨_, rfl⟩
      have hsample := hx.trans (sample_usable husable j hj q hq)
      have harrivals : s.posted.erase (.zoneSampleArrival z v rep) ++ zoneReadiness z r.state r'.state ++
          (x.2.map fun j => j.arrivals (Alarm.zoneOvertemp z)).getD [] =
          s.posted.erase (.zoneSampleArrival z v rep) ++
          (if r.state ≠ r'.state ∧ (isQualified r.state = true ∨ isQualified r'.state = true) then
            [.readinessArrival (.zone z r'.state)] else []) ++
          (if true = true ∧ j.raised = true then [.alarmRaise (Alarm.zoneOvertemp z)] else []) ++
          (if true = true ∧ j.ended = true then [.alarmEnd (Alarm.zoneOvertemp z)] else []) := by
        rw [hsample, List.append_assoc _ (if true = true ∧ j.raised = true then _ else _)]
        simp [judged_arrivals hj, zoneReadiness]
      rw [harrivals]
      replace hr' : r' = _ := hr'.trans (congrArg Prod.fst hsample)
      cases hholds : j.holds with
      | true =>
        rw [hholds, if_pos rfl, hq] at hr'
        subst hr'
        exact ⟨rfl, rfl, rfl, rfl, rfl, fun h => absurd h (by decide), fun _ => ⟨rfl, hholds⟩,
          fun _ => ⟨rfl, rfl, rfl, rfl, rfl, rfl, rfl⟩, fun _ h => absurd h (by decide)⟩
      | false =>
        rw [hholds, if_neg (by decide)] at hr'
        obtain ⟨htemp, htempState, hset, hband, harmed, hover⟩ := work_same q _ _ _ _ r' hr'
        have hstate : q.setpoint = r.setpoint := by rw [hq]
        have hzero := work_zero (r := q) (kp := s.znc.kp.get z) (ki := s.znc.ki.get z) (m := s.lmc.mode)
          (preheat := s.znc.preheatInhibit)
        have hheld := work_inhibited (r := q) (kp := s.znc.kp.get z) (ki := s.znc.ki.get z) (m := s.lmc.mode)
        have hworked := work_clauses (r := q) (kp := s.znc.kp.get z) (ki := s.znc.ki.get z) (m := s.lmc.mode)
        rw [hstate] at hzero hheld
        rw [outOfFault_same] at hheld
        rw [hstate] at hworked
        subst hq
        refine ⟨htemp, htempState, hset, hband, rfl, fun h => absurd h (by decide),
          fun _ => ⟨harmed, hover.trans hholds⟩, fun h => absurd h (by decide),
          fun _ _ => ⟨fun hsp => ?_, fun hsp hinhibit => ?_, fun hsp hfree => ?_⟩⟩
        · rw [hr', hzero hsp]
        · rw [hr', hinhibit, hheld hsp]
          exact ⟨rfl, rfl, rfl, rfl, rfl, rfl, rfl⟩
        · rw [hfree] at hr'
          exact hworked hsp r' hr'
  · have hexec : exec (.preheatInhibitChange active) s =
      .next ((s.taken (.preheatInhibitChange active)).preheatChange active) := rfl
    have hzone (z : Zone) : ((s.taken (.preheatInhibitChange active)).preheatChange active).znc.zones.get z =
        (s.znc.zones.get z).preheatChange active s.lmc.mode := forZones_zone _ _ z
    refine ⟨_, hexec, ?_, rfl, ?_, ?_⟩
    · exact ((taken_frame s _).mono (by decide)).trans (preheatChange_frame _ active)
    · refine (forZones_posted _ _).trans (congrArg₂ (· ++ ·) rfl (List.flatMap_congr fun z _ => ?_))
      rw [hzone]
      rfl
    · rintro z _ rfl
      rw [hzone, preheatChange_eq]

end Sys2Proof.Machine

/-! Proofs about the alarms and the inhibits (chapter 8). -/

namespace Sys2Proof.Machine

section AlarmList

/-! ### The alarm list and the cause sets (R138, R145, R146, R148) -/

theorem holdsCauses_iff (i : AlarmId) (st : RecordState) : holdsCauses i st = true ↔
    st = .activeUnack ∨ st = .activeAck ∨ (st = .returnedUnack ∧ alarmClass i = .safety) := by
  cases st <;> simp [holdsCauses]

theorem mem_causeSet (a : Aim) (n : Inhibit) (i : AlarmId) :
    i ∈ a.causeSet n ↔ alarmNames i n = true ∧ holdsCauses i a.records[i].state = true := by
  simp [Aim.causeSet, Aim.holds]

theorem inhibitActive_iff (a : Aim) (n : Inhibit) : a.inhibitActive n = true ↔
    a.asserted.get n = true ∨ ∃ i : AlarmId, alarmNames i n = true ∧ holdsCauses i a.records[i].state = true := by
  rw [Aim.inhibitActive, Bool.or_eq_true, Bool.not_eq_true', List.isEmpty_eq_false_iff_exists_mem]
  exact or_congr_right (exists_congr fun i => mem_causeSet a n i)

/-- R148: the immediate causes of the WAVE inhibit. -/
theorem immediate_iff : ∀ i : AlarmId, alarmNames i .wave = true ∧ waveDeferred i = false ↔ i ∈ [0, 3, 17, 22, 33] := by
  decide

theorem waveImmediate_iff (a : Aim) : a.waveImmediate = true ↔ a.asserted.wave = true ∨
    ∃ i : AlarmId, i ∈ [0, 3, 17, 22, 33] ∧ holdsCauses i a.records[i].state = true := by
  rw [Aim.waveImmediate, Bool.or_eq_true, List.any_eq_true]
  refine or_congr_right (exists_congr fun i => ?_)
  rw [mem_causeSet, ← immediate_iff, Bool.not_eq_true']
  tauto

theorem alarmList : ∀ rows : List (AlarmClass × Severity × Bool × List Inhibit × Bool), rows = List.flatten
    [[(.safety, .alarm, true, [.spray, .preheat, .wave, .feed, .entry], false), (.safety, .alarm, false, [.spray], false),
      (.safety, .alarm, false, [.preheat], false), (.safety, .alarm, false, [.wave, .feed], false)],
    List.replicate 10 (.process, .alarm, true, [.entry], false), List.replicate 3 (.safety, .alarm, true, [.entry], false),
    [(.safety, .alarm, true, [.wave, .feed, .entry], false), (.process, .alarm, true, [.wave, .entry], true),
      (.process, .alarm, true, [.feed], false), (.process, .alarm, true, [.feed], false),
      (.process, .warn, false, [], false), (.process, .alarm, true, [.wave, .entry], false),
      (.process, .warn, false, [], false), (.process, .alarm, false, [.entry], false),
      (.process, .alarm, true, [.entry], false), (.process, .alarm, false, [.spray, .entry], false),
      (.safety, .alarm, true, [.spray, .preheat, .wave, .entry], true), (.process, .warn, true, [], false),
      (.process, .warn, true, [], false), (.process, .warn, false, [], false), (.process, .alarm, true, [.entry], false),
      (.process, .alarm, false, [.entry], false), (.process, .alarm, true, [.wave], false),
      (.process, .alarm, true, [.entry], false), (.process, .alarm, true, [.entry], false),
      (.safety, .alarm, true, [], false)]] →
    rows.length = 37 ∧ ∀ i : AlarmId, rows[i.val]? = some (alarmClass i, alarmSeverity i, alarmLatching i,
      [Inhibit.spray, .preheat, .wave, .feed, .entry].filter (alarmNames i), waveDeferred i) := by
  rintro _ rfl
  decide

end AlarmList

section AimBecomes

variable (s : State)

/-! ### What AIM hands on (R146, R148, R151) -/

/-- R151: the copy that one inhibit's re-evaluation makes, if it makes one. -/
def inhibitRecord (now : RunClock) (b a : Aim) (n : Inhibit) : List EventRecord :=
  if n = .wave then
    (if a.waveEffect = b.waveEffect then [] else [⟨now, .inhibitChanged n a.waveEffect (a.asserted.get n)⟩])
  else if a.inhibitActive n = b.inhibitActive n then []
  else [⟨now, .inhibitChanged n (if a.inhibitActive n then .active else .inactive) (a.asserted.get n)⟩]

theorem noteInhibit_copies (b a : Aim) {n : Inhibit} (hn : n ≠ .wave) (l : Link) : (s.noteInhibit b a n).link l =
    (inhibitRecord s.clock b a n).foldl (fun k r => k.copyEvent r) (s.link l) := by
  rw [noteInhibit_link, inhibitRecord, if_neg hn]
  by_cases h : b.inhibitActive n = a.inhibitActive n
  · rw [if_pos h, if_pos h.symm]
    rfl
  · rw [if_neg h, if_neg (Ne.symm h)]
    rfl

theorem noteWave_copies (b a : Aim) (l : Link) : (s.noteWave b a).link l =
    (inhibitRecord s.clock b a .wave).foldl (fun k r => k.copyEvent r) (s.link l) := by
  rw [noteWave_link, inhibitRecord, if_pos rfl]
  by_cases h : b.waveEffect = a.waveEffect
  · rw [if_pos h, if_pos h.symm]
    rfl
  · rw [if_neg h, if_neg (Ne.symm h)]
    rfl

theorem aimBecomes_link (a : Aim) (l : Link) : (s.aimBecomes a).link l =
    ([Inhibit.spray, .preheat, .wave, .feed, .entry].flatMap
      (inhibitRecord s.clock s.aim { a with waveEffect := a.nextWaveEffect })).foldl (fun k r => k.copyEvent r) (s.link l) := by
  unfold State.aimBecomes
  dsimp only
  simp only [List.flatMap_cons, List.flatMap_nil, List.append_nil, List.foldl_append]
  rw [noteInhibit_copies _ _ _ (by decide), noteInhibit_copies _ _ _ (by decide), noteWave_copies,
    noteInhibit_copies _ _ _ (by decide), noteInhibit_copies _ _ _ (by decide)]
  simp only [(noteInhibit_frame _ _ _ _).clock, (noteWave_frame _ _ _).clock, setAim_clock]
  rfl

/-- R146: the arrival that hands on one inhibit, if it has changed. -/
def inhibitArrivals (b a : Aim) (n : Inhibit) : List Instr :=
  if n = .wave then (if a.waveEffect = b.waveEffect then [] else [.waveInhibitChange a.waveEffect])
  else if a.inhibitActive n = b.inhibitActive n then [] else [inhibitArrival n (a.inhibitActive n) .inactive]

theorem noteInhibit_posted (b a : Aim) {n : Inhibit} (hn : n ≠ .wave) :
    (s.noteInhibit b a n).posted = s.posted ++ inhibitArrivals b a n := by
  rw [State.noteInhibit, inhibitArrivals, if_neg hn]
  by_cases h : b.inhibitActive n = a.inhibitActive n
  · rw [if_pos h, if_pos h.symm, List.append_nil]
  · rw [if_neg h, if_neg (Ne.symm h)]
    rfl

theorem noteWave_posted (b a : Aim) : (s.noteWave b a).posted = s.posted ++ inhibitArrivals b a .wave := by
  rw [State.noteWave, inhibitArrivals, if_pos rfl]
  by_cases h : b.waveEffect = a.waveEffect
  · rw [if_pos h, if_pos h.symm, List.append_nil]
  · rw [if_neg h, if_neg (Ne.symm h)]
    rfl

theorem aimBecomes_posted (a : Aim) : (s.aimBecomes a).posted = s.posted ++
    [Inhibit.spray, .preheat, .wave, .feed, .entry].flatMap
      (inhibitArrivals s.aim { a with waveEffect := a.nextWaveEffect }) := by
  unfold State.aimBecomes
  dsimp only
  rw [noteInhibit_posted _ _ _ (by decide), noteInhibit_posted _ _ _ (by decide), noteWave_posted,
    noteInhibit_posted _ _ _ (by decide), noteInhibit_posted _ _ _ (by decide)]
  simp

theorem mem_inhibitArrivals (b a : Aim) (n : Inhibit) (c : Instr) : c ∈ inhibitArrivals b a n ↔
    (n = .wave ∧ a.waveEffect ≠ b.waveEffect ∧ c = .waveInhibitChange a.waveEffect) ∨
    (n ≠ .wave ∧ a.inhibitActive n ≠ b.inhibitActive n ∧ c = inhibitArrival n (a.inhibitActive n) .inactive) := by
  unfold inhibitArrivals
  by_cases hn : n = .wave
  · simp only [hn, if_true, ne_eq, not_true_eq_false, false_and, or_false, true_and]
    split <;> simp_all
  · simp only [hn, if_false, false_and, false_or, ne_eq, not_false_eq_true, true_and]
    split <;> simp_all

theorem mem_flatMap_inhibits {α : Type} (f : Inhibit → List α) (x : α) :
    x ∈ [Inhibit.spray, .preheat, .wave, .feed, .entry].flatMap f ↔ ∃ n, x ∈ f n := by
  rw [List.mem_flatMap]
  exact exists_congr fun n => and_iff_right (by cases n <;> decide)

theorem copyEvent_mem {r e : EventRecord} {k : LinkState} (h : r ∈ k.queue) : r ∈ (k.copyEvent e).queue := by
  rw [copyEvent_eq]
  split
  · split
    · exact List.mem_append_left _ h
    · exact h
  · exact h

/-- What a queue holds stays in it while events are copied. -/
theorem copies_mem {r : EventRecord} (es : List EventRecord) : ∀ {k : LinkState}, r ∈ k.queue →
    r ∈ (es.foldl (fun k r => k.copyEvent r) k).queue := by
  induction es with
  | nil => exact fun h => h
  | cons e es ih => exact fun h => ih (copyEvent_mem h)

theorem aimBecomes_mem {r : EventRecord} (a : Aim) {l : Link} (h : r ∈ (s.link l).queue) :
    r ∈ ((s.aimBecomes a).link l).queue := by
  rw [aimBecomes_link]
  exact copies_mem _ h

theorem event_mem (e : Event) {l : Link} (hmask : (s.link l).mask.has e.cls = true) (hroom : (s.link l).queue.length < 16) :
    (⟨s.clock, e⟩ : EventRecord) ∈ ((s.event e).link l).queue := by
  rw [event_link, copyEvent_eq, if_pos hmask, if_pos hroom]
  exact List.mem_append_right _ (List.mem_singleton_self _)

end AimBecomes

/-- Settles O54. -/
theorem inhibitsFollowTheirCauses : Obligations.InhibitsFollowTheirCauses := by
  refine ⟨alarmList, holdsCauses_iff, inhibitActive_iff, waveImmediate_iff, fun e any solder => ?_, ?_, fun s o => rfl,
    fun s k tr => ?_⟩
  · refine ⟨rfl, rfl, rfl, fun he => ?_⟩
    cases e with
    | active => exact absurd rfl he
    | inactive | pending => exact ⟨rfl, rfl⟩
  · rintro s a _ rfl
    refine ⟨aimBecomes_frame s a, aimBecomes_aim s a, fun l => ?_, fun c => ?_⟩
    · rw [aimBecomes_link, aimBecomes_aim]
      rfl
    · rw [aimBecomes_posted, aimBecomes_aim]
      rw [List.mem_append, mem_flatMap_inhibits]
      refine or_congr_right ⟨?_, ?_⟩
      · rintro ⟨n, hn⟩
        rcases (mem_inhibitArrivals _ _ n c).mp hn with ⟨-, hne, hc⟩ | ⟨hwave, hne, hc⟩
        · exact .inl ⟨hne, hc⟩
        · refine .inr ⟨n, _, rfl, hne, ?_⟩
          cases n
          case wave => exact absurd rfl hwave
          all_goals simp [hc, inhibitArrival]
      · rintro (⟨hne, hc⟩ | ⟨n, _, rfl, hne, hc⟩)
        · exact ⟨.wave, (mem_inhibitArrivals _ _ _ c).mpr (.inl ⟨rfl, hne, hc⟩)⟩
        · refine ⟨n, (mem_inhibitArrivals _ _ n c).mpr (.inr ?_)⟩
          rcases hc with ⟨rfl, hc⟩ | ⟨rfl, hc⟩ | ⟨rfl, hc⟩ | ⟨rfl, hc⟩ <;> exact ⟨by decide, hne, hc⟩
  · obtain ⟨level, previous, cause⟩ := tr
    refine congrArg Host.Outcome.next ?_
    cases level
    case unknown => exact (post_nil _).symm
    all_goals rfl

section Records

variable (s : State)

/-! ### A record that moves (R139 to R141, R144) -/

theorem setRecord_aim_of_ne {i : AlarmId} {r : AlarmRecord} (c : RecordCause) (h : s.aim.records[i].state ≠ r.state) :
    (s.setRecord i r c).aim = { s.aim with
      records := s.aim.records.set i r,
      waveEffect := waveNext s.aim.waveEffect (s.setRecord i r c).aim.waveImmediate ((s.setRecord i r c).aim.inhibitActive .wave)
        s.aim.solderOcc } := by
  rw [setRecord_of_ne s c h, post_aim, aimBecomes_aim]
  rfl

/-- What a record's change leaves of AIM. -/
theorem setRecord_sameAim (i : AlarmId) (r : AlarmRecord) (c : RecordCause) :
    (s.setRecord i r c).aim.asserted = s.aim.asserted ∧ (s.setRecord i r c).aim.levels = s.aim.levels ∧
      (s.setRecord i r c).aim.solderOcc = s.aim.solderOcc := by
  unfold State.setRecord
  dsimp only
  split
  · exact ⟨rfl, rfl, rfl⟩
  · rw [post_aim, aimBecomes_aim]
    exact ⟨rfl, rfl, rfl⟩

/-- R150: a record whose state changes shows ALARM_CHANGED to every subscribed link with room. -/
theorem setRecord_event {i : AlarmId} {r : AlarmRecord} (c : RecordCause) (h : s.aim.records[i].state ≠ r.state) {l : Link}
    (hmask : (s.link l).mask.alarm = true) (hroom : (s.link l).queue.length < 16) :
    (⟨s.clock, .alarmChanged i s.aim.records[i].state r.state c r.count⟩ : EventRecord) ∈
      ((s.setRecord i r c).link l).queue := by
  rw [setRecord_of_ne s c h, post_link]
  exact aimBecomes_mem _ _ (event_mem s (.alarmChanged i s.aim.records[i].state r.state c r.count) hmask hroom)

theorem setRecord_record (i : AlarmId) (r : AlarmRecord) (c : RecordCause) : (s.setRecord i r c).aim.records[i] = r := by
  rw [setRecord_records, records_set, if_pos rfl]

theorem setRecord_record_ne (i : AlarmId) (r : AlarmRecord) (c : RecordCause) {j : AlarmId} (h : j ≠ i) :
    (s.setRecord i r c).aim.records[j] = s.aim.records[j] := by
  rw [setRecord_records, records_set, if_neg h]

/-- R139, R140: what a raise or an end makes of a record. -/
def AlarmRecord.moved (r : AlarmRecord) (raised latching : Bool) (now : RunClock) : AlarmRecord :=
  if raised then r.raised now else r.ended latching

/-- R144: the SAFE demand of a raise, and none of an end, goes last. -/
theorem exec_raiseOrEnd (i : AlarmId) (raised : Bool) : ∀ c, c = (if raised then Instr.alarmRaise i else .alarmEnd i) →
    exec c s = .next (((s.taken c).setRecord i (s.aim.records[i].moved raised (alarmLatching i) s.clock)
        (if raised then .raise else .ended)).post
      (if raised = true ∧ (i = 0 ∨ i = 36) then [.safeDemand i] else [])) := by
  rintro _ rfl
  cases raised with
  | false => exact congrArg Host.Outcome.next (post_nil _).symm
  | true =>
    simp only [true_and]
    rfl

theorem raised_clauses (r : AlarmRecord) (now : RunClock) :
    (r.state = .idle → r.raised now = { state := .activeUnack, first := some now, last := some now, count := 1 }) ∧
    (r.state = .returnedUnack ∨ r.state = .activeUnack → r.raised now =
      { state := .activeUnack, first := r.first, last := some now, count := min 255 (r.count + 1) }) ∧
    (r.state = .activeAck → r.raised now =
      { state := .activeAck, first := r.first, last := some now, count := min 255 (r.count + 1) }) := by
  obtain ⟨state, first, last, count⟩ := r
  refine ⟨fun h => ?_, fun h => ?_, fun h => ?_⟩
  · cases h
    rfl
  · rcases h with h | h <;> cases h <;> rfl
  · cases h
    rfl

theorem ended_clauses (r : AlarmRecord) (latching : Bool) :
    (r.state = .activeUnack → latching = true → r.ended latching = { r with state := .returnedUnack }) ∧
    ((r.state = .activeUnack ∧ latching = false) ∨ r.state = .activeAck → r.ended latching =
      { state := .idle, first := none, last := none, count := 0 }) ∧
    (r.state = .returnedUnack ∨ r.state = .idle → r.ended latching = r) := by
  unfold AlarmRecord.ended
  refine ⟨fun h hl => ?_, fun h => ?_, fun h => ?_⟩
  · rw [h, hl]
    rfl
  · rcases h with ⟨h, hl⟩ | h
    · rw [h, hl]
      rfl
    · rw [h]
      rfl
  · rcases h with h | h <;> rw [h]

/-- R144: a record that has moved from another state hands on its entry into IDLE. -/
theorem recordIdleArrivals_of_ne {i : AlarmId} {a b : RecordState} (h : a ≠ b) : recordIdleArrivals i a b =
    if b = .idle ∧ i = Alarm.potLevelHigh then [.recordIdleArrival .levelHigh]
    else if b = .idle ∧ i = Alarm.feedRunaway then [.recordIdleArrival .runaway] else [] := by
  unfold recordIdleArrivals
  by_cases hb : b = .idle
  · have ha : a ≠ .idle := fun ha => h (ha.trans hb.symm)
    simp [hb, ha]
  · simp [hb]

end Records

/-- Settles O53: the record moves by its state and its latching, and `setRecord` hands the move on. -/
theorem raisesAndEndsMoveTheRecord : Obligations.RaisesAndEndsMoveTheRecord := by
  rintro s i raised c hc _ rfl
  have hexec := exec_raiseOrEnd s i raised c hc
  obtain ⟨r', hr'⟩ : ∃ r', r' = s.aim.records[i].moved raised (alarmLatching i) s.clock := ⟨_, rfl⟩
  obtain ⟨cause, hcause⟩ : ∃ cause : RecordCause, cause = if raised then .raise else .ended := ⟨_, rfl⟩
  rw [← hr', ← hcause] at hexec
  have hrecord : (((s.taken c).setRecord i r' cause).post
      (if raised = true ∧ (i = 0 ∨ i = 36) then [.safeDemand i] else [])).aim.records[i] = r' :=
    setRecord_record (s.taken c) i r' cause
  obtain ⟨hasserted, hlevels, hsolder⟩ := setRecord_sameAim (s.taken c) i r' cause
  have hframe : SameBut [.aim, .links, .posted] s ((s.taken c).setRecord i r' cause) :=
    ((taken_frame s c).mono (by decide)).trans (setRecord_frame _ i r' cause)
  refine ⟨_, hexec, hframe.trans ((post_frame _ _).mono (by decide)), ?_, ?_,
    fun j hj => setRecord_record_ne (s.taken c) i r' cause hj, hasserted, hlevels, hsolder, ?_, ?_, ?_⟩
  · rintro rfl
    rw [hrecord, hr']
    exact raised_clauses _ _
  · rintro rfl
    rw [hrecord]
    obtain ⟨hlatching, hidle, hstays⟩ := ended_clauses s.aim.records[i] (alarmLatching i)
    refine ⟨fun h hl => hr'.trans (hlatching h hl), fun h => hr'.trans (hidle h), fun h => ?_⟩
    have hsame : r' = s.aim.records[i] := hr'.trans (hstays h)
    rw [post_aim, setRecord_of_eq (s.taken c) cause (congrArg AlarmRecord.state hsame.symm), hsame]
    simp
  · rw [hrecord]
    intro hsame
    rw [setRecord_of_eq (s.taken c) cause hsame.symm]
    exact ⟨rfl, rfl, rfl⟩
  · rw [hrecord]
    intro hne
    have hmoved : (s.taken c).aim.records[i].state ≠ r'.state := Ne.symm hne
    refine ⟨?_, ?_, fun l hmask hroom => ?_⟩
    · rw [setRecord_of_ne (s.taken c) cause hmoved, recordIdleArrivals_of_ne hmoved, hcause]
      rfl
    · exact (congrArg Aim.waveEffect (setRecord_aim_of_ne (s.taken c) cause hmoved)).trans
        (congrArg (waveNext _ _ _) hsolder.symm)
    · rw [← hcause]
      exact setRecord_event (s.taken c) cause hmoved hmask hroom
  · rintro rfl hi
    rw [if_pos ⟨rfl, hi⟩]
    exact List.mem_append_right _ (List.mem_singleton_self _)

end Sys2Proof.Machine

/-! Proofs about the acknowledgement of an alarm and the inhibits that a host asserts (sections 8.3 and 8.4). -/

namespace Sys2Proof.Machine

section Acknowledge

variable {s : State} {l : Link} {i : AlarmId}

/-- A reply that begins leaves every event queue as it is. -/
theorem reply_queue (kind : Byte) (st : Status) (body : List Byte) (k : Link) :
    ((s.reply l kind st body).link k).queue = (s.link k).queue := by
  by_cases h : k = l
  · subst h
    rw [reply_link]
  · rw [reply_link_ne s kind st body h]

/-! ### ACK_ALARM, in the order of its checks (R141) -/

theorem ackAlarm_noRecord {n : Nat} (h : 37 ≤ n) : s.ackAlarm l n = s.refuse .invalid := dif_neg (Nat.not_lt.mpr h)

theorem ackAlarm_notPermitted (h : l = .machine ∧ alarmClass i = .safety) : s.ackAlarm l i.val = s.refuse .notPermitted :=
  (dif_pos i.isLt).trans (if_pos h)

theorem ackAlarm_nothing (h : ¬(l = .machine ∧ alarmClass i = .safety)) (hr : s.aim.records[i].acked? = none) :
    s.ackAlarm l i.val = s.refuse .nothingToAck := by
  obtain ⟨n, hn⟩ := i
  refine (dif_pos hn).trans ((if_neg h).trans ?_)
  rw [hr]

theorem ackAlarm_acts {r : AlarmRecord} (h : ¬(l = .machine ∧ alarmClass i = .safety))
    (hr : s.aim.records[i].acked? = some r) : s.ackAlarm l i.val =
      ((s.setRecord i r (ackCause l)).post (pumpFaultAcks i s.aim.records[i].state r.state)).done := by
  obtain ⟨n, hn⟩ := i
  refine (dif_pos hn).trans ((if_neg h).trans ?_)
  rw [hr]

theorem acked?_none {r : AlarmRecord} (h : r.state = .idle ∨ r.state = .activeAck) : r.acked? = none := by
  unfold AlarmRecord.acked?
  rcases h with h | h <;> rw [h]

theorem acked?_some {r : AlarmRecord} (h : r.state = .activeUnack ∨ r.state = .returnedUnack) : r.acked? =
    some (if r.state = .activeUnack then { r with state := .activeAck }
      else { state := .idle, first := none, last := none, count := 0 }) := by
  unfold AlarmRecord.acked?
  rcases h with h | h
  · rw [if_pos h, h]
  · rw [if_neg (by simp [h]), h]
    rfl

/-- R144: what an acknowledged record hands on. -/
theorem ackArrivals_eq (i : AlarmId) {a b : RecordState}
    (h : (a = .activeUnack ∧ b = .activeAck) ∨ (a = .returnedUnack ∧ b = .idle)) :
    recordIdleArrivals i a b ++ pumpFaultAcks i a b =
      (if a = .returnedUnack ∧ i = Alarm.potLevelHigh then [.recordIdleArrival .levelHigh]
        else if a = .returnedUnack ∧ i = Alarm.feedRunaway then [.recordIdleArrival .runaway] else []) ++
      (if a = .activeUnack ∧ i = Alarm.pumpFault then [.pumpFaultAcknowledged] else []) := by
  rcases h with ⟨rfl, rfl⟩ | ⟨rfl, rfl⟩ <;> simp [recordIdleArrivals, pumpFaultAcks]

theorem ackCause_eq (h : l ≠ .trace) : ackCause l = if l = .machine then .ackMachine else .ackSafety := by
  cases l with
  | machine | safety => rfl
  | trace => exact absurd rfl h

theorem link_mem_ack (h : l ≠ .trace) : l ∈ [Link.machine, .safety] := by
  cases l with
  | machine | safety => decide
  | trace => exact absurd rfl h

theorem numberBody_one {n : Byte} {v : Nat} (h : v = n.toNat) : numberBody 1 [n] = some v := by
  rw [h, ← natOf_one]
  rfl

end Acknowledge

/-- Settles O11: the checks pick the case in their order, and an acknowledgement that acts moves the record as `setRecord`
does. -/
theorem acknowledgementsFollowTheirChecks : Obligations.AcknowledgementsFollowTheirChecks := by
  intro s l n htrace hidle
  have hl := link_mem_ack htrace
  refine ⟨fun hn => ?_, fun i hi => ⟨fun hlink hclass => ?_, fun hpermitted => ⟨fun hstate => ?_, fun hstate => ?_⟩⟩⟩
  · exact exec_refused rfl (numberBody_one rfl) hidle hl (ackAlarm_noRecord hn)
  all_goals have hargs : numberBody 1 [n] = some i.val := numberBody_one hi
  · exact exec_refused rfl hargs hidle hl (ackAlarm_notPermitted ⟨hlink, hclass⟩)
  · exact exec_refused rfl hargs hidle hl (ackAlarm_nothing hpermitted (acked?_none (by rwa [received_aim])))
  · obtain ⟨r, hr⟩ : ∃ r, r = (if s.aim.records[i].state = .activeUnack then
        { s.aim.records[i] with state := .activeAck }
      else { state := .idle, first := none, last := none, count := 0 } : AlarmRecord) := ⟨_, rfl⟩
    have hmoves : (s.aim.records[i].state = .activeUnack ∧ r.state = .activeAck) ∨
        (s.aim.records[i].state = .returnedUnack ∧ r.state = .idle) := by
      rcases hstate with h | h
      · exact .inl ⟨h, by rw [hr, if_pos h]⟩
      · exact .inr ⟨h, by rw [hr, if_neg (by rw [h]; decide)]⟩
    have hne : s.aim.records[i].state ≠ r.state := by
      rcases hmoves with ⟨h, h'⟩ | ⟨h, h'⟩ <;> rw [h, h'] <;> decide
    have hacked : (s.received l).aim.records[i].acked? = some r := by
      rw [received_aim, hr]
      exact acked?_some hstate
    have hexec : exec (.ackAlarm l [n]) s = .next ((((s.received l).setRecord i r (ackCause l)).post
        (pumpFaultAcks i s.aim.records[i].state r.state)).reply l 0x05 .ok []) := by
      refine exec_done rfl hargs hidle hl ((ackAlarm_acts hpermitted hacked).trans ?_)
      rw [received_aim]
    have hframe : SameBut [.aim, .links, .posted] s ((s.received l).setRecord i r (ackCause l)) :=
      ((received_frame s l).mono (by decide)).trans (setRecord_frame _ i r _)
    have hrecord := setRecord_record (s.received l) i r (ackCause l)
    have hothers (j : AlarmId) (hj : j ≠ i) := setRecord_record_ne (s.received l) i r (ackCause l) hj
    obtain ⟨hasserted, hlevels, hsolder⟩ := setRecord_sameAim (s.received l) i r (ackCause l)
    have haim := setRecord_aim_of_ne (s.received l) (ackCause l) (by rwa [received_aim])
    have hset := setRecord_of_ne (s.received l) (ackCause l) (by rwa [received_aim])
    have hevent {k : Link} := setRecord_event (s.received l) (i := i) (r := r) (ackCause l) (by rwa [received_aim]) (l := k)
    rw [received_aim] at hothers hasserted hlevels hsolder haim hset hevent
    rw [received_clock] at hevent
    have ht := ackArrivals_eq i hmoves
    rw [ackCause_eq htrace] at hexec hframe hrecord hothers hasserted hlevels hsolder haim hset hevent
    generalize (if l = .machine then RecordCause.ackMachine else .ackSafety) = cause at *
    refine ⟨_, hexec, ?_, hrecord.trans hr, hothers, hasserted, hlevels, hsolder, ?_, ?_, ?_, ?_, ?_, ?_, ?_⟩
    · exact (hframe.trans ((post_frame _ _).mono (by decide))).trans ((reply_frame _ _ _ _ _).mono (by decide))
    · exact (congrArg Aim.waveEffect haim).trans (congrArg (waveNext _ _ _) hsolder.symm)
    · simp
    · rintro r' hr'
      replace hr' : r' = r := hr'.trans hrecord
      subst hr'
      rw [hset, post_post, ht]
    · intro k hmask hroom
      have hcopy := hevent (k := k) (by rwa [received_mask]) (by rwa [received_queue])
      rw [reply_queue, reply_aim, post_aim, hrecord]
      exact hcopy
    · rintro rfl h
      rw [reply_posted, post_posted, hset, post_posted, List.append_assoc, ht, if_pos (⟨h, rfl⟩ : _ ∧ _)]
      simp
    · rintro rfl h
      rw [reply_posted, post_posted, hset, post_posted, List.append_assoc, ht, if_pos (⟨h, rfl⟩ : _ ∧ _)]
      simp
    · rintro rfl h
      rw [reply_posted, post_posted, hset, post_posted, List.append_assoc, ht, if_neg (by rintro ⟨-, h'⟩; cases h'),
        if_pos (⟨h, rfl⟩ : _ ∧ _)]
      simp

section Assert

variable {s : State} {n : Inhibit} {v : Bool}

/-! ### The assertions of the safety link (R147) -/

theorem inhibitBody_code (n : Inhibit) : inhibitBody [n.code] = some n := by cases n <;> rfl

theorem inhibitBody_beyond {b : Byte} (h : 5 ≤ b.toNat) : inhibitBody [b] = none := List.getElem?_eq_none h

theorem assertInhibit_eq : s.assertInhibit n v = (if s.aim.asserted.get n = v then s
    else s.aimBecomes { s.aim with asserted := s.aim.asserted.set n v }).done := by
  unfold State.assertInhibit
  split <;> rfl

theorem exec_assertion {c : Instr} (hc : c = if v then .assertInhibit .safety [n.code] else .releaseInhibit .safety [n.code])
    (hidle : (s.link .safety).sending = none) : exec c s = .next ((if s.aim.asserted.get n = v then s.received .safety
      else (s.received .safety).aimBecomes { s.aim with asserted := s.aim.asserted.set n v }).reply .safety
        (if v then 0x1E else 0x1F) .ok []) := by
  have heq := assertInhibit_eq (s := s.received .safety) (n := n) (v := v)
  rw [received_aim] at heq
  subst hc
  cases v with
  | true => exact exec_done rfl (inhibitBody_code n) hidle (by decide) heq
  | false => exact exec_done rfl (inhibitBody_code n) hidle (by decide) heq

theorem asserted_set_self (f : Assertions) (n : Inhibit) : f.set n (f.get n) = f := by cases n <;> rfl

end Assert

/-- Settles O12. -/
theorem assertionsSetOneFlag : Obligations.AssertionsSetOneFlag := by
  refine fun s n => ⟨fun v c hc hidle => ⟨_, exec_assertion hc hidle, rfl, ?_⟩, fun b hb =>
    ⟨fun hidle => exec_invalid rfl (inhibitBody_beyond hb) hidle (by decide),
      fun hidle => exec_invalid rfl (inhibitBody_beyond hb) hidle (by decide)⟩⟩
  by_cases h : s.aim.asserted.get n = v
  · rw [if_pos h]
    refine ⟨((received_frame s .safety).mono (by decide)).trans ((reply_frame _ _ _ _ _).mono (by decide)), ?_⟩
    rw [reply_aim, received_aim, reply_link]
    refine ⟨?_, rfl, rfl, rfl, fun _ => rfl, fun hne => absurd h hne, rfl⟩
    rw [← h, asserted_set_self]
  · rw [if_neg h]
    refine ⟨(((received_frame s .safety).mono (by decide)).trans (aimBecomes_frame _ _)).trans
      ((reply_frame _ _ _ _ _).mono (by decide)), ?_⟩
    rw [reply_aim, aimBecomes_aim, reply_link]
    exact ⟨rfl, rfl, rfl, rfl, fun heq => absurd heq h, fun _ => rfl, rfl⟩

end Sys2Proof.Machine

/-! Proofs about the extraction (chapter 7): the duct, its fans and its filter. -/

namespace Sys2Proof.Machine

section Fans

variable (s : State)

/-! ### A fan's output and its fault timer (R122, R128) -/

theorem fan_setFan {α : Type} (p : Pair α) (f g : Fan) (x : α) : (p.setFan f x).fan g = if g = f then x else p.fan g := by
  cases f <;> cases g <;> rfl

/-- R128: the fault timer of a fan that turns on. -/
def Saq.faultTimer (q : Saq) (f : Fan) : Timer := if (q.contact f.contact).reported = .closed then .stopped else .running 5000

theorem driveFan_output (f g : Fan) (on : Bool) :
    (s.driveFan f on).exm.outputs.fan g = if g = f then on else s.exm.outputs.fan g := by
  rw [driveFan_exm]
  by_cases hsame : s.exm.outputs.fan f = on
  · rw [if_pos hsame]
    by_cases h : g = f
    · rw [if_pos h, h, hsame]
    · rw [if_neg h]
  · rw [if_neg hsame]
    exact fan_setFan _ _ _ _

theorem driveFan_timer_ne {f g : Fan} (on : Bool) (h : g ≠ f) :
    (s.driveFan f on).exm.fanTimers.fan g = s.exm.fanTimers.fan g := by
  rw [driveFan_exm]
  split
  · rfl
  · exact (fan_setFan _ _ _ _).trans (if_neg h)

theorem driveFan_timer_kept {f : Fan} {on : Bool} (h : s.exm.outputs.fan f = on) :
    (s.driveFan f on).exm.fanTimers.fan f = s.exm.fanTimers.fan f := by
  rw [driveFan_exm, if_pos h]

theorem driveFan_timer_on {f : Fan} (h : s.exm.outputs.fan f = false) :
    (s.driveFan f true).exm.fanTimers.fan f = s.saq.faultTimer f := by
  rw [driveFan_exm, if_neg (by simp [h])]
  refine (fan_setFan _ _ _ _).trans ((if_pos rfl).trans ?_)
  unfold Saq.notTurning Saq.faultTimer
  by_cases hclosed : (s.saq.contact f.contact).reported = .closed
  · simp [hclosed]
  · simp [hclosed, Timer.start, Config.fanFaultMs]

theorem driveFan_timer_off {f : Fan} (h : s.exm.outputs.fan f = true) :
    (s.driveFan f false).exm.fanTimers.fan f = .stopped := by
  rw [driveFan_exm, if_neg (by simp [h])]
  exact (fan_setFan _ _ _ _).trans (if_pos rfl)

theorem other_ne (f : Fan) : f.other ≠ f := by cases f <;> decide

/-- But for their outputs and timers, two fans driven leave EXM's record. -/
theorem driveFans_same (f g : Fan) (on off : Bool) : ∀ e, e = ((s.driveFan f on).driveFan g off).exm →
    e = { s.exm with outputs := e.outputs, fanTimers := e.fanTimers } := by
  rintro _ rfl
  obtain ⟨ts, h⟩ := driveFans_exm_eq s f g on off
  rw [h]

theorem driveFans_frame (f g : Fan) (on off : Bool) : SameBut [.exm] s ((s.driveFan f on).driveFan g off) :=
  (driveFan_frame s f on).trans (driveFan_frame _ g off)

/-! ### A changeover, a loss and a return (R125 to R127) -/

theorem changeover_eq : ∀ u, u = (s.driveFan s.exm.duty.other true).driveFan s.exm.duty false → s.changeover =
    (u.setExm { u.exm with
      duty := s.exm.duty.other, duct := .changeover, lowCount := 0, recoveryCount := 0, recoveryTimer := .running 10000,
      firstLoss := some (u.exm.firstLoss.getD u.clock), ductLow := true }).post [.alarmRaise 26] := by
  rintro _ rfl
  rfl

/-- R125: what a changeover makes of the duct's record. -/
theorem changeover_clauses : s.changeover.exm.duty = s.exm.duty.other ∧ s.changeover.exm.duct = .changeover ∧
    s.changeover.exm.outputs.fan s.exm.duty.other = true ∧ s.changeover.exm.outputs.fan s.exm.duty = false ∧
    s.changeover.exm.lowCount = 0 ∧ s.changeover.exm.recoveryCount = 0 ∧
    s.changeover.exm.recoveryTimer = .running 10000 ∧ s.changeover.exm.ductLow = true ∧
    s.changeover.exm.firstLoss = some (s.exm.firstLoss.getD s.clock) ∧
    s.changeover.exm.lastRecovery = s.exm.lastRecovery ∧ s.changeover.exm.extractionLost = s.exm.extractionLost ∧
    s.changeover.exm.fanFaults = s.exm.fanFaults ∧ s.changeover.exm.items = s.exm.items ∧
    (s.exm.outputs.fan s.exm.duty.other = false → s.changeover.exm.fanTimers.fan s.exm.duty.other =
      if (s.saq.contact s.exm.duty.other.contact).reported = .closed then .stopped else .running 5000) ∧
    (s.exm.outputs.fan s.exm.duty = true → s.changeover.exm.fanTimers.fan s.exm.duty = .stopped) ∧
    s.changeover.posted = s.posted ++ [.alarmRaise 26] ∧ SameBut [.exm, .posted] s s.changeover := by
  obtain ⟨u, hu⟩ : ∃ u, u = (s.driveFan s.exm.duty.other true).driveFan s.exm.duty false := ⟨_, rfl⟩
  have hsame := driveFans_same s s.exm.duty.other s.exm.duty true false _ rfl
  have hframe := driveFans_frame s s.exm.duty.other s.exm.duty true false
  have hother : u.exm.outputs.fan s.exm.duty.other = true := by
    rw [hu, driveFan_output, if_neg (other_ne _), driveFan_output, if_pos rfl]
  have hduty : u.exm.outputs.fan s.exm.duty = false := by rw [hu, driveFan_output, if_pos rfl]
  have hstarts (h : s.exm.outputs.fan s.exm.duty.other = false) :
      u.exm.fanTimers.fan s.exm.duty.other = s.saq.faultTimer s.exm.duty.other := by
    rw [hu, driveFan_timer_ne _ _ (other_ne _), driveFan_timer_on s h]
  have hstops (h : s.exm.outputs.fan s.exm.duty = true) : u.exm.fanTimers.fan s.exm.duty = .stopped := by
    rw [hu, driveFan_timer_off]
    rw [driveFan_output, if_neg (other_ne _).symm, h]
  rw [← hu] at hsame hframe
  have hclock : s.clock = u.clock := hframe.clock.symm
  rw [changeover_eq s u hu]
  refine ⟨rfl, rfl, hother, hduty, rfl, rfl, rfl, rfl, ?_, (congrArg Exm.lastRecovery hsame :),
    (congrArg Exm.extractionLost hsame :), (congrArg Exm.fanFaults hsame :), (congrArg Exm.items hsame :), hstarts,
    hstops, ?_, ?_⟩
  · rw [hclock]
    exact (congrArg (fun e : Exm => some (e.firstLoss.getD u.clock)) hsame :)
  · exact congrArg (· ++ _) (hframe.posted (by decide))
  · exact ((hframe.mono (by decide)).trans ((setExm_frame u _).mono (by decide))).trans ((post_frame _ _).mono (by decide))

theorem ductReturn_eq : s.ductReturn = ((s.setExm { s.exm with
      duct := .normal, lowCount := 0, recoveryCount := 0, recoveryTimer := .stopped, lastRecovery := some s.clock,
      ductLow := false, extractionLost := if s.exm.duct = .lost then false else s.exm.extractionLost }).post
      (if s.exm.duct = .lost then [.alarmEnd 26, .alarmEnd 27] else [.alarmEnd 26])).event
    (.fanChangeover s.exm.duty (if s.exm.duct = .lost then .recoveredAfterLoss else .recovered)) := by
  unfold State.ductReturn
  dsimp only
  by_cases h : s.exm.duct = .lost
  · simp only [h, beq_self_eq_true, if_true]
    rw [State.endAlarm, State.endAlarm, post_post]
    rfl
  · simp only [h, beq_eq_false_iff_ne.mpr h, if_false]
    rfl

theorem suctionSample_normal (h : s.exm.duct = .normal) (v : Nat) (rep : ReportedState) :
    s.suctionSample v rep = s.suctionNormal (!usable rep || decide (v < s.exm.items.ductTrip)) := by
  rw [State.suctionSample, h]

theorem suctionSample_recovery (h : s.exm.duct ≠ .normal) (v : Nat) (rep : ReportedState) : s.suctionSample v rep =
    s.suctionRecovery (usable rep && decide (s.exm.items.ductTrip + s.exm.items.ductHyst ≤ v)) := by
  unfold State.suctionSample
  cases hd : s.exm.duct
  case normal => exact absurd hd h
  all_goals rfl

end Fans

/-- Settles O50. -/
theorem theDuctFollowsItsSuction : Obligations.TheDuctFollowsItsSuction := by
  refine ⟨changeover_clauses, ?_⟩
  rintro s v rep _ rfl
  have hexec : exec (.dspSampleArrival v rep) s = .next ((s.taken (.dspSampleArrival v rep)).suctionSample v rep) := rfl
  refine ⟨fun hduct => ?_, fun hduct => ?_⟩
  · rw [hexec, suctionSample_normal (s.taken _) hduct]
    refine ⟨fun husable htrip => ?_, fun hlow => ?_⟩
    · have hgood : (!usable rep || decide (v < (s.taken (.dspSampleArrival v rep)).exm.items.ductTrip)) = false := by
        simp [husable, Nat.not_lt.mpr htrip]
      rw [hgood]
      rfl
    · have hbad : (!usable rep || decide (v < (s.taken (.dspSampleArrival v rep)).exm.items.ductTrip)) = true := by
        rcases hlow with h | h <;> simp [h]
      rw [hbad]
      exact ⟨fun hn => congrArg Host.Outcome.next (if_neg (Nat.not_le.mpr hn)), fun hn => congrArg Host.Outcome.next (if_pos hn)⟩
  · rw [hexec, suctionSample_recovery (s.taken _) hduct]
    refine ⟨fun hlow => ?_, fun husable hlevel => ?_⟩
    · have hbad : (usable rep && decide ((s.taken (.dspSampleArrival v rep)).exm.items.ductTrip +
          (s.taken (.dspSampleArrival v rep)).exm.items.ductHyst ≤ v)) = false := by
        rcases hlow with h | h
        · simp [h]
        · simp [Nat.not_le.mpr h]
      rw [hbad]
      rfl
    · have hgood : (usable rep && decide ((s.taken (.dspSampleArrival v rep)).exm.items.ductTrip +
          (s.taken (.dspSampleArrival v rep)).exm.items.ductHyst ≤ v)) = true := by simp [husable, hlevel]
      rw [hgood]
      refine ⟨fun hn => congrArg Host.Outcome.next (if_neg (Nat.not_le.mpr hn)), fun hn => ?_⟩
      have hreturn := ductReturn_eq (s.taken (.dspSampleArrival v rep))
      refine ⟨_, congrArg Host.Outcome.next ((if_pos hn).trans hreturn), ?_, rfl, rfl, fun l => event_link _ _ l⟩
      exact (((taken_frame s _).mono (by decide)).trans ((setExm_frame _ _).mono (by decide))).trans
        (((post_frame _ _).mono (by decide)).trans ((event_frame _ _).mono (by decide)))

section FanFaults

variable (s : State)

/-! ### The recovery timer, the fan faults and SELECT_FAN (R127 to R131) -/

theorem loseDuct_eq : ∀ u, u = (s.driveFan s.exm.duty true).driveFan s.exm.duty.other true → s.loseDuct =
    (u.setExm { u.exm with duct := .lost, recoveryTimer := .stopped, extractionLost := true }).post [.alarmRaise 27] := by
  rintro _ rfl
  rfl

/-- R128: what a fan that is driven on makes of its timer. -/
theorem driveFan_on_timer (f : Fan) : (s.driveFan f true).exm.fanTimers.fan f =
    if s.exm.outputs.fan f = true then s.exm.fanTimers.fan f else s.saq.faultTimer f := by
  split
  next h => exact driveFan_timer_kept s h
  next h => exact driveFan_timer_on s (by simpa using h)

/-- R127: with both fans driven on, each keeps its timer or starts it as its own output had it. -/
theorem driveBoth_timer (d f : Fan) : ((s.driveFan d true).driveFan d.other true).exm.fanTimers.fan f =
    if s.exm.outputs.fan f = true then s.exm.fanTimers.fan f else s.saq.faultTimer f := by
  rcases Fan.eq_or_other d f with rfl | rfl
  · rw [driveFan_timer_ne _ _ (other_ne _).symm, driveFan_on_timer]
  · rw [driveFan_on_timer, driveFan_output, if_neg (other_ne _), driveFan_timer_ne _ _ (other_ne _), driveFan_saq]

theorem driveBoth_outputs (d : Fan) : ((s.driveFan d true).driveFan d.other true).exm.outputs = ⟨true, true⟩ := by
  have hboth (f : Fan) : ((s.driveFan d true).driveFan d.other true).exm.outputs.fan f = true := by
    rcases Fan.eq_or_other d f with rfl | rfl
    · rw [driveFan_output, if_neg (other_ne _).symm, driveFan_output, if_pos rfl]
    · rw [driveFan_output, if_pos rfl]
  have ha := hboth .a
  have hb := hboth .b
  generalize ((s.driveFan d true).driveFan d.other true).exm.outputs = out at ha hb
  cases out
  exact congrArg₂ Pair.mk ha hb

theorem fanFault_eq (f : Fan) : ∀ u, u = (s.setExm { s.exm with
      fanTimers := s.exm.fanTimers.setFan f .expired, fanFaults := s.exm.fanFaults.setFan f true }).post
        [.alarmRaise (Alarm.fanFault f)] →
    s.fanFault f = if s.exm.duct = .normal ∧ f = s.exm.duty then u.changeover else u := by
  rintro _ rfl
  rfl

theorem fanTransition_closed {f : Fan} {tr : Transition} (h : tr.level = .closed) : s.fanTransition f tr = (s.setExm { s.exm with
      fanTimers := s.exm.fanTimers.setFan f .stopped, fanFaults := s.exm.fanFaults.setFan f false }).post
    (if s.exm.fanFaults.fan f = true then [.alarmEnd (Alarm.fanFault f)] else []) := by
  unfold State.fanTransition
  rw [h]
  dsimp only
  split
  · rfl
  · exact (post_nil _).symm

theorem fanTransition_open {f : Fan} {tr : Transition} (h : tr.level ≠ .closed) : s.fanTransition f tr =
    if s.exm.outputs.fan f = true ∧ s.exm.fanTimers.fan f = .stopped then
      s.setExm { s.exm with fanTimers := s.exm.fanTimers.setFan f (.running 5000) } else s := by
  unfold State.fanTransition
  cases hl : tr.level
  case closed => exact absurd hl h
  all_goals rfl

variable {s}

@[simp] theorem fan_ofNat?_code (f : Fan) : Fan.ofNat? (Fan.code f).toNat = some f := by cases f <;> rfl

theorem fan_ofNat?_none : ∀ {n : Nat}, 2 ≤ n → Fan.ofNat? n = none
  | _ + 2, _ => rfl

theorem selectFan_none {n : Nat} (h : 2 ≤ n) : s.selectFan n = s.refuse .invalid := by
  rw [State.selectFan, fan_ofNat?_none h]

theorem selectFan_busy (f : Fan) (h : s.exm.duct ≠ .normal) : s.selectFan (Fan.code f).toNat = s.refuse .busy := by
  simp only [State.selectFan, fan_ofNat?_code, if_pos h]

theorem selectFan_kept (f : Fan) (h : s.exm.duct = .normal) (hsame : f = s.exm.duty ∧ s.exm.outputs.fan f.other = false) :
    s.selectFan (Fan.code f).toNat = s.done := by
  simp only [State.selectFan, fan_ofNat?_code, if_neg (not_not_intro h), if_pos hsame]

theorem selectFan_driven (f : Fan) (h : s.exm.duct = .normal)
    (hother : ¬(f = s.exm.duty ∧ s.exm.outputs.fan f.other = false)) :
    ∀ u, u = (s.driveFan f true).driveFan f.other false →
    s.selectFan (Fan.code f).toNat =
      ((u.setExm { u.exm with duty := f, lowCount := 0 }).event (.fanChangeover f .selected)).done := by
  rintro _ rfl
  simp only [State.selectFan, fan_ofNat?_code, if_neg (not_not_intro h), if_neg hother]

end FanFaults

/-- Settles O51. -/
theorem fansAreWatchedAndSelected : Obligations.FansAreWatchedAndSelected := by
  intro s
  refine ⟨fun hrunning hduct => ?_, fun h => congrArg Host.Outcome.next (if_neg h), fun f h => ?_, fun f u h hu => ?_, ?_,
    fun hidle => ?_, ?_⟩
  · obtain ⟨u, hu⟩ : ∃ u, u = (s.driveFan s.exm.duty true).driveFan s.exm.duty.other true := ⟨_, rfl⟩
    have hexec : exec .recoveryTimerExpiry s = .next s.loseDuct := congrArg Host.Outcome.next (if_pos ⟨hrunning, hduct⟩)
    have hsame := driveFans_same s s.exm.duty s.exm.duty.other true true _ rfl
    have hframe := driveFans_frame s s.exm.duty s.exm.duty.other true true
    have htimer := driveBoth_timer s s.exm.duty
    have hout := driveBoth_outputs s s.exm.duty
    rw [← hu] at hsame hframe htimer hout
    rw [loseDuct_eq s u hu] at hexec
    refine ⟨_, hexec, ?_, ?_, htimer, congrArg (· ++ _) (hframe.posted (by decide))⟩
    · exact ((hframe.mono (by decide)).trans ((setExm_frame u _).mono (by decide))).trans ((post_frame _ _).mono (by decide))
    · rw [hout] at hsame
      rw [post_exm, setExm_exm, hsame]
  · exact congrArg Host.Outcome.next (if_neg (by simp [h]))
  · exact congrArg Host.Outcome.next ((if_pos h).trans (fanFault_eq s f u hu))
  · rintro f tr _ rfl
    exact ⟨fun h => congrArg Host.Outcome.next (fanTransition_closed _ h),
      fun h => congrArg Host.Outcome.next (fanTransition_open _ h)⟩
  · refine exec_done rfl (show emptyBody [] = some () from rfl) hidle (by decide) ?_
    rw [State.clearStamps, received_exm]
  · rintro n _ hidle rfl
    refine ⟨fun hn => exec_refused rfl (numberBody_one rfl) hidle (by decide) (selectFan_none hn), ?_⟩
    rintro f rfl
    have hargs : numberBody 1 [Fan.code f] = some (Fan.code f).toNat := numberBody_one rfl
    refine ⟨fun hduct => ?_, fun hduct => ⟨fun hsame hother => ?_, fun hchange => ?_⟩⟩
    · exact exec_refused rfl hargs hidle (by decide) (selectFan_busy f (by rwa [received_exm]))
    · exact exec_done rfl hargs hidle (by decide)
        (selectFan_kept f (by rwa [received_exm]) (by rw [received_exm]; exact ⟨hsame, hother⟩))
    · obtain ⟨u, hu⟩ : ∃ u, u = ((s.received .machine).driveFan f true).driveFan f.other false := ⟨_, rfl⟩
      have hexec : exec (.selectFan .machine [Fan.code f]) s =
          .next (((u.setExm { u.exm with duty := f, lowCount := 0 }).event (.fanChangeover f .selected)).reply .machine 0x17 .ok
            []) :=
        exec_done rfl hargs hidle (by decide) (selectFan_driven f (by rwa [received_exm]) (by rwa [received_exm]) u hu)
      have hsame := driveFans_same (s.received .machine) f f.other true false _ rfl
      have hdrive := driveFans_frame (s.received .machine) f f.other true false
      have hon : u.exm.outputs.fan f = true := by
        rw [hu, driveFan_output, if_neg (other_ne f).symm, driveFan_output, if_pos rfl]
      have hoff : u.exm.outputs.fan f.other = false := by rw [hu, driveFan_output, if_pos rfl]
      have htimer : u.exm.fanTimers.fan f =
          if s.exm.outputs.fan f = true then s.exm.fanTimers.fan f else s.saq.faultTimer f := by
        rw [hu, driveFan_timer_ne _ _ (other_ne f).symm, driveFan_on_timer, received_exm, received_saq]
      have hstops (h : s.exm.outputs.fan f.other = true) : u.exm.fanTimers.fan f.other = .stopped := by
        rw [hu, driveFan_timer_off]
        rw [driveFan_output, if_neg (other_ne f), received_exm, h]
      rw [← hu] at hsame hdrive
      rw [received_exm] at hsame
      refine ⟨_, hexec, ?_, ?_, hon, hoff, fun h => ?_, fun h => ?_, hstops, ?_⟩
      · exact (((received_frame s .machine).mono (by decide)).trans (hdrive.mono (by decide))).trans
          ((((setExm_frame u _).mono (by decide)).trans ((event_frame _ _).mono (by decide))).trans
            ((reply_frame _ _ _ _ _).mono (by decide)))
      · rw [reply_exm, event_exm, setExm_exm]
        exact congrArg (fun e : Exm => { e with duty := f, lowCount := 0 }) hsame
      · exact htimer.trans (if_pos h)
      · exact htimer.trans (if_neg (by simp [h]))
      · exact reply_links_congr (event_links_congr (hdrive.links (by decide)) hdrive.clock _) _ _ _ _

section Filter

variable (s : State)

/-! ### The filter check (R133, R134) -/

theorem filterJudge_iff {holds : Bool} {level hyst v : Nat} (h : hyst ≤ level) :
    filterJudge holds level hyst v = true ↔ level ≤ v ∨ (holds = true ∧ level - hyst ≤ v) := by
  cases holds with
  | false => simp [filterJudge]
  | true =>
    simp only [filterJudge, if_true, Bool.not_eq_true', decide_eq_false_iff_not, true_and]
    omega

theorem filterIntervalOf_eq (m : LineMode) :
    filterIntervalOf m = if m = .standby ∨ m = .setback then 600000 else 60000 := by
  cases m <;> rfl

theorem exmMode_eq (m : LineMode) : s.exmMode m = if s.exm.filterInterval = filterIntervalOf m then s
    else s.setExm { s.exm with filterTimer := .running (filterIntervalOf m), filterInterval := filterIntervalOf m } := by
  unfold State.exmMode
  by_cases h : filterIntervalOf m = s.exm.filterInterval
  · rw [if_pos h, if_pos h.symm]
  · rw [if_neg h, if_neg (Ne.symm h)]
    rfl

end Filter

/-- Settles O52. -/
theorem theFilterIsChecked : Obligations.TheFilterIsChecked := by
  refine ⟨fun holds level hyst v h => filterJudge_iff h, fun s => ⟨fun v rep => rfl, ?_, ?_⟩⟩
  · rintro m ms hms
    rw [← filterIntervalOf_eq] at hms
    subst hms
    exact congrArg Host.Outcome.next (exmMode_eq (s.taken (.lineModeArrival .exm m)) m)
  · rintro ms hms
    rw [← filterIntervalOf_eq] at hms
    subst hms
    have hexec : exec .filterCheckTimerExpiry s = .next (s.filterCheck.startFilterTimer (filterIntervalOf s.lmc.mode)) := rfl
    refine ⟨fun h => ?_, ?_⟩
    · rw [hexec, State.filterCheck, if_neg (by simp [h])]
      rfl
    · rintro h _ _ rfl rfl
      rw [hexec, State.filterCheck, if_pos h]
      simp only [filterArrivals, eq_comm (a := s.exm.filterLoaded), eq_comm (a := s.exm.filterBlocked)]
      rfl

end Sys2Proof.Machine

/-! Proofs about the track (chapter 1): the stall, READY, the count, and the edges at the entry eye. -/

namespace Sys2Proof.Machine

section Ready

variable (s : State)

/-! ### READY and the stall (R4, R11, R55) -/

theorem running_iff (m : LineMode) : m.running = true ↔ m ∈ [LineMode.production, .changeover, .drain] := by
  cases m <;> decide

theorem gapHolds_iff (t : Trk) (gap : Nat) : t.gapHolds gap = true ↔
    t.entryEye.accepted = .clear ∧ ∀ g, t.gapRef = some g → gap ≤ (t.position - g).toNat := by
  unfold Trk.gapHolds
  cases t.gapRef with
  | none => simp
  | some g =>
    simp only [Bool.and_eq_true, beq_iff_eq, decide_eq_true_eq, Option.some.injEq, forall_eq']
    rfl

theorem readyNow_iff (t : Trk) (m : LineMode) (e : Bool) (gap : Nat) : t.readyNow m e gap = true ↔
    m = .production ∧ e = false ∧ t.trackUnknown = false ∧ t.table.length < 16 ∧
      t.table.length + t.exitLog.length < 24 ∧ t.entryEye.accepted = .clear ∧
      (∀ g, t.gapRef = some g → gap ≤ (t.position - g).toNat) ∧ (t.idRequired = true → t.identities ≠ []) := by
  simp only [Trk.readyNow, Bool.and_eq_true, gapHolds_iff, decide_eq_true_eq, and_assoc]
  cases t.idRequired <;> simp [Config.tableCapacity, Config.readyBelow]

/-- R4: where the condition is present it ends, and its record with it. -/
theorem endStall_eq : s.endStall = (s.setTrk { s.trk with stallPresent := false }).post
    (if s.trk.stallPresent then [.alarmEnd 33] else []) := by
  unfold State.endStall
  cases h : s.trk.stallPresent
  · rw [if_neg (by decide), if_neg (by decide), post_nil, ← h]
    rfl
  · rfl

theorem trkMode_trk (m : LineMode) : (s.trkMode m).trk = { s.trk with
    stallTimer := .running 3000, stallPresent := if m.running = true then s.trk.stallPresent else false,
    ready := s.trk.readyNow m (s.aim.inhibitActive .entry) s.lmc.activeBank.items.minGap } := by
  unfold State.trkMode
  dsimp only
  split
  · rfl
  · rw [endStall_eq]
    rfl

theorem trkMode_posted (m : LineMode) : (s.trkMode m).posted = s.posted ++
    (if m.running = false ∧ s.trk.stallPresent = true then [.alarmEnd 33] else []) := by
  unfold State.trkMode
  dsimp only
  split
  next h => simp [h, State.evalReadyOn]
  next h =>
    rw [endStall_eq]
    have hstall : (s.trk.stallPresent = true) ↔ (m.running = false ∧ s.trk.stallPresent = true) := by simp [h]
    exact congrArg (s.posted ++ ·) (if_congr hstall rfl rfl)

end Ready

/-- Settles O34. -/
theorem stallAndReadyFollowTheirRules : Obligations.StallAndReadyFollowTheirRules := by
  refine ⟨readyNow_iff, ?_⟩
  rintro s _ rfl
  refine ⟨fun h => congrArg Host.Outcome.next (if_neg (by simp [h])), fun hrunning => ⟨?_, fun hstays => ?_⟩,
    fun m => ?_, fun a => rfl, fun b => rfl⟩
  · rintro ⟨htable, hmode, hnew⟩
    exact congrArg Host.Outcome.next ((if_pos hrunning).trans (if_pos ⟨htable, (running_iff _).mpr hmode, hnew⟩))
  · rw [← running_iff] at hstays
    exact congrArg Host.Outcome.next ((if_pos hrunning).trans (if_neg hstays))
  · have hexec : exec (.lineModeArrival .trk m) s = .next ((s.taken (.lineModeArrival .trk m)).trkMode m) := rfl
    have hposted := trkMode_posted (s.taken (.lineModeArrival .trk m)) m
    have htrk := trkMode_trk (s.taken (.lineModeArrival .trk m)) m
    refine ⟨_, hexec, ((taken_frame s _).mono (by decide)).trans (trkMode_frame _ m), ?_, ?_⟩
    · simp only [running_iff] at htrk
      exact htrk
    · simp only [← running_iff, Bool.not_eq_true]
      exact hposted

section Edges

variable (s : State)

/-! ### The entry eye (R13 to R16, R80) -/

theorem removeMismatch_eq (k : MismatchCause) : s.removeMismatch k =
    (s.setTrk { s.trk with mismatch := s.trk.mismatch.set k false }).post
      (if s.trk.mismatch.get k = true ∧ (s.trk.mismatch.set k false).isEmpty = true then [.alarmEnd 34] else []) := by
  unfold State.removeMismatch
  by_cases h : s.trk.mismatch.get k = true
  · rw [if_pos h]
    dsimp only
    by_cases hempty : (s.trk.mismatch.set k false).isEmpty = true
    · rw [if_pos hempty, if_pos ⟨h, hempty⟩]
      rfl
    · rw [if_neg hempty, if_neg (fun hc => hempty hc.2), post_nil]
  · have hsame : s.trk.mismatch.set k false = s.trk.mismatch := by
      rcases hm : s.trk.mismatch with ⟨a, b, c⟩
      rw [hm] at h
      cases k <;> simp_all [MismatchCauses.get, MismatchCauses.set]
    rw [if_neg h, if_neg (fun hc => h hc.1), hsame, post_nil]
    rfl

/-- R21: the entry eye's cause is the last one in the set. -/
theorem entryBlocked_last (c : MismatchCauses) :
    (c.get .entryBlocked = true ∧ (c.set .entryBlocked false).isEmpty = true) ↔ c = ⟨true, false, false⟩ := by
  rcases c with ⟨a, b, c⟩
  cases a <;> cases b <;> cases c <;> decide

theorem exitUntracked_last (c : MismatchCauses) :
    (c.get .exitUntracked = true ∧ (c.set .exitUntracked false).isEmpty = true) ↔ c = ⟨false, true, false⟩ := by
  rcases c with ⟨a, b, c⟩
  cases a <;> cases b <;> cases c <;> decide

theorem boardLost_last (c : MismatchCauses) :
    (c.get .boardLost = true ∧ (c.set .boardLost false).isEmpty = true) ↔ c = ⟨false, false, true⟩ := by
  rcases c with ⟨a, b, c⟩
  cases a <;> cases b <;> cases c <;> decide

/-- A change of one board, as the table has it. -/
theorem update_eq (t : Trk) (q : Nat) (f : BoardRecord → BoardRecord) :
    t.update q f = { t with table := t.table.map fun r => if r.seq = q then f r else r } := by
  simp only [Trk.update, beq_iff_eq]

variable {s}

theorem entryTrailing_entering {q : Nat} {b : BoardRecord} (pos : Position) (hocc : s.trk.entryOcc = .board q)
    (hb : s.trk.board? q = some b) (h : b.phase = .entering) : s.entryTrailing pos =
      (s.updateBoard q fun b => b.captured (s.lmc.bank b.bank).items pos).entryCleared pos := by
  simp only [State.entryTrailing, hocc, hb, if_pos h]

theorem entryTrailing_overrun {q : Nat} {b : BoardRecord} (pos : Position) (hocc : s.trk.entryOcc = .board q)
    (hb : s.trk.board? q = some b) (h : b.phase ≠ .entering) : s.entryTrailing pos =
      (s.removeMismatch .entryBlocked).entryCleared pos := by
  simp only [State.entryTrailing, hocc, hb, if_neg h]

/-- R15: what a trailing edge makes of each occupant. -/
theorem entryTrailing_clauses (pos : Position) : ∀ clear : Trk, clear = { s.trk with gapRef := some pos, entryOcc := .none } →
    (s.trk.entryOcc = .none → s.entryTrailing pos = s) ∧
    (s.trk.entryOcc = .ignored → s.entryTrailing pos = s.setTrk { s.trk with entryOcc := .none }) ∧
    (s.trk.entryOcc = .untracked → s.entryTrailing pos = (s.setTrk clear).post [.alarmEnd 35]) ∧
    (∀ q b, s.trk.entryOcc = .board q → s.trk.board? q = some b →
      (b.phase = .entering → s.entryTrailing pos = s.setTrk { clear with table := s.trk.table.map fun r =>
        if r.seq = q then { r with
          length := some (pos - r.lead).toNat, phase := .inTrack,
          marks := { r.marks with
            lengthOut := r.marks.lengthOut || decide ((pos - r.lead).toNat < (s.lmc.bank r.bank).items.minLength) ||
              decide ((s.lmc.bank r.bank).items.maxLength < (pos - r.lead).toNat) } } else r }) ∧
      (b.phase ≠ .entering → s.entryTrailing pos =
        (s.setTrk { clear with mismatch := { s.trk.mismatch with entryBlocked := false } }).post
          (if s.trk.mismatch = ⟨true, false, false⟩ then [.alarmEnd 34] else []))) := by
  rintro _ rfl
  refine ⟨fun h => ?_, fun h => ?_, fun h => ?_, fun q b hocc hb => ⟨fun h => ?_, fun h => ?_⟩⟩
  · rw [State.entryTrailing, h]
  · rw [State.entryTrailing, h]
  · rw [State.entryTrailing, h]
    rfl
  · rw [entryTrailing_entering pos hocc hb h, State.updateBoard, update_eq]
    simp only [Bool.or_assoc]
    rfl
  · rw [entryTrailing_overrun pos hocc hb h, removeMismatch_eq]
    simp only [entryBlocked_last]
    rfl

theorem entryOverrun_due {q : Nat} {b : BoardRecord} (hocc : s.trk.entryOcc = .board q) (hb : s.trk.board? q = some b)
    (hphase : b.phase = .entering) (htravel : 1240 < (s.trk.position - b.lead).toNat) (hcount : s.trk.entryEye.count = 0) :
    s.entryOverrun = (s.setTrk { s.trk with
        mismatch := { s.trk.mismatch with entryBlocked := true },
        table := s.trk.table.map fun r =>
          if r.seq = q then { r with phase := .inTrack, marks := { r.marks with lengthOut := true } } else r }).post
            (if s.trk.geometry.pNozzle ≤ (s.trk.position - b.lead).toNat then [.alarmRaise 34, .nozzleReached q none]
              else [.alarmRaise 34]) := by
  have hdue : b.phase = .entering ∧ Config.overrunTravel < b.travel s.trk.position ∧ s.trk.entryEye.count = 0 :=
    ⟨hphase, htravel, hcount⟩
  simp only [State.entryOverrun, hocc, hb, if_pos hdue, State.updateBoard, update_eq]
  by_cases hnozzle : s.trk.geometry.pNozzle ≤ (s.trk.position - b.lead).toNat
  · rw [if_pos hnozzle]
    exact (if_pos hnozzle).trans (post_post _ _ _)
  · rw [if_neg hnozzle]
    exact if_neg hnozzle

theorem entryOverrun_not_due (h : ∀ q b, s.trk.entryOcc = .board q → s.trk.board? q = some b → b.phase = .entering →
    1240 < (s.trk.position - b.lead).toNat → s.trk.entryEye.count ≠ 0) : s.entryOverrun = s := by
  unfold State.entryOverrun
  split
  next q hocc =>
    split
    next b hb => exact if_neg fun hdue => h q b hocc hb hdue.1 hdue.2.1 hdue.2.2
    next => rfl
  next => rfl

/-! ### Admission (R13, R14, R17) -/

/-- R13: while the table has room, some slot is free: sixteen slots are more than the records hold. -/
theorem freeSlot_of_room {t : Trk} (h : t.table.length < 16) : t.freeSlot < 16 ∧ (∀ r ∈ t.table, r.slot ≠ t.freeSlot) ∧
    ∀ n, n < t.freeSlot → ∃ r ∈ t.table, r.slot = n := by
  have hfree : ∃ n, ((List.range 16).find? fun n => t.table.all fun b => b.slot != n) = some n := by
    by_contra hnone
    have hall : ∀ n ∈ List.range 16, n ∈ t.table.map (·.slot) := by
      intro n hn
      have htaken := List.find?_eq_none.mp (Option.eq_none_iff_forall_ne_some.mpr fun m hm => hnone ⟨m, hm⟩) n hn
      simpa using htaken
    have hle := (List.nodup_range.subperm hall).length_le
    rw [List.length_range, List.length_map] at hle
    omega
  obtain ⟨n, hn⟩ := hfree
  have hslot : t.freeSlot = n := by rw [Trk.freeSlot, Config.tableCapacity, hn, Option.getD_some]
  obtain ⟨hlt, hfits, hleast⟩ := List.find?_range_eq_some.mp hn
  rw [hslot]
  refine ⟨List.mem_range.mp hfits, by simpa using hlt, fun m hm => ?_⟩
  simpa using hleast m hm

theorem initialEstimate_fst (amb : ChannelRec) :
    (initialEstimate amb).1 = if usable amb.reported then amb.read else 250 := apply_ite Prod.fst _ _ _

theorem initialEstimate_snd (amb : ChannelRec) : (initialEstimate amb).2 = !usable amb.reported := by
  unfold initialEstimate
  cases usable amb.reported <;> rfl

theorem entryLeading_occupied (pos : Position) (h : s.trk.entryOcc ≠ .none) : s.entryLeading pos = s := if_pos h

theorem entryLeading_admits (pos : Position) (hocc : s.trk.entryOcc = .none)
    (h : s.trk.ready = true ∨ (s.trk.table.length < 16 ∧ s.trk.table.length + s.trk.exitLog.length < 32)) :
    s.entryLeading pos = s.createBoard pos s.trk.ready := by
  unfold State.entryLeading
  dsimp only
  rw [if_neg (not_not_intro hocc)]
  cases hready : s.trk.ready
  · rw [if_neg (by decide)]
    exact if_pos (h.resolve_left (by simp [hready]))
  · rfl

theorem entryLeading_refuses (pos : Position) (hocc : s.trk.entryOcc = .none) (hready : s.trk.ready = false)
    (h : ¬(s.trk.table.length < 16 ∧ s.trk.table.length + s.trk.exitLog.length < 32)) : s.entryLeading pos =
      ((s.setTrk { s.trk with entryOcc := .untracked }).post [.alarmRaise 35]).event (.boardUntracked .entry) := by
  unfold State.entryLeading
  dsimp only
  rw [if_neg (not_not_intro hocc), hready, if_neg (by decide)]
  exact if_neg h

/-! ### The position arrivals (R10) -/

theorem mem_ite_singleton {α : Type} (c : Prop) [Decidable c] (x a : α) : a ∈ (if c then [x] else []) ↔ c ∧ a = x := by
  split
  next h => simp [h]
  next h => simp [h]

theorem positionArrivals_mem (b : BoardRecord) (g : Geometry) (pos : Position) (wasEntering : Bool) {x : Nat}
    (hx : x = (pos - b.lead).toNat) (a : Instr) : a ∈ b.positionArrivals g pos wasEntering ↔
      (b.phase ≠ .entering ∧ (x = g.pNozzle ∨ (wasEntering = true ∧ g.pNozzle < x)) ∧ a = .nozzleReached b.seq b.length) ∨
      (∃ len n, b.length = some len ∧ 1 ≤ n ∧ 8 * n < len ∧ x = g.pNozzle + 8 * n ∧ a = .cellBoundary b.seq n) ∨
      (∃ len, b.length = some len ∧ x = g.pNozzle + len ∧ a = .nozzleCleared b.seq) ∨
      (x = g.pGate ∧ a = .gateReached b.seq) ∨ (x = g.pWave - g.wMargin ∧ a = .waveEntered b.seq) ∨
      (x = g.pWave + g.wMargin + 1 + b.length.getD 1240 ∧ a = .waveLeft b.seq) := by
  have htravel : b.travel pos = x := hx.symm
  have hcell (len : Nat) : (g.pNozzle < x ∧ (x - g.pNozzle) % 8 = 0 ∧ x - g.pNozzle < len) ∧
      a = .cellBoundary b.seq ((x - g.pNozzle) / 8) ↔
      ∃ n, 1 ≤ n ∧ 8 * n < len ∧ x = g.pNozzle + 8 * n ∧ a = .cellBoundary b.seq n := by
    constructor
    · rintro ⟨⟨hpast, hmod, hlen⟩, rfl⟩
      exact ⟨_, by omega, by omega, by omega, rfl⟩
    · rintro ⟨n, hn, hlen, rfl, rfl⟩
      rw [Nat.add_sub_cancel_left, Nat.mul_div_cancel_left n (by decide)]
      exact ⟨⟨by omega, by omega, hlen⟩, rfl⟩
  have hdue : b.nozzleDue g pos wasEntering = true ↔
      b.phase ≠ .entering ∧ (x = g.pNozzle ∨ (wasEntering = true ∧ g.pNozzle < x)) := by
    rw [BoardRecord.nozzleDue, htravel]
    simp
  simp only [BoardRecord.positionArrivals, BoardRecord.extent, htravel, List.mem_append, mem_ite_singleton, hdue,
    Config.overrunTravel]
  cases hlen : b.length with
  | none => simp [and_assoc, or_assoc]
  | some len =>
    simp only [List.mem_append, mem_ite_singleton, hcell, Option.some.injEq, exists_eq_left', and_assoc, or_assoc,
      exists_and_left]

theorem ite_singleton_sublist {α : Type} (c : Prop) [Decidable c] (x : α) : List.Sublist (if c then [x] else []) [x] := by
  split
  · exact List.Sublist.refl _
  · exact List.nil_sublist _

/-- One board has no two equal arrivals at one count: they are of six kinds, each posted once at most. -/
theorem positionArrivals_nodup (b : BoardRecord) (g : Geometry) (pos : Position) (wasEntering : Bool) :
    (b.positionArrivals g pos wasEntering).Nodup := by
  have hkinds (n : Nat) : ([.nozzleReached b.seq b.length] ++ ([.cellBoundary b.seq n] ++ [.nozzleCleared b.seq]) ++
      [.gateReached b.seq] ++ [.waveEntered b.seq] ++ [.waveLeft b.seq] : List Instr).Nodup := by simp
  refine List.Sublist.nodup ?_ (hkinds ((b.travel pos - g.pNozzle) / 8))
  unfold BoardRecord.positionArrivals
  refine ((((ite_singleton_sublist _ _).append ?_).append (ite_singleton_sublist _ _)).append
    (ite_singleton_sublist _ _)).append (ite_singleton_sublist _ _)
  cases b.length with
  | none => exact List.nil_sublist _
  | some len => exact (ite_singleton_sublist _ _).append (ite_singleton_sublist _ _)

theorem postPositions_eq (before : List BoardRecord) : s.postPositions before = s.post (s.trk.table.flatMap fun b =>
    b.positionArrivals s.trk.geometry s.trk.position (decide (∃ r ∈ before, r.seq = b.seq ∧ r.phase = .entering))) := by
  have hwas (b : BoardRecord) : (before.any fun x => x.seq == b.seq && x.phase == .entering) =
      decide (∃ r ∈ before, r.seq = b.seq ∧ r.phase = .entering) := by
    rw [Bool.eq_iff_iff]
    simp
  simp only [State.postPositions, hwas]

/-! ### The count (R2) -/

/-- R2: the count up to the eyes. -/
theorem advance_endStall : ((s.setTrk { s.trk with rawIndex := s.trk.rawIndex + 1 }).setTrk
      { s.trk with rawIndex := s.trk.rawIndex + 1 }.advance).endStall =
    (s.setTrk { s.trk with
      rawIndex := s.trk.rawIndex + 1, position := s.trk.position + 1, windowCount := s.trk.windowCount + 1,
      stallTimer := .running 3000, stallPresent := false }).post (if s.trk.stallPresent then [.alarmEnd 33] else []) := by
  rw [endStall_eq]
  rfl

end Edges

/-- Settles O32. -/
theorem leadingEdgesAdmitBoards : Obligations.LeadingEdgesAdmitBoards := by
  refine ⟨?_, fun s before => postPositions_eq before, ?_, fun s pos => entryTrailing_clauses pos,
    fun s => ⟨fun q b => entryOverrun_due, entryOverrun_not_due⟩, ?_⟩
  · rintro s entry exit hcounted s0 h0 x hx s1 h1 s2 h2 y hy s3 h3 s4 h4
    rw [exec_encoderPulse_counted s entry exit hcounted]
    have hstart : ((s.setTrk { s.trk with rawIndex := s.trk.rawIndex + 1 }).setTrk
        { s.trk with rawIndex := s.trk.rawIndex + 1 }.advance).endStall = s0 := advance_endStall.trans h0.symm
    have hentry : s0.entryEyeSample entry = s2 := by
      have hsample : s0.trk.entryEye.sample entry s0.trk.position = x := by rw [h0, hx]; rfl
      rw [State.entryEyeSample, hsample, h2, h1]
      dsimp only
      rcases x.2 with _ | (l | p | p)
      · rfl
      · cases l <;> rfl
      · rfl
      · rfl
    have hkept := entryEyeSample_kept s0 entry
    rw [hentry] at hkept
    have hexit : s2.exitEyeSample exit = s4 := by
      have hsample : s2.trk.exitEye.sample exit s2.trk.position = y := by
        rw [hkept.exitEye, hkept.position, h0, hy]; rfl
      rw [State.exitEyeSample, hsample, h4, h3]
      dsimp only
      rcases y.2 with _ | (l | p | p)
      · rfl
      · cases l <;> rfl
      · rfl
      · rfl
    have htable : s0.trk.table = s.trk.table := by rw [h0]; rfl
    rw [State.trackCount]
    dsimp only
    rw [setTrk_trk, hstart, hentry, hexit, htable]
  · rintro b g pos wasEntering x hx
    exact ⟨positionArrivals_nodup b g pos wasEntering, positionArrivals_mem b g pos wasEntering hx⟩
  · intro s pos
    refine ⟨entryLeading_occupied pos, fun hocc => ⟨fun hroom => ?_, entryLeading_refuses pos hocc⟩⟩
    rw [entryLeading_admits pos hocc hroom]
    refine ⟨_, rfl, rfl, rfl, rfl, rfl, rfl, rfl, rfl, rfl, rfl, ?_, rfl, rfl, rfl, rfl, rfl, rfl, ?_, freeSlot_of_room⟩
    · exact initialEstimate_fst _
    · exact congrArg (fun u => Marks.mk (!s.trk.ready) false false false false u false) (initialEstimate_snd _)

end Sys2Proof.Machine

/-! Proofs about how boards leave the table (chapter 1): the exit log, the exit eye, the overrun checks and CLEAR_TRACK. -/

namespace Sys2Proof.Machine

section Leaving

variable {s : State}

/-! ### The wave without boards (R119) -/

theorem enterWave_trk_of_clear (s : State) (w : WaveState) (h : s.pot.onWave = []) : (s.enterWave w).trk = s.trk := by
  rw [enterWave_trk, h]
  simp

theorem evalWaveOn_trk_of_clear (s : State) (m : LineMode) (e : WaveEffect) (h : s.pot.onWave = []) :
    (s.evalWaveOn m e).trk = s.trk := by
  unfold State.evalWaveOn
  dsimp only
  split
  · rfl
  · exact enterWave_trk_of_clear (s.setPot _) _ h

theorem updateWaveBank_trk_of_clear (s : State) (h : s.pot.onWave = []) : s.updateWaveBank.trk = s.trk := by
  unfold State.updateWaveBank
  split
  · exact enterWave_trk_of_clear (s.setPot _) _ h
  · rfl

/-- With no board on the wave, a board's leaving of the schedule leaves every record as it was. -/
theorem leaveWave_trk_of_clear (s : State) (q : Nat) (h : s.pot.onWave = []) : (s.leaveWave q).trk = s.trk := by
  unfold State.leaveWave
  dsimp only
  obtain ⟨u, hu⟩ : ∃ u, u = (s.setPot { s.pot with
    schedule := s.pot.schedule.filter (fun e => e.seq != q), onWave := s.pot.onWave.filter (fun p => p != q) }).noteOccupancy :=
    ⟨_, rfl⟩
  have htrk : u.trk = s.trk := by rw [hu, (noteOccupancy_frame _).trk (by decide)]; rfl
  have hclear : u.pot.onWave = [] := by rw [hu, noteOccupancy_pot, setPot_pot, h]; rfl
  rw [← hu]
  split
  · split
    · rw [updateWaveBank_trk_of_clear u hclear, htrk]
    · have hwave : u.evalWave.pot.onWave = [] := (evalWaveOn_same u _ _).onWave.trans hclear
      rw [updateWaveBank_trk_of_clear _ hwave, State.evalWave, evalWaveOn_trk_of_clear u _ _ hclear, htrk]
  · exact htrk

/-! ### What is posted stays posted -/

theorem evalWaveOn_appends (s : State) (m : LineMode) (e : WaveEffect) : s.posted <+: (s.evalWaveOn m e).posted := by
  unfold State.evalWaveOn
  dsimp only
  split
  · exact List.prefix_rfl
  · rw [enterWave_posted]
    exact List.prefix_append _ _

theorem updateWaveBank_appends (s : State) : s.posted <+: s.updateWaveBank.posted := by
  unfold State.updateWaveBank
  split
  · dsimp only
    rw [enterWave_posted]
    exact List.prefix_append _ _
  · exact List.prefix_rfl

theorem noteOccupancy_appends (s : State) : s.posted <+: s.noteOccupancy.posted := by
  rw [noteOccupancy_posted]
  exact List.prefix_append _ _

theorem leaveWave_appends (s : State) (q : Nat) : s.posted <+: (s.leaveWave q).posted := by
  have hnoted := noteOccupancy_appends (s.setPot { s.pot with
    schedule := s.pot.schedule.filter (fun e => e.seq != q), onWave := s.pot.onWave.filter (fun p => p != q) })
  unfold State.leaveWave
  dsimp only
  split
  · split
    · exact hnoted.trans (updateWaveBank_appends _)
    · exact (hnoted.trans (evalWaveOn_appends _ _ _)).trans (updateWaveBank_appends _)
  · exact hnoted

/-! ### Leaving the table (R22) -/

/-- R56: a board that leaves while it is being sprayed is DEFICIENT. -/
def BoardRecord.unsprayed (b : BoardRecord) (sprayed : Option Nat) : BoardRecord :=
  if sprayed = some b.seq then { b with fluxStatus := .deficient } else b

/-- The entry eye lets go of a board that leaves the table (R22). -/
def State.vacateEntry (q : Nat) (s : State) : State :=
  if s.trk.entryOcc = .board q then (s.setTrk { s.trk with entryOcc := .ignored }).removeMismatch .entryBlocked else s

theorem vacateEntry_trk (s : State) (q : Nat) : (s.vacateEntry q).trk = { s.trk with
    entryOcc := if s.trk.entryOcc = .board q then .ignored else s.trk.entryOcc,
    mismatch := if s.trk.entryOcc = .board q then { s.trk.mismatch with entryBlocked := false } else s.trk.mismatch } := by
  unfold State.vacateEntry
  split
  · rw [removeMismatch_trk]
    rfl
  · rfl

theorem vacateEntry_posted (s : State) (q : Nat) : (s.vacateEntry q).posted = s.posted ++
    (if s.trk.entryOcc = .board q ∧ s.trk.mismatch = ⟨true, false, false⟩ then [.alarmEnd 34] else []) := by
  unfold State.vacateEntry
  split
  next h =>
    rw [removeMismatch_eq]
    simp only [entryBlocked_last, h, true_and]
    rfl
  next h => simp [h]

theorem vacateEntry_frame (s : State) (q : Nat) : SameBut [.trk, .posted] s (s.vacateEntry q) :=
  SameBut.ite (((setTrk_frame s _).mono (by decide)).trans (removeMismatch_frame _ _)) (.refl _ s)

/-- The board's record has gone from the table to the log, and its spray has been cut (R22, R56). -/
def State.movedOut (b : BoardRecord) (o : ExitOutcome) (s : State) : State :=
  ((s.setFlx (if s.flx.board = some b.seq then { s.flx with board := none, valve := .closed } else s.flx)).setTrk
    { s.trk with
      table := s.trk.table.filter (fun x => x.seq != b.seq),
      exitLog := s.trk.exitLog ++ [(b.unsprayed s.flx.board).exitRecord o s.clock] }).event (.boardExited b.seq o)

theorem board?_seq {t : Trk} {q : Nat} {b : BoardRecord} (h : t.board? q = some b) : b.seq = q := by
  simpa using List.find?_some h

theorem board?_of_mem {t : Trk} {b : BoardRecord} (h : b ∈ t.table) : ∃ r, t.board? b.seq = some r :=
  Option.isSome_iff_exists.mp (List.find?_isSome.mpr ⟨b, h, beq_self_eq_true _⟩)

/-- A change of one board leaves the others' records as they were. -/
theorem update_others (t : Trk) (q : Nat) {f : BoardRecord → BoardRecord} (hf : ∀ b, (f b).seq = b.seq) :
    (t.update q f).table.filter (fun x => x.seq != q) = t.table.filter (fun x => x.seq != q) := by
  rw [update_eq]
  dsimp only
  induction t.table with
  | nil => rfl
  | cons b bs ih =>
    by_cases h : b.seq = q
    · simp [h, hf, ih]
    · simp [h, ih]

theorem board?_update {t : Trk} {q : Nat} {b : BoardRecord} {f : BoardRecord → BoardRecord} (hf : ∀ b, (f b).seq = b.seq)
    (h : t.board? q = some b) : (t.update q f).board? q = some (f b) := by
  have hsame : ((fun b : BoardRecord => b.seq == q) ∘ fun b => if b.seq == q then f b else b) = fun b => b.seq == q := by
    funext r
    simp only [Function.comp_apply]
    split <;> simp [hf]
  rw [Trk.board?, Trk.update, List.find?_map, hsame, show t.table.find? (fun b => b.seq == q) = some b from h]
  simp [board?_seq h]

/-- R22: the removed record is the table's, DEFICIENT where it was being sprayed, and POT and LMC take note of it. -/
theorem leaveTable_eq {q : Nat} {b : BoardRecord} (o : ExitOutcome) (hb : s.trk.board? q = some b) :
    ∀ w, w = ((s.movedOut b o).vacateEntry q).leaveWave q →
    s.leaveTable q o = (if b.decision = .pending then w.postGated else w).noteEmptyTable := by
  rintro _ rfl
  have hseq := board?_seq hb
  unfold State.leaveTable State.removeSprayed State.movedOut State.vacateEntry BoardRecord.unsprayed
  dsimp only
  by_cases hspray : s.flx.board = some q
  · have hf : ∀ r : BoardRecord, ({ r with fluxStatus := .deficient } : BoardRecord).seq = r.seq := fun _ => rfl
    have hfound := board?_update hf hb
    have hothers := update_others s.trk q hf
    rw [if_pos hspray, hseq, if_pos hspray, if_pos hspray]
    simp only [updateBoard_trk, setFlx_trk, hfound, Trk.moveOut, hseq, hothers]
    rfl
  · rw [if_neg hspray, hseq, if_neg hspray, if_neg hspray]
    simp only [hb, Trk.moveOut, hseq]
    rfl

theorem filter_seq_ne (bs : List BoardRecord) (q : Nat) :
    (bs.filter fun x => x.seq != q).map (·.seq) = (bs.map (·.seq)).filter (· != q) := by
  rw [List.filter_map]
  rfl

/-- What TRK has of a board's leaving, before the table is found empty or not. -/
theorem left_trk (s : State) (b : BoardRecord) (o : ExitOutcome) : ∀ w, w = ((s.movedOut b o).vacateEntry b.seq).leaveWave b.seq →
    (∃ f : BoardRecord → BoardRecord, (∀ r, (f r).seq = r.seq) ∧ (s.pot.onWave = [] → ∀ r, f r = r) ∧ w.trk = { s.trk with
      table := (s.trk.table.filter fun x => x.seq != b.seq).map f,
      exitLog := s.trk.exitLog ++ [(b.unsprayed s.flx.board).exitRecord o s.clock],
      entryOcc := if s.trk.entryOcc = .board b.seq then .ignored else s.trk.entryOcc,
      mismatch := if s.trk.entryOcc = .board b.seq then { s.trk.mismatch with entryBlocked := false }
        else s.trk.mismatch }) := by
  rintro _ rfl
  have hpot : ((s.movedOut b o).vacateEntry b.seq).pot = s.pot := (vacateEntry_frame _ _).pot (by decide)
  have htrk := vacateEntry_trk (s.movedOut b o) b.seq
  by_cases hclear : s.pot.onWave = []
  · refine ⟨id, fun _ => rfl, fun _ _ => rfl, ?_⟩
    rw [leaveWave_trk_of_clear _ _ (by rw [hpot, hclear]), htrk, List.map_id]
    rfl
  · obtain ⟨f, hf, hmap⟩ := leaveWave_boards ((s.movedOut b o).vacateEntry b.seq) b.seq
    refine ⟨f, hf, fun h => absurd h hclear, ?_⟩
    rw [hmap, htrk]
    rfl

theorem noteEmptyTable_trk (s : State) : s.noteEmptyTable.trk =
    { s.trk with stallPresent := if s.trk.table = [] then false else s.trk.stallPresent } := by
  unfold State.noteEmptyTable
  dsimp only
  split
  · split
    · exact endStall_trk s
    · exact endStall_trk s
  · rfl

theorem noteEmptyTable_posted (s : State) : s.noteEmptyTable.posted = s.posted ++ (if s.trk.table = [] then
    (if s.trk.stallPresent = true then [.alarmEnd 33] else []) ++
      (if s.lmc.mode = .drain then [.tableEmptyArrival] else []) else []) := by
  have hlmc : s.endStall.lmc = s.lmc := (endStall_frame s).lmc (by decide)
  unfold State.noteEmptyTable
  dsimp only
  by_cases htable : s.trk.table = []
  · rw [if_pos htable, if_pos htable, hlmc]
    by_cases hdrain : s.lmc.mode = .drain
    · rw [if_pos hdrain, if_pos hdrain, post_posted, endStall_posted, List.append_assoc]
      rfl
    · rw [if_neg hdrain, if_neg hdrain, endStall_posted, List.append_nil]
      rfl
  · rw [if_neg htable, if_neg htable, List.append_nil]

/-- What a board's leaving makes of the state (R22). -/
structure Left (b : BoardRecord) (o : ExitOutcome) (s t : State) : Prop where
  trk : ∃ f : BoardRecord → BoardRecord, (∀ r, (f r).seq = r.seq) ∧ (s.pot.onWave = [] → ∀ r, f r = r) ∧ t.trk = { s.trk with
    table := (s.trk.table.filter fun x => x.seq != b.seq).map f,
    exitLog := s.trk.exitLog ++ [(b.unsprayed s.flx.board).exitRecord o s.clock],
    entryOcc := if s.trk.entryOcc = .board b.seq then .ignored else s.trk.entryOcc,
    mismatch := if s.trk.entryOcc = .board b.seq then { s.trk.mismatch with entryBlocked := false } else s.trk.mismatch,
    stallPresent := if t.trk.table = [] then false else s.trk.stallPresent }
  flx : t.flx = if s.flx.board = some b.seq then { s.flx with board := none, valve := .closed } else s.flx
  schedule : t.pot.schedule = s.pot.schedule.filter (fun e => e.seq != b.seq)
  onWave : t.pot.onWave = s.pot.onWave.filter (fun q => q != b.seq)
  links : t.links = (s.event (.boardExited b.seq o)).links
  entryFreed : s.trk.entryOcc = .board b.seq → s.trk.mismatch = ⟨true, false, false⟩ → Instr.alarmEnd 34 ∈ t.posted
  gated : b.decision = .pending → Instr.gatedArrival t.trk.pendingBoards ∈ t.posted
  emptied : t.trk.table = [] → (s.trk.stallPresent = true → Instr.alarmEnd 33 ∈ t.posted) ∧
    (s.lmc.mode = .drain → Instr.tableEmptyArrival ∈ t.posted)

theorem leaveTable_left {q : Nat} {b : BoardRecord} (o : ExitOutcome) (hb : s.trk.board? q = some b) :
    Left b o s (s.leaveTable q o) := by
  obtain rfl := board?_seq hb
  obtain ⟨v, hv⟩ : ∃ v, v = (s.movedOut b o).vacateEntry b.seq := ⟨_, rfl⟩
  obtain ⟨w, hw⟩ : ∃ w, w = v.leaveWave b.seq := ⟨_, rfl⟩
  have hvframe : SameBut [.trk, .flx, .links, .posted] s v := by
    have hmoved : SameBut [.trk, .flx, .links, .posted] s (s.movedOut b o) :=
      (((setFlx_frame s _).mono (by decide)).trans ((setTrk_frame _ _).mono (by decide))).trans
        ((event_frame _ _).mono (by decide))
    rw [hv]
    exact hmoved.trans ((vacateEntry_frame _ _).mono (by decide))
  have hvlinks : v.links = (s.event (.boardExited b.seq o)).links := by
    rw [hv, (vacateEntry_frame _ _).links (by decide)]
    rfl
  have hvflx : v.flx = if s.flx.board = some b.seq then { s.flx with board := none, valve := .closed } else s.flx := by
    rw [hv, (vacateEntry_frame _ _).flx (by decide)]
    rfl
  have hwframe : SameBut [.trk, .pot, .posted] v w := hw ▸ leaveWave_frame v b.seq
  obtain ⟨hschedule, honwave, -⟩ := leaveWave_lists v b.seq
  obtain ⟨f, hf, hid, hwtrk⟩ := left_trk s b o w (by rw [hw, hv])
  have hposted : v.posted <+: w.posted := hw ▸ leaveWave_appends v b.seq
  have heq := leaveTable_eq o hb w (by rw [hw, hv])
  obtain ⟨x, hx⟩ : ∃ x, x = if b.decision = .pending then w.postGated else w := ⟨_, rfl⟩
  have hxframe : SameBut [.posted] w x := by
    rw [hx]
    exact SameBut.ite (post_frame _ _) (.refl _ w)
  have hxtrk : x.trk = w.trk := hxframe.trk (by decide)
  have hxposted : w.posted <+: x.posted := by
    rw [hx]
    split
    · exact List.prefix_append _ _
    · exact List.prefix_rfl
  rw [← hx] at heq
  have htframe := noteEmptyTable_frame x
  have htrk := noteEmptyTable_trk x
  have htposted := noteEmptyTable_posted x
  rw [← heq] at htframe htrk htposted
  have htable : (s.leaveTable b.seq o).trk.table = x.trk.table := (congrArg Trk.table htrk :)
  have hstall : x.trk.stallPresent = s.trk.stallPresent := by rw [hxtrk, hwtrk]
  have hmode : x.lmc = s.lmc := by
    rw [hxframe.lmc (by decide), hwframe.lmc (by decide), hvframe.lmc (by decide)]
  have hmem {a : Instr} (h : a ∈ x.posted) : a ∈ (s.leaveTable b.seq o).posted := by
    rw [htposted]
    exact List.mem_append_left _ h
  refine
    { trk := ⟨f, hf, hid, ?_⟩
      flx := ?_
      schedule := ?_
      onWave := ?_
      links := ?_
      entryFreed := fun hocc hlast => hmem (hxposted.subset (hposted.subset ?_))
      gated := fun hpending => hmem ?_
      emptied := fun hempty => ⟨fun h => ?_, fun h => ?_⟩ }
  · rw [htable, htrk, hxtrk, hwtrk]
  · rw [htframe.flx (by decide), hxframe.flx (by decide), hwframe.flx (by decide), hvflx]
  · rw [htframe.pot (by decide), hxframe.pot (by decide), hw, hschedule, hvframe.pot (by decide)]
  · rw [htframe.pot (by decide), hxframe.pot (by decide), hw, honwave, hvframe.pot (by decide)]
  · rw [htframe.links (by decide), hxframe.links (by decide), hwframe.links (by decide), hvlinks]
  · rw [hv, vacateEntry_posted]
    exact List.mem_append_right _ (by rw [if_pos ⟨hocc, hlast⟩]; exact List.mem_singleton_self _)
  · have hcount : (s.leaveTable b.seq o).trk.pendingBoards = w.trk.pendingBoards := by
      rw [Trk.pendingBoards, htable, hxtrk]
      rfl
    rw [hcount, hx, if_pos hpending]
    exact List.mem_append_right _ (List.mem_singleton_self _)
  · rw [htposted, if_pos (htable ▸ hempty), hstall, if_pos h]
    exact List.mem_append_right _ (List.mem_append_left _ (List.mem_singleton_self _))
  · rw [htposted, if_pos (htable ▸ hempty), hmode, if_pos h]
    exact List.mem_append_right _ (List.mem_append_right _ (List.mem_singleton_self _))

/-! ### The exit eye (R19, R23) -/

theorem inExitWindow_iff (g : Geometry) (x : Nat) :
    g.inExitWindow x = true ↔ g.pExit - g.tolerance ≤ x ∧ x ≤ g.pExit + g.tolerance := by
  simp [Geometry.inExitWindow]

theorem exitLeading_matches {pos : Position} {b : BoardRecord} (hocc : s.trk.exitOcc = .none)
    (hfirst : s.trk.table.find? (fun b => b.phase == .inTrack) = some b)
    (hwindow : s.trk.geometry.inExitWindow (pos - b.lead).toNat = true) :
    s.exitLeading pos = (s.setTrk { s.trk with
        exitOcc := .board b.seq, mismatch := { s.trk.mismatch with boardLost := false },
        table := s.trk.table.map fun r => if r.seq = b.seq then { r with phase := .atExit } else r }).post
      (if s.trk.mismatch = ⟨false, false, true⟩ then [.alarmEnd 34] else []) := by
  have hoccupant : ¬s.trk.exitOcc ≠ .none := not_not_intro hocc
  have htravel : s.trk.geometry.inExitWindow (b.travel pos) = true := hwindow
  unfold State.exitLeading
  rw [if_neg hoccupant, Trk.oldestInTrack, hfirst]
  dsimp only
  rw [if_pos htravel, removeMismatch_eq, update_eq]
  simp only [boardLost_last]
  rfl

theorem exitLeading_untracked {pos : Position} (hocc : s.trk.exitOcc = .none)
    (hnone : ∀ b, s.trk.table.find? (fun b => b.phase == .inTrack) = some b →
      s.trk.geometry.inExitWindow (pos - b.lead).toNat = false) :
    s.exitLeading pos = ((s.setTrk { s.trk with
        exitOcc := .untracked, mismatch := { s.trk.mismatch with exitUntracked := true } }).post [.alarmRaise 34]).event
      (.boardUntracked .exit) := by
  have hoccupant : ¬s.trk.exitOcc ≠ .none := not_not_intro hocc
  unfold State.exitLeading
  rw [if_neg hoccupant, Trk.oldestInTrack]
  split
  next b hb =>
    have htravel : ¬s.trk.geometry.inExitWindow (b.travel pos) = true := (Bool.not_eq_true _).mpr (hnone b hb)
    exact if_neg htravel
  next => rfl

theorem exitTrailing_untracked (h : s.trk.exitOcc = .untracked) : s.exitTrailing = (s.setTrk { s.trk with
    exitOcc := .none, mismatch := { s.trk.mismatch with exitUntracked := false } }).post
      (if s.trk.mismatch = ⟨false, true, false⟩ then [.alarmEnd 34] else []) := by
  rw [State.exitTrailing, h]
  dsimp only
  rw [removeMismatch_eq]
  simp only [exitUntracked_last]
  rfl

/-! ### The exit overrun check (R20) -/

theorem exitMatchPending_iff (t : Trk) (b : BoardRecord) : t.exitMatchPending b = true ↔
    t.exitEye.accepted = .clear ∧ 0 < t.exitEye.count ∧ t.exitEye.candidate = .blocked ∧
      t.geometry.inExitWindow (t.exitEye.first - b.lead).toNat = true := by
  simp only [Trk.exitMatchPending, Bool.and_eq_true, beq_iff_eq, decide_eq_true_eq, and_assoc]
  rfl

theorem loseBoards_first {b : BoardRecord} (n : Nat) (hfirst : s.trk.oldestInTrack = some b) : s.loseBoards (n + 1) =
    if s.trk.geometry.pExit + s.trk.geometry.tolerance < b.travel s.trk.position ∧ s.trk.exitMatchPending b = false then
      ((s.leaveTable b.seq .lost).addMismatch .boardLost).loseBoards n
    else s := by
  rw [State.loseBoards, hfirst]

theorem loseBoards_none (n : Nat) (hnone : s.trk.oldestInTrack = none) : s.loseBoards n = s := by
  cases n with
  | zero => rfl
  | succ n => rw [State.loseBoards, hnone]

theorem leaveTable_shorter {q : Nat} {b : BoardRecord} (o : ExitOutcome) (hb : s.trk.board? q = some b) :
    (s.leaveTable q o).trk.table.length < s.trk.table.length := by
  obtain ⟨f, -, -, htrk⟩ := (leaveTable_left o hb).trk
  rw [(congrArg Trk.table htrk :), List.length_map]
  exact List.length_filter_lt_length_iff_exists.mpr ⟨b, mem_of_board? hb, by simp⟩

/-- The rounds end with the oldest record inside its window, or under a pending change that would match it. -/
theorem loseBoards_done : ∀ (n : Nat) (s : State), s.trk.table.length ≤ n → ∀ b, (s.loseBoards n).trk.oldestInTrack = some b →
    ¬((s.loseBoards n).trk.geometry.pExit + (s.loseBoards n).trk.geometry.tolerance <
      b.travel (s.loseBoards n).trk.position ∧ (s.loseBoards n).trk.exitMatchPending b = false)
  | 0, s, hlen, b, hb => by
    have hempty : s.trk.table = [] := List.length_eq_zero_iff.mp (Nat.le_zero.mp hlen)
    rw [State.loseBoards, Trk.oldestInTrack, hempty] at hb
    cases hb
  | n + 1, s, hlen, b, hb => by
    cases hfirst : s.trk.oldestInTrack with
    | none =>
      rw [loseBoards_none _ hfirst, hfirst] at hb
      cases hb
    | some r =>
      rw [loseBoards_first n hfirst] at hb ⊢
      by_cases hlost : s.trk.geometry.pExit + s.trk.geometry.tolerance < r.travel s.trk.position ∧
          s.trk.exitMatchPending r = false
      · rw [if_pos hlost] at hb ⊢
        refine loseBoards_done n _ ?_ b hb
        obtain ⟨r', hr'⟩ := board?_of_mem (List.mem_of_find?_eq_some hfirst)
        exact Nat.le_of_lt_succ (Nat.lt_of_lt_of_le (leaveTable_shorter .lost hr') hlen)
      · rw [if_neg hlost, hfirst] at hb
        obtain rfl := Option.some.inj hb
        rwa [if_neg hlost]

theorem exitHeld_board {q : Nat} {b : BoardRecord} (hocc : s.trk.exitOcc = .board q) (hb : s.trk.board? q = some b) :
    ∀ u, u = s.leaveTable q .lost →
    s.exitHeld = if s.trk.geometry.pExit + 1240 + s.trk.geometry.tolerance < (s.trk.position - b.lead).toNat then
      (u.setTrk { u.trk with
        exitOcc := .untracked, mismatch := { u.trk.mismatch with exitUntracked := true } }).post [.alarmRaise 34]
      else s := by
  rintro _ rfl
  rw [State.exitHeld, hocc]
  dsimp only
  rw [hb]
  rfl

theorem exitHeld_other (h : ∀ q, s.trk.exitOcc ≠ .board q) : s.exitHeld = s := by
  unfold State.exitHeld
  split
  next q hocc => exact absurd hocc (h q)
  next => rfl

end Leaving

section Clearing

/-! ### CLEAR_TRACK (R25) -/

/-- What TRK and the schedule are after every board of a table has left it, oldest first. -/
structure Cleared (s t : State) : Prop where
  table : t.trk.table = []
  exitLog : t.trk.exitLog = s.trk.exitLog ++
    s.trk.table.map fun b => (b.unsprayed s.flx.board).exitRecord .cleared s.clock
  removed : t.trk.removed = s.trk.removed
  identities : t.trk.identities = s.trk.identities
  nextSeq : t.trk.nextSeq = s.trk.nextSeq
  exitOcc : t.trk.exitOcc = s.trk.exitOcc
  mismatch : s.trk.mismatch.entryBlocked = false → t.trk.mismatch = s.trk.mismatch
  entryTaken : ∀ b ∈ s.trk.table, s.trk.entryOcc = .board b.seq → t.trk.entryOcc = .ignored
  entryOther : (∀ b ∈ s.trk.table, s.trk.entryOcc ≠ .board b.seq) → t.trk.entryOcc = s.trk.entryOcc
  fewer : ∀ e ∈ t.pot.schedule, e ∈ s.pot.schedule
  schedule : ∀ b ∈ s.trk.table, ∀ e ∈ t.pot.schedule, e.seq ≠ b.seq

/-- One board after another: the first leaves, then the rest. -/
theorem Cleared.cons {s u t : State} {b : BoardRecord} {bs : List BoardRecord} (htable : s.trk.table = b :: bs)
    (hnodup : (s.trk.table.map (·.seq)).Nodup) (hwave : s.pot.onWave = []) (hclock : u.clock = s.clock)
    (hleft : Left b .cleared s u) (hrest : Cleared u t) : Cleared s t := by
  obtain ⟨f, -, hid, htrk⟩ := hleft.trk
  rw [htable, List.map_cons, List.nodup_cons] at hnodup
  obtain ⟨hnew, -⟩ := hnodup
  have hothers : ∀ r ∈ bs, r.seq ≠ b.seq := fun r hr h => hnew (List.mem_map.mpr ⟨r, hr, h⟩)
  have hkept : (bs.filter fun x => x.seq != b.seq) = bs :=
    List.filter_eq_self.mpr fun r hr => by simpa using hothers r hr
  have hu : u.trk.table = bs := by
    rw [(congrArg Trk.table htrk :), htable, List.filter_cons_of_neg (by simp), hkept, (funext (hid hwave) : f = id), List.map_id]
  have hsprayed : ∀ r ∈ bs, r.unsprayed u.flx.board = r.unsprayed s.flx.board := by
    intro r hr
    unfold BoardRecord.unsprayed
    rw [hleft.flx]
    by_cases h : s.flx.board = some b.seq
    · rw [if_pos h, h, if_neg (by simp), if_neg (by simpa using (hothers r hr).symm)]
    · rw [if_neg h]
  have hentry : u.trk.entryOcc = if s.trk.entryOcc = .board b.seq then .ignored else s.trk.entryOcc :=
    (congrArg Trk.entryOcc htrk :)
  refine
    { table := hrest.table
      exitLog := ?_
      removed := hrest.removed.trans (congrArg Trk.removed htrk :)
      identities := hrest.identities.trans (congrArg Trk.identities htrk :)
      nextSeq := hrest.nextSeq.trans (congrArg Trk.nextSeq htrk :)
      exitOcc := hrest.exitOcc.trans (congrArg Trk.exitOcc htrk :)
      mismatch := fun h => ?_
      entryTaken := ?_
      entryOther := fun h => ?_
      fewer := fun e he => ?_
      schedule := ?_ }
  · have hlog : u.trk.exitLog = s.trk.exitLog ++ [(b.unsprayed s.flx.board).exitRecord .cleared s.clock] :=
      (congrArg Trk.exitLog htrk :)
    rw [hrest.exitLog, hlog, hu, htable, hclock, List.map_cons, List.append_assoc, List.singleton_append]
    exact congrArg (fun l => s.trk.exitLog ++ (_ :: l)) (List.map_congr_left fun r hr => by rw [hsprayed r hr])
  · have hsame : u.trk.mismatch = s.trk.mismatch := by
      have hleftSet : u.trk.mismatch = if s.trk.entryOcc = .board b.seq then { s.trk.mismatch with entryBlocked := false }
          else s.trk.mismatch := (congrArg Trk.mismatch htrk :)
      rw [hleftSet, ← h]
      exact ite_self _
    exact (hrest.mismatch (by rw [hsame, h])).trans hsame
  · intro r hr hocc
    rw [htable] at hr
    rcases List.mem_cons.mp hr with rfl | hr
    · rw [if_pos hocc] at hentry
      exact (hrest.entryOther fun x _ => by rw [hentry]; exact Occupant.noConfusion).trans hentry
    · rw [if_neg (by rw [hocc]; simpa using hothers r hr), hocc] at hentry
      exact hrest.entryTaken r (by rwa [hu]) hentry
  · rw [if_neg (h b (by rw [htable]; exact List.mem_cons_self))] at hentry
    refine (hrest.entryOther fun r hr => ?_).trans hentry
    rw [hentry]
    exact h r (by rw [htable]; exact List.mem_cons_of_mem _ (hu ▸ hr))
  · have hmem := hrest.fewer e he
    rw [hleft.schedule] at hmem
    exact List.mem_of_mem_filter hmem
  · intro r hr e he
    rw [htable] at hr
    rcases List.mem_cons.mp hr with rfl | hr
    · have hmem := hrest.fewer e he
      rw [hleft.schedule] at hmem
      simpa using List.of_mem_filter hmem
    · exact hrest.schedule r (by rwa [hu]) e he

theorem filter_first_seq {b : BoardRecord} {bs : List BoardRecord} (h : ((b :: bs).map (·.seq)).Nodup) :
    ((b :: bs).map (·.seq)).filter (· != b.seq) = bs.map (·.seq) := by
  rw [List.map_cons, List.nodup_cons] at h
  rw [List.map_cons, List.filter_cons_of_neg (by simp), List.filter_eq_self]
  rintro q hq
  have hne : q ≠ b.seq := fun he => h.1 (he ▸ hq)
  simpa using hne

theorem clearBoards_cleared : ∀ (n : Nat) (s : State), s.trk.table.length = n → (s.trk.table.map (·.seq)).Nodup →
    s.pot.onWave = [] → Cleared s (s.clearBoards n)
  | 0, s, hlen, _, _ => by
    have hempty : s.trk.table = [] := List.length_eq_zero_iff.mp hlen
    exact
      { table := hempty
        exitLog := by rw [hempty]; exact (List.append_nil _).symm
        removed := rfl
        identities := rfl
        nextSeq := rfl
        exitOcc := rfl
        mismatch := fun _ => rfl
        entryTaken := by rw [hempty]; intro b hb; cases hb
        entryOther := fun _ => rfl
        fewer := fun _ he => he
        schedule := by rw [hempty]; intro b hb; cases hb }
  | n + 1, s, hlen, hnodup, hwave => by
    cases htable : s.trk.table with
    | nil => rw [htable] at hlen; cases hlen
    | cons b bs =>
      have hfound : s.trk.board? b.seq = some b := by simp [Trk.board?, htable]
      have hleft := leaveTable_left .cleared hfound
      have hframe := leaveTable_frame s b.seq .cleared
      have hrounds : s.clearBoards (n + 1) = (s.leaveTable b.seq .cleared).clearBoards n := by
        rw [State.clearBoards, htable]
      obtain ⟨f, hf, -, htrk⟩ := hleft.trk
      have hseqs : (s.leaveTable b.seq .cleared).trk.table.map (·.seq) = (s.trk.table.map (·.seq)).filter (· != b.seq) := by
        rw [(congrArg Trk.table htrk :), List.map_map, ← filter_seq_ne]
        exact List.map_congr_left fun r _ => hf r
      rw [hrounds]
      refine Cleared.cons htable hnodup hwave hframe.clock hleft (clearBoards_cleared n _ ?_ ?_ ?_)
      · have hlength := congrArg List.length hseqs
        rw [htable, filter_first_seq (htable ▸ hnodup), List.length_map, List.length_map] at hlength
        rw [hlength]
        exact Nat.succ.inj ((congrArg List.length htable).symm.trans hlen)
      · rw [hseqs]
        exact hnodup.filter _
      · rw [hleft.onWave, hwave]
        rfl

/-- What CLEAR_TRACK does once the boards have left: the eyes, the gap reference, TRACK_UNKNOWN and the mismatch set. -/
def State.freeTrack (s : State) : State :=
  (s.setTrk { s.trk with
    exitOcc := clearedOccupant s.trk.exitOcc, gapRef := none, trackUnknown := false }).removeMismatch .boardLost

theorem freeTrack_trk (s : State) : s.freeTrack.trk = { s.trk with
    exitOcc := clearedOccupant s.trk.exitOcc, gapRef := none, trackUnknown := false,
    mismatch := { s.trk.mismatch with boardLost := false } } := by
  rw [State.freeTrack, removeMismatch_trk]
  rfl

theorem freeTrack_posted (s : State) : s.freeTrack.posted = s.posted ++
    (if s.trk.mismatch = ⟨false, false, true⟩ then [.alarmEnd 34] else []) := by
  rw [State.freeTrack, removeMismatch_eq]
  simp only [boardLost_last]
  rfl

theorem freeTrack_frame (s : State) : SameBut [.trk, .posted] s s.freeTrack :=
  ((setTrk_frame s _).mono (by decide)).trans (removeMismatch_frame _ _)

theorem clearTrack_eq {s : State} (hprod : s.lmc.mode ≠ .production) (hchange : s.lmc.mode ≠ .changeover)
    (hwave : s.pot.onWave = []) : s.clearTrack = (s.clearBoards s.trk.table.length).freeTrack.evalReady.done :=
  (if_neg (not_or.mpr ⟨hprod, hchange⟩)).trans (if_neg (not_not_intro hwave))

theorem clearedOccupant_ne_board (o : Occupant) (q : Nat) : clearedOccupant o ≠ .board q := by
  cases o <;> exact Occupant.noConfusion

theorem clearedOccupant_other {o : Occupant} (h : ∀ q, o ≠ .board q) : clearedOccupant o = o := by
  cases o with
  | board q => exact absurd rfl (h q)
  | _ => rfl

end Clearing

/-- Settles O33. -/
theorem boardsLeaveThroughTheLog : Obligations.BoardsLeaveThroughTheLog := by
  refine ⟨?_, inExitWindow_iff, ?_, ?_, ?_, ?_⟩
  · rintro s seq o b hb _ rfl
    obtain rfl := board?_seq hb
    have hleft := leaveTable_left o hb
    obtain ⟨f, hf, -, htrk⟩ := hleft.trk
    refine ⟨leaveTable_frame s _ _, ?_, (congrArg Trk.removed htrk :), (congrArg Trk.exitLog htrk :), hleft.flx,
      hleft.schedule, hleft.onWave, (congrArg Trk.entryOcc htrk :), fun l => ?_, (congrArg Trk.mismatch htrk :),
      hleft.entryFreed, hleft.gated, fun h => ?_, fun h => ⟨?_, hleft.emptied h⟩⟩
    · rw [(congrArg Trk.table htrk :), List.map_map, ← filter_seq_ne]
      exact List.map_congr_left fun r _ => hf r
    · rw [State.link, hleft.links]
      exact event_link s _ l
    · rw [(congrArg Trk.stallPresent htrk :), if_neg h]
    · rw [(congrArg Trk.stallPresent htrk :), if_pos h]
  · rintro s pos _ rfl
    exact ⟨fun h => if_pos h, fun hocc => ⟨fun b => exitLeading_matches hocc, exitLeading_untracked hocc⟩⟩
  · intro s
    refine ⟨fun h => ?_, fun h => ?_, exitTrailing_untracked, ?_⟩
    · rw [State.exitTrailing, h]
    · rw [State.exitTrailing, h]
    · rintro q _ h rfl
      rw [State.exitTrailing, h]
  · intro s
    refine ⟨rfl, ?_, ?_, fun n hnone => ?_, fun q b u hocc hb hu => exitHeld_board hocc hb u hu, exitHeld_other⟩
    · rintro _ rfl b hb
      have hdone := loseBoards_done _ s le_rfl b hb
      rw [← exitMatchPending_iff]
      by_contra hlost
      rw [not_or, Bool.not_eq_true, Nat.not_le] at hlost
      exact hdone hlost
    · rintro n b _ hfirst rfl lost hlost
      rw [← exitMatchPending_iff, Bool.not_eq_true] at hlost
      rw [loseBoards_first n hfirst]
      exact if_congr hlost.symm rfl rfl
    · refine loseBoards_none n (List.find?_eq_none.mpr fun b hb => ?_)
      simpa using hnone b hb
  · rintro s g hidle rfl
    have hargs : emptyBody [] = some () := rfl
    refine ⟨fun hmode => exec_refused rfl hargs hidle (by decide) (if_pos hmode), fun hprod hchange => ?_⟩
    refine ⟨fun hwave => exec_refused rfl hargs hidle (by decide) ?_, fun hwave hnodup => ?_⟩
    · rw [State.clearTrack, received_lmc, received_pot]
      exact (if_neg (not_or.mpr ⟨hprod, hchange⟩)).trans (if_pos hwave)
    obtain ⟨g, hg⟩ : ∃ g, g = s.received .machine := ⟨_, rfl⟩
    obtain ⟨c, hc⟩ : ∃ c, c = g.clearBoards g.trk.table.length := ⟨_, rfl⟩
    obtain ⟨x, hx⟩ : ∃ x, x = c.freeTrack.evalReady := ⟨_, rfl⟩
    have htrk : g.trk = s.trk := by rw [hg, received_trk]
    have hpot : g.pot = s.pot := by rw [hg, received_pot]
    have hflx : g.flx = s.flx := by rw [hg, received_flx]
    have hgframe : SameBut [.trk, .flx, .pot, .links, .posted] s g := hg ▸ (received_frame s .machine).mono (by decide)
    have hcframe : SameBut [.trk, .flx, .pot, .links, .posted] g c := hc ▸ clearBoards_frame _ g
    have hvframe : SameBut [.trk, .flx, .pot, .links, .posted] s c.freeTrack :=
      (hgframe.trans hcframe).trans ((freeTrack_frame c).mono (by decide))
    have hxframe : SameBut [.trk, .flx, .pot, .links, .posted] c.freeTrack x := hx ▸ (evalReady_frame _).mono (by decide)
    have hact : g.clearTrack = x.done := by
      rw [hx, hc]
      exact clearTrack_eq (by rwa [hg, received_lmc]) (by rwa [hg, received_lmc]) (by rwa [hpot])
    have hexec : exec (.clearTrack .machine []) s = .next (x.reply .machine 0x14 .ok []) :=
      exec_done rfl hargs hidle (by decide) (hg ▸ hact)
    have hcleared : Cleared g c := hc ▸ clearBoards_cleared _ g rfl (by rwa [htrk]) (by rwa [hpot])
    have hkept : CountKept g.trk c.trk := hc ▸ clearBoards_kept _ g
    obtain ⟨htable, hlog, hremoved, hidentities, hseq, hexit, hmismatch, htaken, hother, -, hschedule⟩ := hcleared
    rw [htrk] at hlog hremoved hidentities hseq hexit hmismatch htaken hother hschedule hkept
    rw [hflx, show g.clock = s.clock from hgframe.clock] at hlog
    have hxtrk : x.trk = { c.freeTrack.trk with ready := (c.freeTrack.trk.readyNow s.lmc.mode (s.aim.inhibitActive .entry)
        (s.lmc.bank s.lmc.active).items.minGap) } := by
      rw [← hvframe.lmc (by decide), ← hvframe.aim (by decide), hx]
      rfl
    have hxpot : x.pot = c.pot := by rw [hx]; exact (freeTrack_frame c).pot (by decide)
    have hxposted : x.posted = c.freeTrack.posted := by rw [hx]; rfl
    rw [freeTrack_trk] at hxtrk
    rw [freeTrack_posted] at hxposted
    refine ⟨_, hexec, (hvframe.trans hxframe).trans ((reply_frame _ _ _ _ _).mono (by decide)), ?_⟩
    rw [reply_trk, reply_posted, reply_pot, hxpot, hxposted, hxtrk]
    refine ⟨htable, hremoved, hlog, rfl, rfl, rfl, fun hlast => ?_, fun q => clearedOccupant_ne_board _ q,
      fun b hb => ⟨fun h => ?_, htaken b hb⟩, fun h => ?_, hother, hidentities, hkept.position, hkept.rawIndex, hseq,
      hkept.geometry, hschedule, rfl, ?_⟩
    · rw [hmismatch (by rw [hlast]), if_pos hlast]
      exact List.mem_append_right _ (List.mem_singleton_self _)
    · exact congrArg clearedOccupant (hexit.trans h)
    · exact (clearedOccupant_other (by rwa [hexit])).trans hexit
    · rfl

end Sys2Proof.Machine

/-! Proofs about the fluxer (chapter 3): a draw from the tanks, the cells of a board, and the flux line pressure. -/

namespace Sys2Proof.Machine

section Draw

variable (s : State)

/-! ### The draw of a dose (R50, R57) -/

theorem draw_fits {d : Nat} (h : d ≤ s.flx.amounts.tank s.flx.activeTank) : s.draw d = (s.deduct s.flx.activeTank d, true) :=
  if_pos h

theorem draw_other {d : Nat} (h : s.flx.amounts.tank s.flx.activeTank < d)
    (hother : 0 < s.flx.amounts.tank s.flx.activeTank.other) (hd : d ≤ s.flx.amounts.tank s.flx.activeTank.other) :
    s.draw d = (s.switchTank.deduct s.flx.activeTank.other d, true) :=
  (if_neg (Nat.not_le.mpr h)).trans ((if_pos hother).trans (if_pos hd))

theorem draw_short {d : Nat} (h : s.flx.amounts.tank s.flx.activeTank < d)
    (hother : 0 < s.flx.amounts.tank s.flx.activeTank.other) (hd : s.flx.amounts.tank s.flx.activeTank.other < d) :
    s.draw d = (s.switchTank.failDraw, false) :=
  (if_neg (Nat.not_le.mpr h)).trans ((if_pos hother).trans (if_neg (Nat.not_le.mpr hd)))

theorem draw_empty {d : Nat} (h : s.flx.amounts.tank s.flx.activeTank < d)
    (hother : s.flx.amounts.tank s.flx.activeTank.other = 0) : s.draw d = (s.failDraw, false) :=
  (if_neg (Nat.not_le.mpr h)).trans (if_neg (by simp [hother]))

/-- R50: the residue is written off and the other tank becomes active. -/
theorem switchTank_flx : ∀ f, f = { s.flx with
      amounts := s.flx.amounts.setTank s.flx.activeTank 0, activeTank := s.flx.activeTank.other } →
    s.switchTank.flx =
      { f with tankLow := f.tankLowNow, supplyEmpty := f.supplyEmptyNow s.lmc.activeBank.supplyThreshold } := by
  rintro f hf
  have hlmc : (s.setAmount s.flx.activeTank 0).lmc = s.lmc := (setAmount_frame s _ _).lmc (by decide)
  rw [State.switchTank, event_flx, setActiveTank_flx _ _ _ rfl, hlmc, setAmount_flx s _ _ _ rfl, hf]
  rfl

theorem switchTank_rtr : s.switchTank.rtr = { s.rtr with
    amounts := s.rtr.amounts.setTank s.flx.activeTank 0, activeTank := s.flx.activeTank.other } := by
  rw [State.switchTank, event_rtr, setActiveTank_rtr, setAmount_rtr]

theorem switchTank_links : s.switchTank.links = (s.event (.tankSwitched s.flx.activeTank.other .exhausted
    (s.flx.amounts.tank s.flx.activeTank))).links := by
  have hframe : SameBut [.flx, .rtr, .posted] s ((s.setAmount s.flx.activeTank 0).setActiveTank s.flx.activeTank.other) :=
    (setAmount_frame s _ _).trans (setActiveTank_frame _ _)
  rw [State.switchTank, event_links, event_links, hframe.links (by decide), hframe.clock]

/-- R50: what a draw from the other tank leaves of FLX, and of the retained record. -/
theorem switched_deduct_flx (d : Nat) : ∀ f, f = { s.flx with
      amounts := (s.flx.amounts.setTank s.flx.activeTank 0).setTank s.flx.activeTank.other
        (s.flx.amounts.tank s.flx.activeTank.other - d),
      activeTank := s.flx.activeTank.other, failedDraw := false } →
    (s.switchTank.deduct s.flx.activeTank.other d).flx =
      { f with tankLow := f.tankLowNow, supplyEmpty := f.supplyEmptyNow s.lmc.activeBank.supplyThreshold } := by
  rintro f hf
  rw [deduct_flx _ _ _ _ rfl, (switchTank_frame s).lmc (by decide), switchTank_flx s _ rfl, hf]
  simp only [Pair.tank_other_setTank]
  rfl

theorem switched_deduct_rtr (d : Nat) : (s.switchTank.deduct s.flx.activeTank.other d).rtr = { s.rtr with
    amounts := (s.rtr.amounts.setTank s.flx.activeTank 0).setTank s.flx.activeTank.other
      (s.flx.amounts.tank s.flx.activeTank.other - d),
    activeTank := s.flx.activeTank.other } := by
  rw [deduct_rtr, switchTank_rtr, switchTank_flx s _ rfl]
  simp only [Pair.tank_other_setTank]

/-- What a draw leaves: the tanks and the flag in FLX, the retained record and the links. -/
structure Drew (s t : State) (amounts : Pair Nat) (k : Tank) (failed : Bool) (r : Rtr) (links : PerLink LinkState) :
    Prop where
  flx : t.flx = { s.flx with
    amounts := amounts, activeTank := k, failedDraw := failed, tankLow := t.flx.tankLow, supplyEmpty := t.flx.supplyEmpty }
  rtr : t.rtr = r
  links : t.links = links

theorem deduct_drew (d : Nat) : Drew s (s.deduct s.flx.activeTank d)
    (s.flx.amounts.setTank s.flx.activeTank (s.flx.amounts.tank s.flx.activeTank - d)) s.flx.activeTank false
    { s.rtr with amounts := s.rtr.amounts.setTank s.flx.activeTank (s.flx.amounts.tank s.flx.activeTank - d) } s.links where
  flx := by rw [deduct_flx s _ _ _ rfl]
  rtr := deduct_rtr s _ _
  links := (deduct_frame s _ _).links (by decide)

theorem switched_deduct_drew (d : Nat) : Drew s (s.switchTank.deduct s.flx.activeTank.other d)
    ((s.flx.amounts.setTank s.flx.activeTank 0).setTank s.flx.activeTank.other
      (s.flx.amounts.tank s.flx.activeTank.other - d)) s.flx.activeTank.other false
    { s.rtr with
      amounts := (s.rtr.amounts.setTank s.flx.activeTank 0).setTank s.flx.activeTank.other
        (s.flx.amounts.tank s.flx.activeTank.other - d),
      activeTank := s.flx.activeTank.other }
    (s.event (.tankSwitched s.flx.activeTank.other .exhausted (s.flx.amounts.tank s.flx.activeTank))).links where
  flx := by rw [switched_deduct_flx s _ _ rfl]
  rtr := switched_deduct_rtr s d
  links := ((deduct_frame _ _ _).links (by decide)).trans (switchTank_links s)

theorem switched_failDraw_drew : Drew s s.switchTank.failDraw (s.flx.amounts.setTank s.flx.activeTank 0)
    s.flx.activeTank.other true
    { s.rtr with amounts := s.rtr.amounts.setTank s.flx.activeTank 0, activeTank := s.flx.activeTank.other }
    (s.event (.tankSwitched s.flx.activeTank.other .exhausted (s.flx.amounts.tank s.flx.activeTank))).links where
  flx := by
    rw [State.failDraw, raiseAlarm_flx, setFlx_flx, switchTank_flx s _ rfl]
  rtr := switchTank_rtr s
  links := switchTank_links s

theorem failDraw_drew : Drew s s.failDraw s.flx.amounts s.flx.activeTank true s.rtr s.links where
  flx := rfl
  rtr := rfl
  links := rfl

variable {s}

/-- The four ways of a draw. -/
theorem draw_four (s : State) (d : Nat) : d ≤ s.flx.amounts.tank s.flx.activeTank ∨
    (s.flx.amounts.tank s.flx.activeTank < d ∧ 0 < s.flx.amounts.tank s.flx.activeTank.other ∧
      d ≤ s.flx.amounts.tank s.flx.activeTank.other) ∨
    (s.flx.amounts.tank s.flx.activeTank < d ∧ 0 < s.flx.amounts.tank s.flx.activeTank.other ∧
      s.flx.amounts.tank s.flx.activeTank.other < d) ∨
    (s.flx.amounts.tank s.flx.activeTank < d ∧ s.flx.amounts.tank s.flx.activeTank.other = 0) := by
  omega

/-- What a draw comes to depends on the tanks alone. -/
theorem draw_congr {s' : State} (d : Nat) (hamounts : s'.flx.amounts = s.flx.amounts)
    (hactive : s'.flx.activeTank = s.flx.activeTank) (hrtr : s'.rtr = s.rtr) (hlinks : s'.links = s.links)
    (hclock : s'.clock = s.clock) : (s'.draw d).2 = (s.draw d).2 ∧
    ∃ amounts k failed r links, Drew s (s.draw d).1 amounts k failed r links ∧
      Drew s' (s'.draw d).1 amounts k failed r links := by
  rcases draw_four s d with hfits | ⟨hlow, hother, hd⟩ | ⟨hlow, hother, hd⟩ | ⟨hlow, hnone⟩
  · have hdrew := deduct_drew s' d
    rw [hamounts, hactive, hrtr, hlinks] at hdrew
    rw [draw_fits s hfits, draw_fits s' (by rwa [hamounts, hactive]), hactive]
    exact ⟨rfl, _, _, _, _, _, deduct_drew s d, hdrew⟩
  · have hdrew := switched_deduct_drew s' d
    rw [event_links, hamounts, hactive, hrtr, hlinks, hclock] at hdrew
    rw [draw_other s hlow hother hd, draw_other s' (by rwa [hamounts, hactive]) (by rwa [hamounts, hactive])
      (by rwa [hamounts, hactive]), hactive]
    exact ⟨rfl, _, _, _, _, _, switched_deduct_drew s d, hdrew⟩
  · have hdrew := switched_failDraw_drew s'
    rw [event_links, hamounts, hactive, hrtr, hlinks, hclock] at hdrew
    rw [draw_short s hlow hother hd, draw_short s' (by rwa [hamounts, hactive]) (by rwa [hamounts, hactive])
      (by rwa [hamounts, hactive])]
    exact ⟨rfl, _, _, _, _, _, switched_failDraw_drew s, hdrew⟩
  · have hdrew := failDraw_drew s'
    rw [hamounts, hactive, hrtr, hlinks] at hdrew
    rw [draw_empty s hlow hnone, draw_empty s' (by rwa [hamounts, hactive]) (by rwa [hamounts, hactive])]
    exact ⟨rfl, _, _, _, _, _, failDraw_drew s, hdrew⟩

/-- R57: where the retained record agrees with FLX before a draw, it does after. -/
theorem draw_rtr (d : Nat) (hamounts : s.rtr.amounts = s.flx.amounts) (hactive : s.rtr.activeTank = s.flx.activeTank) :
    (s.draw d).1.rtr =
      { s.rtr with amounts := (s.draw d).1.flx.amounts, activeTank := (s.draw d).1.flx.activeTank } := by
  rcases draw_four s d with hfits | ⟨hlow, hother, hd⟩ | ⟨hlow, hother, hd⟩ | ⟨hlow, hnone⟩
  · have hresult := deduct_drew s d
    rw [draw_fits s hfits, hresult.rtr, (congrArg Flx.amounts hresult.flx :), (congrArg Flx.activeTank hresult.flx :),
      hamounts, ← hactive]
  · have hresult := switched_deduct_drew s d
    rw [draw_other s hlow hother hd, hresult.rtr, (congrArg Flx.amounts hresult.flx :),
      (congrArg Flx.activeTank hresult.flx :), hamounts]
  · have hresult := switched_failDraw_drew s
    rw [draw_short s hlow hother hd, hresult.rtr, (congrArg Flx.amounts hresult.flx :),
      (congrArg Flx.activeTank hresult.flx :), hamounts]
  · rw [draw_empty s hlow hnone]
    show s.rtr = { s.rtr with amounts := s.flx.amounts, activeTank := s.flx.activeTank }
    rw [← hamounts, ← hactive]

/-- R60, R61: a draw that succeeds judges both conditions on the tanks it leaves. -/
theorem draw_judged (d : Nat) (h : (s.draw d).2 = true) : ∀ f, f = (s.draw d).1.flx →
    f.tankLow = decide (f.amounts.tank f.activeTank < s.flx.lowThreshold) ∧
    f.supplyEmpty = (decide (f.amounts.fst < s.lmc.activeBank.supplyThreshold) &&
      decide (f.amounts.snd < s.lmc.activeBank.supplyThreshold)) := by
  rintro _ rfl
  rcases draw_four s d with hfits | ⟨hlow, hother, hd⟩ | ⟨hlow, hother, hd⟩ | ⟨hlow, hnone⟩
  · rw [draw_fits s hfits, deduct_flx s _ _ _ rfl]
    exact ⟨rfl, rfl⟩
  · rw [draw_other s hlow hother hd, switched_deduct_flx s _ _ rfl]
    exact ⟨rfl, rfl⟩
  · rw [draw_short s hlow hother hd] at h
    cases h
  · rw [draw_empty s hlow hnone] at h
    cases h

end Draw

/-- Settles O36. -/
theorem aDrawTakesItsDose : Obligations.ADrawTakesItsDose := by
  rintro s d _ rfl _ rfl
  obtain ⟨-, amounts, k, failed, r, links, hdrew, -⟩ := draw_congr (s := s) d rfl rfl rfl rfl rfl
  have hflx := hdrew.flx
  refine ⟨draw_frame s d, (congrArg Flx.board hflx :), (congrArg Flx.cell hflx :), (congrArg Flx.action hflx :),
    (congrArg Flx.outcome hflx :), (congrArg Flx.valve hflx :), (congrArg Flx.lowThreshold hflx :),
    (congrArg Flx.mode hflx :), (congrArg Flx.sprayInhibit hflx :), fun hfits => ?_, fun hlow hother => ?_,
    fun hlow hnone => ?_, fun hamounts hactive => ?_, fun hdone => ?_⟩
  · have hresult := deduct_drew s d
    rw [draw_fits s hfits]
    exact ⟨rfl, (congrArg Flx.amounts hresult.flx :), (congrArg Flx.activeTank hresult.flx :),
      (congrArg Flx.failedDraw hresult.flx :), hresult.links⟩
  · by_cases hd : d ≤ s.flx.amounts.tank s.flx.activeTank.other
    · have hresult := switched_deduct_drew s d
      rw [draw_other s hlow hother hd]
      refine ⟨(congrArg Flx.activeTank hresult.flx :), fun l => ?_, fun _ => ⟨rfl, (congrArg Flx.failedDraw hresult.flx :),
        (congrArg Flx.amounts hresult.flx :)⟩, fun h => absurd hd (Nat.not_le.mpr h)⟩
      rw [State.link, hresult.links]
      exact event_link s _ l
    · have hresult := switched_failDraw_drew s
      rw [draw_short s hlow hother (Nat.not_le.mp hd)]
      refine ⟨(congrArg Flx.activeTank hresult.flx :), fun l => ?_, fun h => absurd h hd,
        fun _ => ⟨rfl, (congrArg Flx.failedDraw hresult.flx :), (congrArg Flx.amounts hresult.flx :),
          List.mem_append_right _ (List.mem_singleton_self _)⟩⟩
      rw [State.link, hresult.links]
      exact event_link s _ l
  · rw [draw_empty s hlow hnone]
    exact ⟨rfl, rfl⟩
  · exact draw_rtr d hamounts hactive
  · exact draw_judged d hdone _ rfl

section Cells

variable {s : State}

/-! ### Cells (R47 to R51) -/

theorem treatCell_off {a : SprayAction} (q : Nat) (h : a.spray = false) : s.treatCell q a = s.setCell .closed .off := if_pos h

theorem treatCell_held {a : SprayAction} (q : Nat) (h : a.spray = true) (hmode : s.flx.mode.running = false) :
    s.treatCell q a = (s.updateBoard q (·.markSprayInhibited)).setCell .closed .held :=
  (if_neg (by simp [h])).trans (if_pos hmode)

theorem treatCell_inhibited {a : SprayAction} (q : Nat) (h : a.spray = true) (hmode : s.flx.mode.running = true)
    (hinhibit : s.flx.sprayInhibit = true) :
    s.treatCell q a = (s.updateBoard q (·.markSprayInhibited)).setCell .closed .inhibited :=
  (if_neg (by simp [h])).trans ((if_neg (by simp [hmode])).trans (if_pos hinhibit))

theorem treatCell_sprayed {a : SprayAction} (q : Nat) (h : a.spray = true) (hmode : s.flx.mode.running = true)
    (hinhibit : s.flx.sprayInhibit = false) (hdraw : (s.draw a.dose).2 = true) :
    s.treatCell q a = ((s.draw a.dose).1.updateBoard q (·.dosed a)).setCell .opened .sprayed :=
  (if_neg (by simp [h])).trans ((if_neg (by simp [hmode])).trans ((if_neg (by simp [hinhibit])).trans (if_pos hdraw)))

theorem treatCell_empty {a : SprayAction} (q : Nat) (h : a.spray = true) (hmode : s.flx.mode.running = true)
    (hinhibit : s.flx.sprayInhibit = false) (hdraw : (s.draw a.dose).2 = false) :
    s.treatCell q a = ((s.draw a.dose).1.updateBoard q (·.markTankEmpty)).setCell .closed .empty :=
  (if_neg (by simp [h])).trans ((if_neg (by simp [hmode])).trans ((if_neg (by simp [hinhibit])).trans
    (if_neg (by simp [hdraw]))))

/-- FLX at the start of a cell of a board (R47). -/
def State.startCell (b : BoardRecord) (n : Nat) (s : State) : State :=
  s.setFlx { s.flx with cell := n, action := (s.lmc.bank b.bank).actionAt n }

/-- What a treated cell leaves of the state, apart from its FLUX_MARK event: what the draw left, if there was one, the outcome
and its valve, and the change of the board's record. -/
structure CellTreated (b : BoardRecord) (n : Nat) (a : SprayAction) (u : State) (f : BoardRecord → BoardRecord) (v : Valve)
    (o : CellOutcome) (s : State) : Prop where
  treated : (s.startCell b n).treatCell b.seq a = (u.updateBoard b.seq f).setCell v o
  frame : SameBut [.flx, .rtr, .links, .posted] s u
  cell : u.flx.cell = n
  action : u.flx.action = (s.lmc.bank b.bank).actionAt n
  board : u.flx.board = s.flx.board

theorem updateBoard_id (s : State) (q : Nat) : s.updateBoard q id = s := by
  have htable : s.trk.update q id = s.trk := by
    rw [update_eq]
    simp
  rw [State.updateBoard, htable]
  rfl

theorem startCell_treated {b : BoardRecord} {n : Nat} {a : SprayAction} {f : BoardRecord → BoardRecord} {v : Valve}
    {o : CellOutcome} (h : (s.startCell b n).treatCell b.seq a = ((s.startCell b n).updateBoard b.seq f).setCell v o) :
    CellTreated b n a (s.startCell b n) f v o s where
  treated := h
  frame := (setFlx_frame s _).mono (by decide)
  cell := rfl
  action := rfl
  board := rfl

theorem draw_treated {b : BoardRecord} {n : Nat} {a : SprayAction} {f : BoardRecord → BoardRecord} {v : Valve}
    {o : CellOutcome}
    (h : (s.startCell b n).treatCell b.seq a = (((s.startCell b n).draw a.dose).1.updateBoard b.seq f).setCell v o) :
    CellTreated b n a ((s.startCell b n).draw a.dose).1 f v o s := by
  obtain ⟨-, amounts, k, failed, r, links, hdrew, -⟩ :=
    draw_congr (s := s.startCell b n) (s' := s.startCell b n) a.dose rfl rfl rfl rfl rfl
  exact
    { treated := h
      frame := ((setFlx_frame s _).mono (by decide)).trans (draw_frame _ a.dose)
      cell := (congrArg Flx.cell hdrew.flx :)
      action := (congrArg Flx.action hdrew.flx :)
      board := (congrArg Flx.board hdrew.flx :) }

/-- R49, R51: what `applyCell` leaves, part by part, where the cell is treated so. -/
theorem CellTreated.applied {b : BoardRecord} {n : Nat} {a : SprayAction} {u : State} {f : BoardRecord → BoardRecord} {v : Valve}
    {o : CellOutcome} (h : CellTreated b n a u f v o s)
    (ha : a = (s.lmc.bank b.bank).action ((s.lmc.bank b.bank).actionAt n)) : ∀ t, t = s.applyCell b n →
    SameBut [.trk, .flx, .rtr, .links, .posted] s t ∧ t.flx = { u.flx with valve := v, outcome := o } ∧
    t.trk = { s.trk with table := s.trk.table.map fun r => if r.seq = b.seq then f r else r } ∧ t.rtr = u.rtr ∧
    (∀ l, t.link l = if a.spray = true ∧ a.mark = true then (u.link l).copyEvent ⟨s.clock, .fluxMark b.seq n o⟩
      else u.link l) := by
  rintro t rfl
  obtain ⟨x, hx⟩ : ∃ x, x = (u.updateBoard b.seq f).setCell v o := ⟨_, rfl⟩
  have happly : s.applyCell b n = if a.spray = true ∧ a.mark = true then x.event (.fluxMark b.seq n x.flx.outcome) else x := by
    rw [hx, ← h.treated, ha]
    exact if_congr (by rw [Bool.and_eq_true]) rfl rfl
  have hxframe : SameBut [.trk, .flx, .rtr, .links, .posted] s x := by
    rw [hx]
    exact (h.frame.mono (by decide)).trans (((updateBoard_frame u _ _).mono (by decide)).trans
      ((setCell_frame _ v o).mono (by decide)))
  have htrk : x.trk = { s.trk with table := s.trk.table.map fun r => if r.seq = b.seq then f r else r } := by
    rw [hx, setCell_trk, updateBoard_trk, update_eq, h.frame.trk (by decide)]
  have hflx : x.flx = { u.flx with valve := v, outcome := o } := by rw [hx]; rfl
  have hrtr : x.rtr = u.rtr := by rw [hx]; rfl
  have hlink (l : Link) : x.link l = u.link l := by rw [hx]; rfl
  have hclock : x.clock = s.clock := hxframe.clock
  rw [happly]
  by_cases hmark : a.spray = true ∧ a.mark = true
  · simp only [if_pos hmark]
    refine ⟨hxframe.trans ((event_frame _ _).mono (by decide)), hflx, htrk, hrtr, fun l => ?_⟩
    rw [event_link, hlink, hclock, hflx]
  · simp only [if_neg hmark]
    exact ⟨hxframe, hflx, htrk, hrtr, hlink⟩

/-- The tanks, the flag, the retained record and the links of two states agree. -/
structure SameSupply (u d : State) : Prop where
  amounts : u.flx.amounts = d.flx.amounts
  activeTank : u.flx.activeTank = d.flx.activeTank
  failedDraw : u.flx.failedDraw = d.flx.failedDraw
  rtr : u.rtr = d.rtr
  links : u.links = d.links

theorem startCell_supply (s : State) (b : BoardRecord) (n : Nat) : SameSupply (s.startCell b n) s := ⟨rfl, rfl, rfl, rfl, rfl⟩

/-- The draw of a cell is the draw of its dose before the cell was noted. -/
theorem startCell_draw (s : State) (b : BoardRecord) (n d : Nat) :
    ((s.startCell b n).draw d).2 = (s.draw d).2 ∧ SameSupply ((s.startCell b n).draw d).1 (s.draw d).1 := by
  obtain ⟨hdone, amounts, k, failed, r, links, hdrew, hdrew'⟩ :=
    draw_congr (s := s) (s' := s.startCell b n) d rfl rfl rfl rfl rfl
  exact ⟨hdone, (congrArg Flx.amounts hdrew'.flx :).trans (congrArg Flx.amounts hdrew.flx :).symm,
    (congrArg Flx.activeTank hdrew'.flx :).trans (congrArg Flx.activeTank hdrew.flx :).symm,
    (congrArg Flx.failedDraw hdrew'.flx :).trans (congrArg Flx.failedDraw hdrew.flx :).symm,
    hdrew'.rtr.trans hdrew.rtr.symm, hdrew'.links.trans hdrew.links.symm⟩

/-- R49 to R51: what every cell has in common, whichever case holds. -/
theorem CellTreated.clauses {b : BoardRecord} {n : Nat} {a : SprayAction} {u : State} {f : BoardRecord → BoardRecord} {v : Valve}
    {o : CellOutcome} (h : CellTreated b n a u f v o s)
    (ha : a = (s.lmc.bank b.bank).action ((s.lmc.bank b.bank).actionAt n))
    (hvalve : v = if o = .sprayed then .opened else .closed)
    (hsupply : SameSupply u (if o = .sprayed ∨ o = .empty then (s.draw a.dose).1 else s)) :
    ∀ t, t = s.applyCell b n → SameBut [.trk, .flx, .rtr, .links, .posted] s t ∧
    t.flx.cell = n ∧ t.flx.action = (s.lmc.bank b.bank).actionAt n ∧ t.flx.board = s.flx.board ∧ t.flx.outcome = o ∧
    t.flx.valve = (if o = .sprayed then .opened else .closed) ∧
    (o = .sprayed ∨ o = .empty → t.flx.amounts = (s.draw a.dose).1.flx.amounts ∧
      t.flx.activeTank = (s.draw a.dose).1.flx.activeTank ∧ t.flx.failedDraw = (s.draw a.dose).1.flx.failedDraw ∧
      t.rtr = (s.draw a.dose).1.rtr) ∧
    (o ≠ .sprayed → o ≠ .empty → t.flx.amounts = s.flx.amounts ∧ t.flx.activeTank = s.flx.activeTank ∧
      t.flx.failedDraw = s.flx.failedDraw ∧ t.rtr = s.rtr) ∧
    t.trk = { s.trk with table := s.trk.table.map fun r => if r.seq = b.seq then f r else r } ∧
    (∀ l k, k = (if o = .sprayed ∨ o = .empty then (s.draw a.dose).1.link l else s.link l) →
      t.link l = if a.spray = true ∧ a.mark = true then k.copyEvent ⟨s.clock, .fluxMark b.seq n o⟩ else k) := by
  intro t ht
  obtain ⟨hframe, hflx, htrk, hrtr, hlink⟩ := h.applied ha t ht
  have hof (x : State) (hx : SameSupply u x) : t.flx.amounts = x.flx.amounts ∧ t.flx.activeTank = x.flx.activeTank ∧
      t.flx.failedDraw = x.flx.failedDraw ∧ t.rtr = x.rtr :=
    ⟨(congrArg Flx.amounts hflx :).trans hx.amounts, (congrArg Flx.activeTank hflx :).trans hx.activeTank,
      (congrArg Flx.failedDraw hflx :).trans hx.failedDraw, hrtr.trans hx.rtr⟩
  refine ⟨hframe, (congrArg Flx.cell hflx :).trans h.cell, (congrArg Flx.action hflx :).trans h.action,
    (congrArg Flx.board hflx :).trans h.board, (congrArg Flx.outcome hflx :), (congrArg Flx.valve hflx :).trans hvalve,
    fun ho => ?_, fun hsprayed hempty => ?_, htrk, ?_⟩
  · rw [if_pos ho] at hsupply
    exact hof _ hsupply
  · rw [if_neg (not_or.mpr ⟨hsprayed, hempty⟩)] at hsupply
    exact hof _ hsupply
  · rintro l _ rfl
    have hsame : u.link l = if o = .sprayed ∨ o = .empty then (s.draw a.dose).1.link l else s.link l := by
      rw [State.link, hsupply.links]
      split <;> rfl
    rw [hlink, hsame]

/-- R49: the outcome of a cell, by the first case that holds. -/
def State.cellOutcome (a : SprayAction) (s : State) : CellOutcome :=
  if a.spray = false then .off
  else if s.flx.mode ∉ [.production, .changeover, .drain] then .held
  else if s.flx.sprayInhibit = true then .inhibited
  else if (s.draw a.dose).2 = true then .sprayed else .empty

/-- R49: what an outcome makes of the board's record. -/
def CellOutcome.change (a : SprayAction) : CellOutcome → BoardRecord → BoardRecord
  | .off => id
  | .held | .inhibited => BoardRecord.markSprayInhibited
  | .empty => BoardRecord.markTankEmpty
  | .sprayed => (BoardRecord.dosed · a)

/-- R49: a cell is treated by its outcome. -/
theorem cell_treated (s : State) (b : BoardRecord) (n : Nat) (a : SprayAction) : ∀ o, o = s.cellOutcome a →
    ∃ u v, CellTreated b n a u (o.change a) v o s ∧ v = (if o = .sprayed then .opened else .closed) ∧
      SameSupply u (if o = .sprayed ∨ o = .empty then (s.draw a.dose).1 else s) := by
  rintro o ho
  obtain ⟨hdone, hdrawn⟩ := startCell_draw s b n a.dose
  have hkept := startCell_supply s b n
  unfold State.cellOutcome at ho
  by_cases hspray : a.spray = false
  · rw [if_pos hspray] at ho
    subst ho
    exact ⟨_, _, startCell_treated ((treatCell_off b.seq hspray).trans
      (congrArg (State.setCell .closed .off) (updateBoard_id (s.startCell b n) b.seq).symm)), rfl, hkept⟩
  have hon := (Bool.not_eq_false _).mp hspray
  rw [if_neg hspray] at ho
  by_cases hmode : s.flx.mode ∉ [LineMode.production, .changeover, .drain]
  · rw [if_pos hmode] at ho
    rw [← running_iff, Bool.not_eq_true] at hmode
    subst ho
    exact ⟨_, _, startCell_treated (treatCell_held b.seq hon hmode), rfl, hkept⟩
  rw [if_neg hmode] at ho
  rw [not_not, ← running_iff] at hmode
  by_cases hinhibit : s.flx.sprayInhibit = true
  · rw [if_pos hinhibit] at ho
    subst ho
    exact ⟨_, _, startCell_treated (treatCell_inhibited b.seq hon hmode hinhibit), rfl, hkept⟩
  rw [if_neg hinhibit] at ho
  rw [Bool.not_eq_true] at hinhibit
  by_cases hdraw : (s.draw a.dose).2 = true
  · rw [if_pos hdraw] at ho
    subst ho
    exact ⟨_, _, draw_treated (treatCell_sprayed b.seq hon hmode hinhibit (hdone.trans hdraw)), rfl, hdrawn⟩
  · rw [if_neg hdraw] at ho
    rw [Bool.not_eq_true] at hdraw
    subst ho
    exact ⟨_, _, draw_treated (treatCell_empty b.seq hon hmode hinhibit (hdone.trans hdraw)), rfl, hdrawn⟩

/-! ### The nozzle commands (R48, R53) -/

theorem nozzleReached_none {q : Nat} (len : Option Nat) (h : s.trk.board? q = none) : s.nozzleReached q len = s := by
  rw [State.nozzleReached, h]

theorem nozzleReached_unmeasured {q : Nat} {b : BoardRecord} (h : s.trk.board? q = some b) : s.nozzleReached q none =
    s.setTrk { s.trk with
      table := s.trk.table.map fun r => if r.seq = q then { r with fluxStatus := .deficient } else r } := by
  rw [State.nozzleReached, h]
  exact congrArg s.setTrk (update_eq _ _ _)

theorem nozzleReached_starts {q len : Nat} {b : BoardRecord} (h : s.trk.board? q = some b) :
    s.nozzleReached q (some len) = ((s.setTrk { s.trk with
      table := s.trk.table.map fun r => if r.seq = q then { r with fluxStatus := .spraying } else r }).setFlx
        { s.flx with board := some q }).applyCell b 0 := by
  rw [State.nozzleReached, h]
  exact congrArg (fun x => ((State.setTrk x s).setFlx { s.flx with board := some q }).applyCell b 0) (update_eq _ _ _)

theorem cellBoundary_goesOn {q : Nat} {b : BoardRecord} (n : Nat) (hboard : s.flx.board = some q)
    (h : s.trk.board? q = some b) : s.cellBoundary q n = s.applyCell b n := by
  rw [State.cellBoundary, if_pos hboard, h]

theorem nozzleCleared_judges {q : Nat} (hboard : s.flx.board = some q) : s.nozzleCleared q =
    (s.setTrk { s.trk with table := s.trk.table.map fun r =>
      if r.seq = q then
        { r with fluxStatus := if (s.lmc.bank r.bank).items.fluxMinimum ≤ r.countedDose then .ok else .deficient }
      else r }).setFlx { s.flx with board := none, valve := .closed } := by
  rw [State.nozzleCleared, if_pos hboard]
  exact congrArg (fun x => (State.setTrk x s).setFlx { s.flx with board := none, valve := .closed }) (update_eq _ _ _)

end Cells

/-- Settles O38. -/
theorem cellsAreTreatedByTheFirstCase : Obligations.CellsAreTreatedByTheFirstCase := by
  refine ⟨?_, fun s seq => ⟨fun len h => ?_, fun b h => ⟨?_, fun len => ?_⟩, fun n h => ?_, fun n b hboard h => ?_, fun h => ?_,
    fun h => ?_⟩⟩
  · rintro s b n a ha t ht _ rfl
    obtain ⟨o, ho⟩ : ∃ o, o = s.cellOutcome a := ⟨_, rfl⟩
    obtain ⟨u, v, htreated, hv, hdrawn⟩ := cell_treated s b n a o ho
    obtain ⟨hframe, hcell, haction, hboard, houtcome, hvalve, hsupply, hrest, htrk, hlink⟩ :=
      htreated.clauses ha hv hdrawn t ht
    rw [houtcome]
    refine ⟨hframe, hcell, haction, hboard, ho, hvalve, hsupply, hrest, ?_, hlink⟩
    cases o <;> exact htrk
  · exact congrArg Host.Outcome.next (nozzleReached_none len h)
  · exact congrArg Host.Outcome.next (nozzleReached_unmeasured h)
  · exact congrArg Host.Outcome.next (nozzleReached_starts h)
  · exact congrArg Host.Outcome.next (if_neg h)
  · exact congrArg Host.Outcome.next (cellBoundary_goesOn n hboard h)
  · exact congrArg Host.Outcome.next (if_neg h)
  · exact congrArg Host.Outcome.next (nozzleCleared_judges h)

section Cuts

variable {s : State}

/-! ### What shuts the valve, and the flux line pressure (R54, R62) -/

/-- A change of the board in spray, if there is one. -/
def State.updateSprayed (f : BoardRecord → BoardRecord) (s : State) : State :=
  match s.flx.board with
  | some q => s.updateBoard q f
  | none => s

theorem updateSprayed_eq (s : State) (f : BoardRecord → BoardRecord) : s.updateSprayed f =
    s.setTrk { s.trk with table := s.trk.table.map fun r => if s.flx.board = some r.seq then f r else r } := by
  unfold State.updateSprayed
  cases hboard : s.flx.board with
  | none =>
    simp
    rfl
  | some q =>
    simp only [State.updateBoard, update_eq, Option.some.injEq, eq_comm]

theorem cutSpray_closed (o : CellOutcome) (h : s.flx.valve = .closed) : s.cutSpray o = s := if_neg (by simp [h])

theorem cutSpray_opened (o : CellOutcome) (h : s.flx.valve = .opened) : s.cutSpray o =
    (s.setFlx { s.flx with valve := .closed, outcome := o }).setTrk { s.trk with
      table := s.trk.table.map fun r =>
        if s.flx.board = some r.seq then { r with marks := { r.marks with sprayInhibited := true } } else r } :=
  (if_pos h).trans (updateSprayed_eq (s.setCell .closed o) (·.markSprayInhibited))

theorem evalSupplyEmpty_eq : ∀ e, e = s.flx.supplyEmptyNow s.lmc.activeBank.supplyThreshold → s.evalSupplyEmpty =
    (s.setFlx { s.flx with supplyEmpty := e }).post
      (if e = s.flx.supplyEmpty then [] else if e then [.alarmRaise 24] else [.alarmEnd 24]) := by
  rintro _ rfl
  unfold State.evalSupplyEmpty
  dsimp only
  split
  next h => rw [post_nil]
  next h => split <;> rfl

theorem goodPressure_eq : s.goodPressure = (s.setFlx { s.flx with pressureLow := 0, pressureCond := false }).post
    (if s.flx.pressureCond then [.alarmEnd 25] else []) := by
  unfold State.goodPressure
  dsimp only
  split
  · rfl
  · rw [post_nil]

theorem lowPressure_counts (h : s.flx.pressureLow ≤ 2) :
    s.lowPressure = s.setFlx { s.flx with pressureLow := s.flx.pressureLow + 1 } := if_pos (by omega)

theorem lowPressure_holds (h : 3 ≤ s.flx.pressureLow) : s.lowPressure =
    ((s.setFlx (if s.flx.pressureLow = 3 then { s.flx with pressureLow := 4, pressureCond := true } else s.flx)).post
      (if s.flx.pressureLow = 3 then [.alarmRaise 25] else [])).setTrk { s.trk with
        table := s.trk.table.map fun r =>
          if s.flx.board = some r.seq then { r with marks := { r.marks with lowPressure := true } } else r } := by
  unfold State.lowPressure
  rw [if_neg (by omega)]
  dsimp only
  by_cases h3 : s.flx.pressureLow = 3
  · simp only [if_pos h3]
    exact updateSprayed_eq ((s.setFlx { s.flx with pressureLow := 4, pressureCond := true }).raiseAlarm Alarm.fluxPressure) _
  · simp only [if_neg h3, post_nil]
    exact updateSprayed_eq s _

end Cuts

/-- Settles O39. -/
theorem sprayIsCutAndPressureJudged : Obligations.SprayIsCutAndPressureJudged := by
  intro s
  refine ⟨?_, rfl, fun m hm => ?_, fun b e he => ?_, fun v rep g hg => ?_⟩
  · rintro c o f (⟨rfl, rfl, rfl⟩ | ⟨m, hm, rfl, rfl, rfl⟩)
    · exact ⟨fun h => congrArg Host.Outcome.next (cutSpray_closed _ h), fun h => congrArg Host.Outcome.next (cutSpray_opened _ h)⟩
    · rw [← running_iff] at hm
      exact ⟨fun h => congrArg Host.Outcome.next ((if_neg hm).trans (cutSpray_closed _ h)),
        fun h => congrArg Host.Outcome.next ((if_neg hm).trans (cutSpray_opened _ h))⟩
  · rw [← running_iff] at hm
    exact congrArg Host.Outcome.next (if_pos hm)
  · exact congrArg Host.Outcome.next (evalSupplyEmpty_eq e he)
  · have hexec : exec (.flpSampleArrival v rep) s = .next (g.pressureSample v rep) := by rw [hg]; rfl
    have hflx : g.flx = s.flx := by rw [hg, taken_flx]
    have htrk : g.trk = s.trk := by rw [hg, taken_trk]
    rw [hexec, ← hflx, ← htrk]
    refine ⟨fun h => ?_, fun hopen husable => ⟨fun h => ?_, fun h => ⟨fun h2 => ?_, fun h3 => ?_⟩⟩⟩
    · refine congrArg Host.Outcome.next (if_neg ?_)
      rcases h with h | h <;> simp [h]
    all_goals
      have hcounted : g.flx.valve = .opened ∧ usable rep = true := ⟨hopen, husable⟩
    · exact congrArg Host.Outcome.next ((if_pos hcounted).trans ((if_neg (Nat.not_lt.mpr h)).trans goodPressure_eq))
    · exact congrArg Host.Outcome.next ((if_pos hcounted).trans ((if_pos h).trans (lowPressure_counts h2)))
    · exact congrArg Host.Outcome.next ((if_pos hcounted).trans ((if_pos h).trans (lowPressure_holds h3)))

end Sys2Proof.Machine

/-! Proofs about the thermal estimate and the wave gate (chapter 5). -/

namespace Sys2Proof.Machine

section Estimate

/-! ### An update's step (R83, R84) -/

/-- R83: a coupling below 1 gives a step no longer than the distance to the sample. -/
theorem step_le_distance {n c : Nat} (hc : c ≤ 4095) : (n * c + 2048) / 4096 ≤ n := by
  have hmul : n * c ≤ n * 4095 := Nat.mul_le_mul_left n hc
  omega

theorem updateStep_eq (tb ts c : Nat) : ∀ d : Int, d = (ts : Int) - tb → ∀ m : Nat, m = ((d * c).natAbs + 2048) / 4096 →
    updateStep tb ts c = if 0 < d then ((max m 1 : Nat) : Int) else if d < 0 then -((max m 1 : Nat) : Int) else 0 := by
  rintro d rfl m hm
  unfold updateStep
  dsimp only
  rw [← hm]
  rcases Int.lt_trichotomy ((ts : Int) - tb) 0 with h | h | h
  · rw [if_neg (show ¬0 < (ts : Int) - tb by omega), if_pos h]
    split <;> omega
  · rw [h, Int.zero_mul] at hm
    have hzero : m = 0 := hm
    simp [h, hzero]
  · rw [if_pos h]
    split <;> omega

/-- R83: an update moves toward the sample, by one at least, and never past it. -/
theorem updatedEstimate_moves {tb ts c : Nat} (hb : tb ≤ 4000) (hs : ts ≤ 4000) (hc : c ≤ 4095) :
    ∀ e, e = updatedEstimate tb ts c → ∀ d : Int, d = (ts : Int) - tb → ∀ m : Nat, m = ((d * c).natAbs + 2048) / 4096 →
    (e : Int) = tb + (if 0 < d then ((max m 1 : Nat) : Int) else if d < 0 then -((max m 1 : Nat) : Int) else 0) ∧
    e ≤ 4000 ∧ min tb ts ≤ e ∧ e ≤ max tb ts ∧ (tb ≠ ts → e ≠ tb) := by
  rintro e rfl d hd m hm
  have hstep := updateStep_eq tb ts c d hd m hm
  have hle : m ≤ d.natAbs := by
    rw [hm, Int.natAbs_mul]
    exact step_le_distance hc
  have hrange : 0 ≤ (tb : Int) + updateStep tb ts c ∧ (tb : Int) + updateStep tb ts c ≤ 4000 := by
    rw [hstep]
    split
    · omega
    · split <;> omega
  have hvalue : (updatedEstimate tb ts c : Int) = (tb : Int) + updateStep tb ts c := by
    rw [updatedEstimate, clampInt_of_mem hrange.1 hrange.2]
    exact Int.toNat_of_nonneg hrange.1
  rw [hstep] at hvalue
  refine ⟨hvalue, ?_⟩
  split at hvalue
  · omega
  · split at hvalue <;> omega

variable {b : BoardRecord}

theorem reached_iff (g : Geometry) (pos : Position) (src : ThermalSource) : b.reached g pos src = true ↔
    b.decision = .pending ∧ ∃ len, b.length = some len ∧ sourceCovers src (g.region (b.travel pos - len / 2)) = true := by
  unfold BoardRecord.reached BoardRecord.midpoint?
  cases hlen : b.length with
  | none => simp
  | some len => simp

theorem thermal_unusable (bank : Bank) (src : ThermalSource) (v : Nat) {rep : ReportedState} (h : usable rep = false) :
    b.thermal bank src v rep = { b with marks := { b.marks with thermalUncertain := true } } := if_neg (by simp [h])

theorem thermal_empty (src : ThermalSource) (v : Nat) {rep : ReportedState} (h : usable rep = true) :
    b.thermal .empty src v rep = b := if_pos h

theorem thermal_held {bank : Bank} {i : BankItems} (src : ThermalSource) (v : Nat) {rep : ReportedState}
    (h : usable rep = true) (hbank : bank = .valid i ∨ bank = .unchecked i) :
    b.thermal bank src v rep = b.updated v (i.couplingFor src) i.soakThreshold := by
  rcases hbank with rfl | rfl <;> exact if_pos h

end Estimate

/-- Settles O40. -/
theorem updatesMoveTowardTheSample : Obligations.UpdatesMoveTowardTheSample := by
  refine ⟨fun tb ts c hb hs hc => updatedEstimate_moves hb hs hc, fun b ts c threshold e he => ?_, fun s src v rep => ?_⟩
  · subst he
    rfl
  · have hexec : exec (.thermalSampleArrival src v rep) s =
        .next ((s.taken (.thermalSampleArrival src v rep)).thermalSample src v rep) := rfl
    refine ⟨_, hexec, ((taken_frame s _).mono (by decide)).trans ((thermalSample_frame _ _ _ _).mono (by decide)), rfl, rfl,
      List.length_map _, fun n b hb => ?_⟩
    refine ⟨if b.reached s.trk.geometry s.trk.position src = true then b.thermal (s.lmc.bank b.bank) src v rep else b, ?_,
      fun hit hhit => ?_⟩
    · exact (List.getElem?_map ..).trans (congrArg (Option.map _) hb)
    · rw [← reached_iff] at hhit
      refine ⟨fun h => ?_, fun h hunusable => ?_, fun h husable => ⟨fun hbank => ?_, fun i hbank => ?_⟩⟩
      · exact if_neg fun hr => by rw [hhit.mpr hr] at h; cases h
      all_goals rw [if_pos (hhit.mp h)]
      · exact thermal_unusable _ src v hunusable
      · rw [hbank]
        exact thermal_empty src v husable
      · exact thermal_held src v husable hbank

section Gate

/-! ### The wave gate (R87 to R93) -/

/-- R89: whether a check of the gate fails. -/
def gateFails (b : BoardRecord) (i : BankItems) (u : Bool) : DryReason → Bool
  | .unrequested => b.marks.unrequested
  | .boardSize => b.marks.lengthOut
  | .waveUnavailable => u
  | .fluxDeficient => decide (b.fluxStatus ≠ .ok)
  | .thermalUnknown => b.marks.thermalUncertain
  | .tooCold => decide (b.estimate < i.tMin)
  | .tooHot => decide (i.tMax < b.estimate)
  | .soakShort => decide (b.soak < i.soakMinimum)

/-- R89: the order of the checks. -/
def gateOrder : List DryReason :=
  [.unrequested, .boardSize, .waveUnavailable, .fluxDeficient, .thermalUnknown, .tooCold, .tooHot, .soakShort]

theorem find?_cons_ite {α : Type} (p : α → Bool) (a : α) (as : List α) :
    (a :: as).find? p = if p a = true then some a else as.find? p := by
  rw [List.find?_cons]
  cases p a <;> rfl

/-- R89: the reason is the first check, in the rule's order, that fails. -/
theorem gateReason_eq_find? (b : BoardRecord) (i : BankItems) (u : Bool) :
    gateReason b i u = gateOrder.find? (gateFails b i u) := by
  simp only [gateOrder, find?_cons_ite, gateFails, decide_eq_true_eq, List.find?_nil]
  rfl

theorem mem_gateOrder (r : DryReason) : r ∈ gateOrder := by cases r <;> decide

theorem gateReason_none (b : BoardRecord) (i : BankItems) (u : Bool) :
    gateReason b i u = none ↔ ∀ r, gateFails b i u r = false := by
  rw [gateReason_eq_find?, List.find?_eq_none]
  simp [mem_gateOrder]

theorem gateReason_some (b : BoardRecord) (i : BankItems) (u : Bool) {n : Nat} {r : DryReason} (hn : gateOrder[n]? = some r) :
    gateReason b i u = some r ↔ gateFails b i u r = true ∧ ∀ r' ∈ gateOrder.take n, gateFails b i u r' = false := by
  have hnodup : gateOrder.Nodup := by decide
  obtain ⟨hlt, hget⟩ := List.getElem?_eq_some_iff.mp hn
  rw [gateReason_eq_find?, List.find?_eq_some_iff_getElem]
  refine and_congr_right fun _ => ⟨?_, fun h => ⟨n, hlt, hget, fun j hj => ?_⟩⟩
  · rintro ⟨k, hk, hkr, hbefore⟩ r' hr'
    obtain rfl : k = n := (hnodup.getElem_inj_iff).mp (hkr.trans hget.symm)
    obtain ⟨j, hj, rfl⟩ := List.mem_take_iff_getElem.mp hr'
    simpa using hbefore j (by omega)
  · simpa using h _ (List.mem_take_iff_getElem.mpr ⟨j, by omega, rfl⟩)

theorem waveUnavailable_iff (s : State) : s.waveUnavailable = true ↔ s.pot.heat.state ≠ .ready ∨
    s.aim.waveEffect ≠ .inactive ∨ s.pot.wave = .off ∨ s.lmc.mode ∉ [LineMode.production, .changeover, .drain] := by
  rw [← running_iff]
  simp [State.waveUnavailable, Pot.isReady, or_assoc]

theorem gateDecision_eq (why : Option DryReason) : gateDecision why = if why = none then .solder else .dry := by
  cases why <;> rfl

/-! ### What POT makes of the records as the schedule changes (R119) -/

/-- The wave results of the records may change, and nothing else of TRK does. -/
def ResultsChanged (t u : Trk) : Prop :=
  ∃ w : BoardRecord → WaveResult, u = { t with table := t.table.map fun b => { b with waveResult := w b } }

namespace ResultsChanged

variable {t u v : Trk}

theorem refl (t : Trk) : ResultsChanged t t := ⟨(·.waveResult), by simp⟩

theorem of_eq (h : u = t) : ResultsChanged t u := h ▸ .refl t

theorem trans (h : ResultsChanged t u) (h' : ResultsChanged u v) : ResultsChanged t v := by
  obtain ⟨w, rfl⟩ := h
  obtain ⟨w', rfl⟩ := h'
  exact ⟨fun b => w' { b with waveResult := w b }, by simp⟩

theorem ite {c : Prop} [Decidable c] {a b : State} (ha : ResultsChanged t a.trk) (hb : ResultsChanged t b.trk) :
    ResultsChanged t (if c then a else b).trk := by
  split <;> assumption

theorem board? (h : ResultsChanged t u) (q : Nat) :
    ∃ w : BoardRecord → WaveResult, u.board? q = (t.board? q).map fun b => { b with waveResult := w b } := by
  obtain ⟨w, rfl⟩ := h
  exact ⟨w, List.find?_map⟩

end ResultsChanged

variable (s : State)

theorem enterWave_results (w : WaveState) : ResultsChanged s.trk (s.enterWave w).trk := by
  rw [enterWave_trk]
  refine ⟨fun b => if w = .off ∧ b.seq ∈ s.pot.onWave then b.waveResult.cut else b.waveResult, ?_⟩
  refine congrArg (fun l => { s.trk with table := l }) (List.map_congr_left fun b _ => ?_)
  dsimp only
  split <;> rfl

theorem evalWaveOn_results (m : LineMode) (e : WaveEffect) : ResultsChanged s.trk (s.evalWaveOn m e).trk := by
  unfold State.evalWaveOn
  dsimp only
  exact .ite (.refl _) (enterWave_results (s.setPot _) _)

theorem updateWaveBank_results : ResultsChanged s.trk s.updateWaveBank.trk :=
  .ite (enterWave_results (s.setPot _) _) (.refl _)

theorem noteOccupancy_results : ResultsChanged s.trk s.noteOccupancy.trk := .of_eq ((noteOccupancy_frame s).trk (by decide))

theorem appendSchedule_results (e : ScheduleEntry) : ResultsChanged s.trk (s.appendSchedule e).trk := by
  have happended := noteOccupancy_results (s.setPot { s.pot with schedule := s.pot.schedule ++ [e] })
  unfold State.appendSchedule
  dsimp only
  exact .ite (happended.trans ((evalWaveOn_results _ _ _).trans (updateWaveBank_results _))) happended

variable {s}

/-! ### POT reads its own record, the banks, the alarms and the contacts -/

theorem enterWave_pot_congr {u : State} (w : WaveState) (hpot : u.pot = s.pot) (hlmc : u.lmc = s.lmc) (hsaq : u.saq = s.saq) :
    (u.enterWave w).pot = (s.enterWave w).pot := by
  rw [enterWave_pot, enterWave_pot, hpot, hlmc, hsaq]

theorem evalWaveOn_pot_congr {u : State} (m : LineMode) (e : WaveEffect) (hpot : u.pot = s.pot) (hlmc : u.lmc = s.lmc)
    (hsaq : u.saq = s.saq) : (u.evalWaveOn m e).pot = (s.evalWaveOn m e).pot := by
  unfold State.evalWaveOn
  dsimp only
  rw [hpot]
  split
  · rfl
  · exact enterWave_pot_congr _ rfl hlmc hsaq

theorem updateWaveBank_pot_congr {u : State} (hpot : u.pot = s.pot) (hlmc : u.lmc = s.lmc) (hsaq : u.saq = s.saq) :
    u.updateWaveBank.pot = s.updateWaveBank.pot := by
  unfold State.updateWaveBank
  rw [hpot, hlmc]
  split
  · exact enterWave_pot_congr _ rfl hlmc hsaq
  · exact hpot

theorem appendSchedule_pot_congr {u : State} (e : ScheduleEntry) (hpot : u.pot = s.pot) (hlmc : u.lmc = s.lmc)
    (haim : u.aim = s.aim) (hsaq : u.saq = s.saq) : (u.appendSchedule e).pot = (s.appendSchedule e).pot := by
  obtain ⟨x, hx⟩ : ∃ x, x = (u.setPot { u.pot with schedule := u.pot.schedule ++ [e] }).noteOccupancy := ⟨_, rfl⟩
  obtain ⟨y, hy⟩ : ∃ y, y = (s.setPot { s.pot with schedule := s.pot.schedule ++ [e] }).noteOccupancy := ⟨_, rfl⟩
  have hxframe := noteOccupancy_frame (u.setPot { u.pot with schedule := u.pot.schedule ++ [e] })
  have hyframe := noteOccupancy_frame (s.setPot { s.pot with schedule := s.pot.schedule ++ [e] })
  have hxy : x.pot = y.pot := by rw [hx, hy, noteOccupancy_pot, noteOccupancy_pot, setPot_pot, setPot_pot, hpot]
  rw [← hx] at hxframe
  rw [← hy] at hyframe
  have hlmc' : x.lmc = y.lmc := (hxframe.lmc (by decide)).trans (hlmc.trans (hyframe.lmc (by decide)).symm)
  have haim' : x.aim = y.aim := (hxframe.aim (by decide)).trans (haim.trans (hyframe.aim (by decide)).symm)
  have hsaq' : x.saq = y.saq := (hxframe.saq (by decide)).trans (hsaq.trans (hyframe.saq (by decide)).symm)
  unfold State.appendSchedule
  dsimp only
  rw [← hx, ← hy, hpot]
  split
  · unfold State.evalWave
    rw [hlmc', haim']
    refine updateWaveBank_pot_congr (evalWaveOn_pot_congr _ _ hxy hlmc' hsaq') ?_ ?_
    · rw [(evalWaveOn_frame _ _ _).lmc (by decide), (evalWaveOn_frame _ _ _).lmc (by decide), hlmc']
    · rw [(evalWaveOn_frame _ _ _).saq (by decide), (evalWaveOn_frame _ _ _).saq (by decide), hsaq']
  · exact hxy

theorem appendSchedule_schedule (e : ScheduleEntry) : (s.appendSchedule e).pot.schedule = s.pot.schedule ++ [e] := by
  unfold State.appendSchedule State.evalWave
  dsimp only
  split
  · rw [(updateWaveBank_same _).schedule, (evalWaveOn_same _ _ _).schedule, noteOccupancy_pot]
    rfl
  · rw [noteOccupancy_pot]
    rfl

/-- R87: an arrival for a board that has left the table, or was judged before, is discarded. -/
theorem gateReached_none {q : Nat} (h : s.trk.board? q = none) : s.gateReached q = s := by
  rw [State.gateReached, h]

theorem gateReached_judged {q : Nat} {b : BoardRecord} (h : s.trk.board? q = some b) (hd : b.decision ≠ .pending) :
    s.gateReached q = s := by
  rw [State.gateReached, h]
  exact if_pos hd

/-- R87, R92, R93: a PENDING board takes its decision, joins the schedule, and is reported. -/
theorem gateReached_pending {q : Nat} {b : BoardRecord} (h : s.trk.board? q = some b) (hd : b.decision = .pending) :
    ∀ why, why = gateReason b (s.lmc.bank b.bank).items s.waveUnavailable → ∀ d, d = gateDecision why →
    s.gateReached q = ((((s.updateBoard q fun r =>
      { r with gateEst := some r.estimate, decision := d, dryReason := why }).appendSchedule ⟨q, b.bank, d⟩).event
        (.boardGated q d why b.estimate)).postGated) := by
  rintro _ rfl _ rfl
  rw [State.gateReached, h]
  exact if_neg (not_not_intro hd)

theorem board?_update_ne {t : Trk} {q p : Nat} {f : BoardRecord → BoardRecord} (hf : ∀ b, (f b).seq = b.seq) (h : p ≠ q) :
    (t.update q f).board? p = t.board? p := by
  unfold Trk.board?
  rw [update_eq]
  dsimp only
  induction t.table with
  | nil => rfl
  | cons b bs ih =>
    rw [List.map_cons, find?_cons_ite, find?_cons_ite, ih]
    by_cases hb : b.seq = q
    · have hne : ¬(b.seq == p) = true := by simpa [hb] using h.symm
      rw [if_pos hb, hf, if_neg hne, if_neg hne]
    · rw [if_neg hb]

end Gate

/-- Settles O41. -/
theorem theGateTakesTheFirstFailure : Obligations.TheGateTakesTheFirstFailure := by
  refine ⟨?_, fun s => ⟨waveUnavailable_iff s, ?_⟩⟩
  · rintro b i u fails hfails order rfl
    have hiff (r : DryReason) : fails r ↔ gateFails b i u r = true := by
      rw [hfails]
      cases r <;> simp [gateFails]
    simp only [hiff, Bool.not_eq_true]
    exact ⟨gateReason_none b i u, fun n r hn => gateReason_some b i u hn⟩
  · rintro seq g rfl
    refine ⟨fun h => congrArg Host.Outcome.next (gateReached_none h), fun b hb =>
      ⟨fun hd => congrArg Host.Outcome.next (gateReached_judged hb hd), fun hd why hwhy d hdec => ?_⟩⟩
    obtain ⟨u, hu⟩ : ∃ u, u = (s.taken (.gateReached seq)).updateBoard seq fun r =>
      { r with gateEst := some r.estimate, decision := d, dryReason := why } := ⟨_, rfl⟩
    obtain ⟨v, hv⟩ : ∃ v, v = u.appendSchedule ⟨seq, b.bank, d⟩ := ⟨_, rfl⟩
    have hexec : exec (.gateReached seq) s = .next ((v.event (.boardGated seq d why b.estimate)).postGated) := by
      rw [hv, hu]
      exact congrArg Host.Outcome.next (gateReached_pending (s := s.taken (.gateReached seq)) hb hd why hwhy d
        (hdec.trans (gateDecision_eq why).symm))
    have huframe : SameBut [.trk, .posted] s u := by
      rw [hu]
      exact ((taken_frame s _).mono (by decide)).trans ((updateBoard_frame _ _ _).mono (by decide))
    have hvframe : SameBut [.trk, .pot, .links, .posted] s v := by
      rw [hv]
      exact (huframe.mono (by decide)).trans ((appendSchedule_frame u _).mono (by decide))
    have hvlinks : v.links = s.links := by
      rw [hv, (appendSchedule_frame u _).links (by decide), huframe.links (by decide)]
    have hvpot : v.pot = (s.appendSchedule ⟨seq, b.bank, d⟩).pot := by
      rw [hv]
      exact appendSchedule_pot_congr _ (huframe.pot (by decide)) (huframe.lmc (by decide)) (huframe.aim (by decide))
        (huframe.saq (by decide))
    have hfound : u.trk.board? seq = some { b with gateEst := some b.estimate, decision := d, dryReason := why } := by
      rw [hu]
      exact board?_update (fun _ => rfl) hb
    have hothers (q : Nat) (hq : q ≠ seq) : u.trk.board? q = s.trk.board? q := by
      rw [hu]
      exact board?_update_ne (fun _ => rfl) hq
    have hresults : ResultsChanged u.trk v.trk := hv ▸ appendSchedule_results u _
    refine ⟨_, hexec, ?_, ?_, fun q hq => ?_, ?_, hvpot, fun l => ?_, ?_⟩
    · exact (hvframe.trans ((event_frame v _).mono (by decide))).trans ((post_frame _ _).mono (by decide))
    · obtain ⟨w, hw⟩ := hresults.board? seq
      rw [hfound] at hw
      exact ⟨_, hw, rfl⟩
    · obtain ⟨w, hw⟩ := hresults.board? q
      rw [hothers q hq] at hw
      refine (congrArg (Option.map _) hw).trans ?_
      rw [Option.map_map]
      rfl
    · exact (congrArg Pot.schedule hvpot).trans (appendSchedule_schedule _)
    · refine (event_link v _ l).trans ?_
      rw [hvframe.clock, State.link, hvlinks]
      rfl
    · exact List.mem_append_right _ (List.mem_singleton_self _)

end Sys2Proof.Machine

/-! Proofs about the pot record (chapter 6): a PTS sample, and what a change of it does to the feeder and the wave. -/

namespace Sys2Proof.Machine

section PotRecord

variable {r : PotRec} {items : PotItems} {m : LineMode}

/-! ### What a sample makes of the pot record (R101, R102) -/

theorem potQualify_same (r : PotRec) : r.qualify = { r with
    state := r.qualify.state, readyCount := r.qualify.readyCount, outCount := r.qualify.outCount } := by
  unfold PotRec.qualify
  dsimp only
  split
  · split
    · split <;> rfl
    · rfl
  · split
    · rfl
    · split <;> rfl
  all_goals rfl

theorem potQualify_heating (h : r.state = .heating) :
    (absDiff r.temp r.setpoint ≤ r.band → 120 ≤ r.readyCount + 1 →
      r.qualify.state = .ready ∧ r.qualify.readyCount = 120 ∧ r.qualify.outCount = 0) ∧
    (absDiff r.temp r.setpoint ≤ r.band → r.readyCount + 1 < 120 →
      r.qualify.state = .heating ∧ r.qualify.readyCount = r.readyCount + 1) ∧
    (r.band < absDiff r.temp r.setpoint → r.qualify.state = .heating ∧ r.qualify.readyCount = 0) := by
  simp only [PotRec.qualify, h]
  refine ⟨fun hin hn => ?_, fun hin hn => ?_, fun hout => ?_⟩
  · rw [if_pos hin, if_pos hn]
    exact ⟨rfl, rfl, rfl⟩
  · rw [if_pos hin, if_neg (Nat.not_le.mpr hn)]
    exact ⟨rfl, rfl⟩
  · rw [if_neg (Nat.not_le.mpr hout)]
    exact ⟨rfl, rfl⟩

theorem potQualify_ready (h : r.state = .ready) :
    (absDiff r.temp r.setpoint ≤ r.band → r.qualify.state = .ready ∧ r.qualify.outCount = 0) ∧
    (r.band < absDiff r.temp r.setpoint → r.outCount + 1 < 10 →
      r.qualify.state = .ready ∧ r.qualify.outCount = r.outCount + 1) ∧
    (r.band < absDiff r.temp r.setpoint → 10 ≤ r.outCount + 1 →
      r.qualify.state = .heating ∧ r.qualify.readyCount = 0 ∧ r.qualify.outCount = 0) := by
  simp only [PotRec.qualify, h]
  refine ⟨fun hin => ?_, fun hout hn => ?_, fun hout hn => ?_⟩
  · rw [if_pos hin]
    exact ⟨rfl, rfl⟩
  · rw [if_neg (Nat.not_le.mpr hout), if_neg (Nat.not_le.mpr hn)]
    exact ⟨rfl, rfl⟩
  · rw [if_neg (Nat.not_le.mpr hout), if_pos hn]
    exact ⟨rfl, rfl, rfl⟩

/-- R101, steps 5 and 6: the law has run, with integral and counts at 0 where the pot leaves FAULT. -/
def PotRec.heated (r : PotRec) (items : PotItems) : PotRec :=
  PotRec.law { r with
    integral := if r.state = .fault then 0 else r.integral,
    readyCount := if r.state = .fault then 0 else r.readyCount,
    outCount := if r.state = .fault then 0 else r.outCount } items.kp items.ki

theorem potWork_zero (h : r.setpoint = 0) : (r.work items m).state = .off := by
  unfold PotRec.work
  dsimp only
  rw [if_pos (by split <;> exact h)]

/-- R101, steps 6 to 9: the pot's state follows the heated record. -/
theorem potWork_eq (h : r.setpoint ≠ 0) : r.work items m =
    if r.temp < items.pumpSafe then (r.heated items).restart .cold
    else if m = .setback then (r.heated items).restart .setback
    else if m = .standby then (r.heated items).restart .hold
    else if r.state = .cold ∨ r.state = .fault then ((r.heated items).restart .heating).qualify
    else (r.heated items).qualify := by
  unfold PotRec.work PotRec.heated
  dsimp only
  by_cases hfault : r.state = .fault
  · simp only [hfault, if_true]
    rw [if_neg h]
    rfl
  · simp only [hfault, if_false]
    rw [if_neg h]
    rfl

theorem heated_same (r : PotRec) (items : PotItems) : ∀ x,
    x = heaterLaw items.kp items.ki r.setpoint r.temp (if r.state = .fault then 0 else r.integral) →
    r.heated items = { r with
      integral := x.integral, computed := x.duty, readyCount := if r.state = .fault then 0 else r.readyCount,
      outCount := if r.state = .fault then 0 else r.outCount } := by
  rintro _ rfl
  rfl

/-- The work of a usable sample writes the state, the counts, and what the law gives. -/
theorem potWork_same (h : r.setpoint ≠ 0) : ∀ r', r' = r.work items m → ∀ x,
    x = heaterLaw items.kp items.ki r.setpoint r.temp (if r.state = .fault then 0 else r.integral) →
    r' = { r with integral := x.integral, computed := x.duty, state := r'.state, readyCount := r'.readyCount,
                  outCount := r'.outCount } := by
  rintro _ rfl x hx
  rw [potWork_eq h, heated_same r items x hx]
  split
  · rfl
  · split
    · rfl
    · split
      · rfl
      · split
        · rw [potQualify_same]
          rfl
        · rw [potQualify_same]

/-- Nor does it write what the sample brought, the setpoint, the band, or the overtemperature judgement. -/
theorem potWork_keeps (r : PotRec) (items : PotItems) (m : LineMode) : ∀ r', r' = r.work items m →
    r'.temp = r.temp ∧ r'.tempState = r.tempState ∧ r'.setpoint = r.setpoint ∧ r'.band = r.band ∧ r'.armed = r.armed ∧
      r'.overtemp = r.overtemp := by
  intro r' hr'
  by_cases h : r.setpoint = 0
  · rw [hr']
    unfold PotRec.work
    dsimp only
    rw [if_pos (by split <;> exact h)]
    split <;> exact ⟨rfl, rfl, rfl, rfl, rfl, rfl⟩
  · rw [potWork_same h r' hr' _ rfl]
    exact ⟨rfl, rfl, rfl, rfl, rfl, rfl⟩

theorem potWork_clauses (h : r.setpoint ≠ 0) : ∀ r', r' = r.work items m →
    (∀ x, x = heaterLaw items.kp items.ki r.setpoint r.temp (if r.state = .fault then 0 else r.integral) →
      r'.computed = x.duty ∧ r'.integral = x.integral) ∧ r'.applied = r.applied ∧ r'.output = r.output ∧
    (r.temp < items.pumpSafe → r'.state = .cold ∧ r'.readyCount = 0 ∧ r'.outCount = 0) ∧
    (items.pumpSafe ≤ r.temp →
      (m = .setback → r'.state = .setback ∧ r'.readyCount = 0 ∧ r'.outCount = 0) ∧
      (m = .standby → r'.state = .hold ∧ r'.readyCount = 0 ∧ r'.outCount = 0) ∧
      (m ≠ .setback → m ≠ .standby →
        (r.state ∈ [.heating, .cold, .fault] → ∀ n, n = (if r.state = .heating then r.readyCount else 0) →
          (absDiff r.temp r.setpoint ≤ r.band → 120 ≤ n + 1 →
            r'.state = .ready ∧ r'.readyCount = 120 ∧ r'.outCount = 0) ∧
          (absDiff r.temp r.setpoint ≤ r.band → n + 1 < 120 → r'.state = .heating ∧ r'.readyCount = n + 1) ∧
          (r.band < absDiff r.temp r.setpoint → r'.state = .heating ∧ r'.readyCount = 0)) ∧
        (r.state = .ready →
          (absDiff r.temp r.setpoint ≤ r.band → r'.state = .ready ∧ r'.outCount = 0) ∧
          (r.band < absDiff r.temp r.setpoint → r.outCount + 1 < 10 →
            r'.state = .ready ∧ r'.outCount = r.outCount + 1) ∧
          (r.band < absDiff r.temp r.setpoint → 10 ≤ r.outCount + 1 →
            r'.state = .heating ∧ r'.readyCount = 0 ∧ r'.outCount = 0)))) := by
  intro r' hr'
  have hsame := potWork_same h r' hr' _ rfl
  refine ⟨?_, (congrArg PotRec.applied hsame :), (congrArg PotRec.output hsame :), fun hcold => ?_, fun hwarm => ?_⟩
  · rintro _ rfl
    exact ⟨(congrArg PotRec.computed hsame :), (congrArg PotRec.integral hsame :)⟩
  · rw [hr', potWork_eq h, if_pos hcold]
    exact ⟨rfl, rfl, rfl⟩
  · rw [potWork_eq h, if_neg (Nat.not_lt.mpr hwarm)] at hr'
    refine ⟨fun hm => ?_, fun hm => ?_, fun hset hstand => ?_⟩
    · rw [hr', if_pos hm]
      exact ⟨rfl, rfl, rfl⟩
    · rw [hr', if_neg (by simp [hm]), if_pos hm]
      exact ⟨rfl, rfl, rfl⟩
    · rw [if_neg hset, if_neg hstand] at hr'
      refine ⟨fun hstate => ?_, fun hready => ?_⟩
      · rintro _ rfl
        by_cases hheating : r.state = .heating
        · rw [if_neg (by simp [hheating])] at hr'
          rw [if_pos hheating, hr']
          have hclauses := potQualify_heating (r := r.heated items) hheating
          have hcount : (r.heated items).readyCount = r.readyCount := if_neg (by simp [hheating])
          rw [hcount] at hclauses
          exact hclauses
        · have hleft : r.state = .cold ∨ r.state = .fault := by simpa [hheating] using hstate
          rw [if_pos hleft] at hr'
          rw [if_neg hheating, hr']
          exact potQualify_heating (r := (r.heated items).restart .heating) rfl
      · rw [if_neg (by simp [hready])] at hr'
        rw [hr']
        have hclauses := potQualify_ready (r := r.heated items) hready
        have hcount : (r.heated items).outCount = r.outCount := if_neg (by simp [hready])
        rw [hcount] at hclauses
        exact hclauses

theorem potSample_unusable {v : Nat} {rep : ReportedState} (h : usable rep = false) :
    r.sample items m v rep = ({ r with temp := v, tempState := rep }.toFault, none) := if_neg (by simp [h])

theorem potSample_usable {v : Nat} {rep : ReportedState} (h : usable rep = true) :
    ∀ j, j = judgeOvertemp 3400 r.setpoint items.margin v r.armed r.overtemp →
    ∀ q, q = { r with temp := v, tempState := rep, armed := j.armed, overtemp := j.holds } →
    r.sample items m v rep = (if j.holds = true then q.toFault else q.work items m, some j) := by
  rintro _ rfl _ rfl
  exact if_pos h

end PotRecord

section SetHeat

variable (s : State)

/-- R101: a PTS sample posts what its judgement comes to, and the pot record takes the sample. -/
theorem potSample_eq (v : Nat) (rep : ReportedState) : ∀ x, x = s.pot.heat.sample s.pot.items s.lmc.mode v rep →
    s.potSample v rep = (s.post ((x.2.map fun j => j.arrivals Alarm.potOvertemp).getD [])).setHeat s.lmc.mode x.1 := by
  intro x hx
  unfold State.potSample
  dsimp only
  rw [← hx]
  rcases x with ⟨r, _ | j⟩
  · exact congrArg (State.setHeat s.lmc.mode r) (post_nil s).symm
  · rfl

/-! ### The pot record in the state (R120) -/

theorem feederOn_appends (w : ContactLevel) (f : Bool) : s.posted <+: (s.feederOn w f).posted := by
  rw [feederOn_posted]
  exact List.prefix_append _ _

theorem evalFeeder_appends : s.posted <+: s.evalFeeder.posted := feederOn_appends s _ _

/-- A change into or out of READY is handed on, and the feeder and the wave follow it. -/
theorem setHeat_moves (m : LineMode) (r : PotRec) (h : ¬(s.pot.heat.state = .ready ↔ r.state = .ready)) :
    s.setHeat m r = (((s.setPot { s.pot with heat := r }).post [.readinessArrival (.pot r.state)]).evalFeeder).evalWaveOn m
      s.aim.waveEffect := by
  refine if_neg fun heq => h ?_
  rw [← beq_iff_eq (a := s.pot.heat.state), ← beq_iff_eq (a := r.state), heq]

theorem setHeat_stays (m : LineMode) (r : PotRec) (h : s.pot.heat.state = .ready ↔ r.state = .ready) :
    s.setHeat m r = s.setPot { s.pot with heat := r } := by
  refine setHeat_same s m r (Bool.eq_iff_iff.mpr ?_)
  rw [beq_iff_eq, beq_iff_eq, h]

theorem setHeat_appends (m : LineMode) (r : PotRec) : s.posted <+: (s.setHeat m r).posted := by
  by_cases h : s.pot.heat.state = .ready ↔ r.state = .ready
  · rw [setHeat_stays s m r h]
    exact List.prefix_rfl
  · rw [setHeat_moves s m r h]
    obtain ⟨u, hu⟩ : ∃ u, u = (s.setPot { s.pot with heat := r }).post [.readinessArrival (.pot r.state)] := ⟨_, rfl⟩
    have hposted : s.posted <+: u.posted := by
      rw [hu]
      exact List.prefix_append _ _
    rw [← hu]
    exact (hposted.trans (evalFeeder_appends u)).trans (evalWaveOn_appends _ _ _)

/-- R108: the feeder does not feed while the pot is not READY. -/
theorem feederNext_not_ready (p : Pot) (w : ContactLevel) (f : Bool) (h : p.heat.state ≠ .ready) :
    p.feederNext w f ≠ .feeding := by
  unfold Pot.feederNext
  split
  · exact FeederState.noConfusion
  · rw [if_neg (by simp [Pot.isReady, h])]
    exact FeederState.noConfusion

/-- R114: a pot that is not READY has no wave. -/
theorem waveTarget_not_ready (m : LineMode) (e : WaveEffect) (d : Option GateDecision) : waveTarget m e false d = .off := by
  unfold waveTarget
  simp

/-- What a change into or out of READY hands on, and what leaving READY takes with it (R120). -/
theorem setHeat_moved (m : LineMode) (r : PotRec) (h : ¬(s.pot.heat.state = .ready ↔ r.state = .ready)) :
    ∀ t, t = s.setHeat m r → Instr.readinessArrival (.pot r.state) ∈ t.posted ∧
      (r.state ≠ .ready → t.pot.wave = .off ∧ t.pot.target = .off ∧ t.pot.feeder ≠ .feeding) := by
  rintro _ rfl
  rw [setHeat_moves s m r h]
  obtain ⟨u, hu⟩ : ∃ u, u = ((s.setPot { s.pot with heat := r }).post [.readinessArrival (.pot r.state)]) := ⟨_, rfl⟩
  rw [← hu]
  have happends := (feederOn_appends u (u.saq.contact .wirePresent).reported (u.aim.inhibitActive .feed)).trans
    (evalWaveOn_appends u.evalFeeder m s.aim.waveEffect)
  refine ⟨happends.subset ?_, fun hleft => ?_⟩
  · rw [hu]
    exact List.mem_append_right _ (List.mem_singleton_self _)
  · have hheat : u.evalFeeder.pot.heat = r := by rw [evalFeeder_pot, hu]; rfl
    have hready : u.evalFeeder.pot.isReady = false := by simp [Pot.isReady, hheat, hleft]
    obtain ⟨htarget, hwave, -, hfeeder⟩ := evalWaveOn_wave u.evalFeeder m s.aim.waveEffect _ rfl
    rw [hready, waveTarget_not_ready] at htarget hwave
    refine ⟨hwave, htarget, ?_⟩
    rw [hfeeder, evalFeeder_pot]
    exact feederNext_not_ready _ _ _ (by rw [hu]; exact hleft)

end SetHeat

/-- Settles O44. -/
theorem potSamplesAreWorkedInOrder : Obligations.PotSamplesAreWorkedInOrder := by
  intro s v rep
  obtain ⟨x, hx⟩ : ∃ x, x = s.pot.heat.sample s.pot.items s.lmc.mode v rep := ⟨_, rfl⟩
  obtain ⟨u, hu⟩ : ∃ u, u = (s.taken (.ptsSampleArrival v rep)).post
    ((x.2.map fun j => j.arrivals Alarm.potOvertemp).getD []) := ⟨_, rfl⟩
  have hexec : exec (.ptsSampleArrival v rep) s = .next (u.setHeat s.lmc.mode x.1) := by
    rw [hu]
    exact congrArg Host.Outcome.next (potSample_eq (s.taken (.ptsSampleArrival v rep)) v rep x hx)
  have huframe : SameBut [.posted] s u := hu ▸ (taken_frame s _).trans (post_frame _ _)
  have hpot : u.pot = s.pot := huframe.pot (by decide)
  have htrk : u.trk = s.trk := huframe.trk (by decide)
  obtain ⟨t, ht⟩ : ∃ t, t = u.setHeat s.lmc.mode x.1 := ⟨_, rfl⟩
  have hframe : SameBut [.trk, .pot, .posted] s t := by
    rw [ht]
    exact (huframe.mono (by decide)).trans ((setHeat_frame u _ _).mono (by decide))
  rw [← ht] at hexec
  refine ⟨t, hexec, hframe, ?_⟩
  rintro r hr r' hr' j hj
  have hheat : r' = x.1 := by rw [hr', ht, setHeat_heat]
  clear hr'
  have hstays (h : r.state = .ready ↔ r'.state = .ready) : t.pot = { s.pot with heat := r' } ∧ t.trk = s.trk := by
    rw [ht, setHeat_stays u _ _ (by rwa [hpot, ← hr, ← hheat])]
    exact ⟨by rw [setPot_pot, hpot, hheat], htrk⟩
  have hmoves (h : ¬(r.state = .ready ↔ r'.state = .ready)) : Instr.readinessArrival (.pot r'.state) ∈ t.posted ∧
      (r'.state ≠ .ready → t.pot.wave = .off ∧ t.pot.target = .off ∧ t.pot.feeder ≠ .feeding) := by
    rw [hr, ← hpot] at h
    exact setHeat_moved u s.lmc.mode r' h t (by rw [ht, hheat])
  have hposted (a : Instr) (h : a ∈ (x.2.map fun j => j.arrivals Alarm.potOvertemp).getD []) : a ∈ t.posted := by
    rw [ht]
    refine (setHeat_appends u _ _).subset ?_
    rw [hu]
    exact List.mem_append_right _ h
  clear hu ht hexec
  rw [← hr] at hx
  cases husable : usable rep with
  | false =>
    rw [potSample_unusable husable] at hx
    subst hx
    subst hheat
    exact ⟨rfl, rfl, rfl, rfl, fun h => absurd h (by decide), fun h => absurd h (by decide), hstays, hmoves,
      fun _ => ⟨rfl, rfl⟩, fun h => absurd h (by decide), fun _ => ⟨rfl, rfl, rfl, rfl, rfl, rfl, rfl⟩,
      fun h => absurd h (by decide)⟩
  | true =>
    obtain ⟨q, hq⟩ : ∃ q : PotRec, q = { r with temp := v, tempState := rep, armed := j.armed, overtemp := j.holds } := ⟨_, rfl⟩
    rw [potSample_usable husable j hj q hq] at hx
    subst hx
    have harrivals (a : Instr) (h : a ∈ j.arrivals Alarm.potOvertemp) := hposted a h
    rw [judged_arrivals hj] at harrivals
    have hraised (h : j.raised = true) := harrivals (.alarmRaise Alarm.potOvertemp)
      (List.mem_append_left _ (by rw [if_pos h]; exact List.mem_singleton_self _))
    have hended (h : j.ended = true) := harrivals (.alarmEnd Alarm.potOvertemp)
      (List.mem_append_right _ (by rw [if_pos h]; exact List.mem_singleton_self _))
    cases hholds : j.holds with
    | true =>
      replace hheat : r' = q.toFault := hheat.trans (if_pos hholds)
      rw [hq] at hheat
      subst hheat
      exact ⟨rfl, rfl, rfl, rfl, fun _ => hraised, fun _ => hended, hstays, hmoves, fun h => absurd h (by decide),
        fun _ => ⟨rfl, hholds⟩, fun _ => ⟨rfl, rfl, rfl, rfl, rfl, rfl, rfl⟩, fun _ h => absurd h (by decide)⟩
    | false =>
      replace hheat : r' = q.work s.pot.items s.lmc.mode := hheat.trans (if_neg (by simp [hholds]))
      have hsetpoint : q.setpoint = r.setpoint := by rw [hq]
      obtain ⟨htemp, htempState, hset, hband, harmed, hover⟩ := potWork_keeps q s.pot.items s.lmc.mode r' hheat
      have hzero := potWork_zero (r := q) (items := s.pot.items) (m := s.lmc.mode)
      have hworked := potWork_clauses (r := q) (items := s.pot.items) (m := s.lmc.mode)
      rw [hsetpoint] at hzero hworked
      subst hq
      refine ⟨htemp, htempState, hset, hband, fun _ => hraised, fun _ => hended, hstays, hmoves, fun h => absurd h (by decide),
        fun _ => ⟨harmed, hover.trans hholds⟩, fun h => absurd h (by decide), fun _ _ => ⟨fun hsp => ?_, fun hsp => ?_⟩⟩
      · rw [hheat, hzero hsp]
      · exact hworked hsp r' hheat

end Sys2Proof.Machine

/-! Proofs about the pot and the feeder (chapter 6): the setpoint, the wave at a new mode or bank, the level and the feeder. -/

namespace Sys2Proof.Machine

section PotEvaluate

variable {r : PotRec} {sp band : Nat} {items : PotItems} {m : LineMode}

/-! ### The evaluation of a setpoint and a band (R103) -/

theorem potEvaluate_fault (h : r.state = .fault) : r.evaluate sp band items m =
    { r with setpoint := sp, band := band, armed := if r.setpoint ≠ sp then false else r.armed } := if_pos h

theorem potEvaluate_off (h : r.state ≠ .fault) (hsp : sp = 0) : r.evaluate sp band items m =
    PotRec.toOff { r with setpoint := sp, band := band } := (if_neg h).trans (if_pos hsp)

theorem potEvaluate_start (h : r.state = .off) (hsp : sp ≠ 0) : r.evaluate sp band items m =
    { r with
      setpoint := sp, band := band, readyCount := 0, outCount := 0, integral := 0, armed := false,
      state := if r.temp < items.pumpSafe then .cold else if m = .setback then .setback
        else if m = .standby then .hold else .heating } :=
  (if_neg (by simp [h])).trans ((if_neg hsp).trans (if_pos h))

theorem potEvaluate_held (h : r.state ≠ .fault) (hoff : r.state ≠ .off) (hsp : sp ≠ 0) (hm : m = .setback ∨ m = .standby) :
    r.evaluate sp band items m =
      { r with
        setpoint := sp, band := band, readyCount := 0, outCount := 0, armed := if r.setpoint ≠ sp then false else r.armed,
        state := if r.state = .cold then .cold else if m = .setback then .setback else .hold } :=
  (if_neg h).trans ((if_neg hsp).trans ((if_neg hoff).trans (if_pos hm)))

theorem potEvaluate_ready (hready : r.state = .ready) (hsp : sp ≠ 0) (hm : ¬(m = .setback ∨ m = .standby))
    (hchanged : r.setpoint ≠ sp ∨ r.band ≠ band) : r.evaluate sp band items m =
      if absDiff r.temp sp ≤ band then { r with setpoint := sp, band := band, outCount := 0, armed := false }
      else { r with setpoint := sp, band := band, state := .heating, readyCount := 0, outCount := 0, armed := false } :=
  (if_neg (by simp [hready])).trans ((if_neg hsp).trans ((if_neg (by simp [hready])).trans ((if_neg hm).trans
    (if_pos ⟨hready, hchanged⟩))))

theorem potEvaluate_resumed (hheld : r.state = .setback ∨ r.state = .hold) (hsp : sp ≠ 0)
    (hm : ¬(m = .setback ∨ m = .standby)) : r.evaluate sp band items m =
      { r with
        setpoint := sp, band := band, state := .heating, readyCount := 0, outCount := 0,
        armed := if r.setpoint ≠ sp then false else r.armed } := by
  have hfault : r.state ≠ .fault := by rcases hheld with h | h <;> simp [h]
  have hoff : r.state ≠ .off := by rcases hheld with h | h <;> simp [h]
  have hready : ¬(r.state = .ready ∧ (r.setpoint ≠ sp ∨ r.band ≠ band)) := by rcases hheld with h | h <;> simp [h]
  exact (if_neg hfault).trans ((if_neg hsp).trans ((if_neg hoff).trans ((if_neg hm).trans ((if_neg hready).trans
    (if_pos hheld)))))

theorem potEvaluate_kept (hstate : r.state = .cold ∨ r.state = .heating ∨ (r.state = .ready ∧ r.setpoint = sp ∧ r.band = band))
    (hsp : sp ≠ 0) (hm : ¬(m = .setback ∨ m = .standby)) : r.evaluate sp band items m =
      { r with setpoint := sp, band := band, armed := if r.setpoint ≠ sp then false else r.armed } := by
  have hfault : r.state ≠ .fault := by rcases hstate with h | h | ⟨h, -, -⟩ <;> simp [h]
  have hoff : r.state ≠ .off := by rcases hstate with h | h | ⟨h, -, -⟩ <;> simp [h]
  have hheld : ¬(r.state = .setback ∨ r.state = .hold) := by rcases hstate with h | h | ⟨h, -, -⟩ <;> simp [h]
  have hready : ¬(r.state = .ready ∧ (r.setpoint ≠ sp ∨ r.band ≠ band)) := by
    rcases hstate with h | h | ⟨-, hset, hband⟩
    · simp [h]
    · simp [h]
    · simp [hset, hband]
  exact (if_neg hfault).trans ((if_neg hsp).trans ((if_neg hoff).trans ((if_neg hm).trans ((if_neg hready).trans
    (if_neg hheld)))))

/-- R103: disarming by a setpoint that moves. -/
theorem disarmed_eq {moved : Bool} (h : moved = true ↔ r.setpoint ≠ sp) :
    (if r.setpoint ≠ sp then false else r.armed) = (r.armed && !moved) := by
  by_cases hne : r.setpoint ≠ sp
  · rw [if_pos hne, h.mpr hne, Bool.not_true, Bool.and_false]
  · have hstill : moved = false := by simpa [hne] using h
    rw [if_neg hne, hstill, Bool.not_false, Bool.and_true]

/-- R103: the evaluation, case by case. -/
theorem potEvaluate_clauses : ∀ r', r' = r.evaluate sp band items m → ∀ moved : Bool, (moved = true ↔ r.setpoint ≠ r'.setpoint) →
    r'.setpoint = sp ∧ r'.band = band ∧
    r'.temp = r.temp ∧ r'.tempState = r.tempState ∧ r'.overtemp = r.overtemp ∧
    (r.state = .fault → r'.state = .fault ∧ r'.integral = r.integral ∧ r'.armed = (r.armed && !moved)) ∧
    (r.state ≠ .fault → r'.setpoint = 0 →
      r'.state = .off ∧ r'.integral = 0 ∧ r'.computed = 0 ∧ r'.applied = 0 ∧ r'.output = false ∧ r'.armed = false ∧
      r'.readyCount = 0 ∧ r'.outCount = 0) ∧
    (r.state = .off → r'.setpoint ≠ 0 →
      r'.state = (if r.temp < items.pumpSafe then .cold else if m = .setback then .setback
        else if m = .standby then .hold else .heating) ∧ r'.integral = 0 ∧ r'.armed = false ∧
      r'.readyCount = 0 ∧ r'.outCount = 0) ∧
    (r.state ≠ .fault → r.state ≠ .off → r'.setpoint ≠ 0 → r'.integral = r.integral ∧ r'.computed = r.computed ∧
      (m = .setback ∨ m = .standby →
        r'.state = (if r.state = .cold then .cold else if m = .setback then .setback else .hold) ∧
        r'.readyCount = 0 ∧ r'.outCount = 0 ∧ r'.armed = (r.armed && !moved)) ∧
      (m ≠ .setback → m ≠ .standby →
        (r.state = .ready → (moved = true ∨ r.band ≠ r'.band) →
          r'.armed = false ∧ r'.outCount = 0 ∧
          r'.state = if absDiff r.temp r'.setpoint ≤ r'.band then .ready else .heating) ∧
        (r.state = .setback ∨ r.state = .hold →
          r'.state = .heating ∧ r'.readyCount = 0 ∧ r'.outCount = 0 ∧ r'.armed = (r.armed && !moved)) ∧
        (r.state = .cold ∨ r.state = .heating ∨ (r.state = .ready ∧ moved = false ∧ r.band = r'.band) →
          r'.state = r.state ∧ r'.readyCount = r.readyCount ∧ r'.outCount = r.outCount ∧
          r'.armed = (r.armed && !moved)))) := by
  rintro r' hr' moved hmoved
  by_cases hfault : r.state = .fault
  · rw [potEvaluate_fault hfault] at hr'
    subst hr'
    exact ⟨rfl, rfl, rfl, rfl, rfl, fun _ => ⟨hfault, rfl, disarmed_eq hmoved⟩, fun h => absurd hfault h,
      fun h => by simp [hfault] at h, fun h => absurd hfault h⟩
  by_cases hsp : sp = 0
  · rw [potEvaluate_off hfault hsp] at hr'
    subst hr'
    exact ⟨rfl, rfl, rfl, rfl, rfl, fun h => absurd h hfault, fun _ _ => ⟨rfl, rfl, rfl, rfl, rfl, rfl, rfl, rfl⟩,
      fun _ h => absurd hsp h, fun _ _ h => absurd hsp h⟩
  by_cases hoff : r.state = .off
  · rw [potEvaluate_start hoff hsp] at hr'
    subst hr'
    exact ⟨rfl, rfl, rfl, rfl, rfl, fun h => absurd h hfault, fun _ h => absurd h hsp,
      fun _ _ => ⟨rfl, rfl, rfl, rfl, rfl⟩, fun _ h => absurd hoff h⟩
  by_cases hm : m = .setback ∨ m = .standby
  · rw [potEvaluate_held hfault hoff hsp hm] at hr'
    subst hr'
    exact ⟨rfl, rfl, rfl, rfl, rfl, fun h => absurd h hfault, fun _ h => absurd h hsp, fun h => absurd h hoff,
      fun _ _ _ => ⟨rfl, rfl, fun _ => ⟨rfl, rfl, rfl, disarmed_eq hmoved⟩,
        fun hset hstand => absurd hm (not_or.mpr ⟨hset, hstand⟩)⟩⟩
  by_cases hchanged : r.state = .ready ∧ (r.setpoint ≠ sp ∨ r.band ≠ band)
  · obtain ⟨hready, hne⟩ := hchanged
    rw [potEvaluate_ready hready hsp hm hne] at hr'
    obtain ⟨n, hsame⟩ : ∃ n, r' = { r with
        setpoint := sp, band := band, outCount := 0, armed := false, readyCount := n,
        state := if absDiff r.temp sp ≤ band then .ready else .heating } := by
      rw [hr']
      split
      · exact ⟨r.readyCount, by rw [← hready]⟩
      · exact ⟨0, rfl⟩
    subst hsame
    refine ⟨rfl, rfl, rfl, rfl, rfl, fun h => absurd h hfault, fun _ h => absurd h hsp, fun h => absurd h hoff,
      fun _ _ _ => ⟨rfl, rfl, fun h => absurd h hm, fun _ _ => ⟨fun _ _ => ⟨rfl, rfl, rfl⟩, fun h => ?_, fun h => ?_⟩⟩⟩
    · simp [hready] at h
    · rcases h with h | h | ⟨-, hstill, hband⟩
      · simp [hready] at h
      · simp [hready] at h
      · rcases hne with hset | hset
        · rw [hmoved.mpr hset] at hstill
          cases hstill
        · exact absurd hband hset
  by_cases hheld : r.state = .setback ∨ r.state = .hold
  · rw [potEvaluate_resumed hheld hsp hm] at hr'
    subst hr'
    refine ⟨rfl, rfl, rfl, rfl, rfl, fun h => absurd h hfault, fun _ h => absurd h hsp, fun h => absurd h hoff,
      fun _ _ _ => ⟨rfl, rfl, fun h => absurd h hm, fun _ _ => ⟨fun h => ?_, fun _ => ⟨rfl, rfl, rfl, disarmed_eq hmoved⟩,
        fun h => ?_⟩⟩⟩
    · rcases hheld with hs | hs <;> cases hs.symm.trans h
    · rcases hheld with hs | hs <;> simp [hs] at h
  · have hstate : r.state = .cold ∨ r.state = .heating ∨ (r.state = .ready ∧ r.setpoint = sp ∧ r.band = band) := by
      cases hs : r.state
      case ready =>
        rw [hs] at hchanged
        simpa using hchanged
      all_goals simp_all
    rw [potEvaluate_kept hstate hsp hm] at hr'
    subst hr'
    refine ⟨rfl, rfl, rfl, rfl, rfl, fun h => absurd h hfault, fun _ h => absurd h hsp, fun h => absurd h hoff,
      fun _ _ _ => ⟨rfl, rfl, fun h => absurd h hm, fun _ _ => ⟨fun hready hne => ?_, fun h => absurd h hheld,
        fun _ => ⟨rfl, rfl, rfl, disarmed_eq hmoved⟩⟩⟩⟩
    exact absurd ⟨hready, hne.imp_left hmoved.mp⟩ hchanged

theorem potEffective_cases : ∀ (i : BankItems) (p : PotItems),
    (∀ m, m ∈ [LineMode.warmup, .production, .changeover, .drain, .idle] →
      potEffective m (.valid i) p = i.potSetpoint ∧ potEffective m .empty p = 0) ∧
    potEffective .setback (.valid i) p = i.potSetpoint - i.potSetback ∧ potEffective .setback .empty p = 0 ∧
    (∀ b, potEffective .standby b p = (if p.holdEnabled then p.holdSetpoint else 0) ∧ potEffective .safe b p = 0 ∧
      potEffective .maintenance b p = 0) := by
  refine fun i p => ⟨fun m hm => ?_, rfl, Nat.zero_sub _, fun b => ⟨rfl, rfl, rfl⟩⟩
  simp only [List.mem_cons, List.not_mem_nil, or_false] at hm
  rcases hm with rfl | rfl | rfl | rfl | rfl <;> exact ⟨rfl, rfl⟩

end PotEvaluate

section PotTakes

variable (s : State)

/-! ### A new mode or bank at POT (R111, R114, R120) -/

theorem setHeat_samePot (m : LineMode) (r : PotRec) : SamePot { s.pot with heat := r } (s.setHeat m r).pot := by
  by_cases h : s.pot.heat.state = .ready ↔ r.state = .ready
  · rw [setHeat_stays s m r h]
    exact .refl _
  · rw [setHeat_moves s m r h]
    obtain ⟨u, hu⟩ : ∃ u, u = (s.setPot { s.pot with heat := r }).post [.readinessArrival (.pot r.state)] := ⟨_, rfl⟩
    have hpot : u.pot = { s.pot with heat := r } := by
      rw [hu]
      rfl
    rw [← hu, ← hpot]
    exact (evalFeeder_same u).trans (evalWaveOn_same _ _ _)

/-- A change of the record leaves the wave bank, and leaves the wave or moves it to the target it gives. -/
theorem setHeat_wave (m : LineMode) (r : PotRec) : ∀ t,
    t = waveTarget m s.aim.waveEffect (r.state == .ready) (s.pot.schedule.head?.map (·.decision)) →
    (s.setHeat m r).pot.waveBank = s.pot.waveBank ∧
      ((s.setHeat m r).pot.wave = s.pot.wave ∨ (s.setHeat m r).pot.wave = waveMove s.pot.wave t) := by
  rintro t ht
  by_cases h : s.pot.heat.state = .ready ↔ r.state = .ready
  · rw [setHeat_stays s m r h]
    exact ⟨rfl, .inl rfl⟩
  · rw [setHeat_moves s m r h]
    obtain ⟨u, hu⟩ : ∃ u, u = ((s.setPot { s.pot with heat := r }).post [.readinessArrival (.pot r.state)]).evalFeeder := ⟨_, rfl⟩
    have hpot : u.pot = { s.pot with heat := r, feeder := u.pot.feeder } := by
      rw [hu, evalFeeder_pot]
      rfl
    rw [← hu]
    obtain ⟨-, hwave, hbank, -⟩ := evalWaveOn_wave u m s.aim.waveEffect t (by rw [ht, hpot]; rfl)
    rw [hpot] at hwave hbank
    exact ⟨hbank, .inr hwave⟩

theorem evaluatePot_samePot (m : LineMode) : ∀ r, r = s.pot.heat.evaluate (potEffective m (s.lmc.bank s.lmc.active) s.pot.items)
    (s.lmc.bank s.lmc.active).potBand s.pot.items m → SamePot { s.pot with heat := r } (s.evaluatePot m).pot := by
  rintro _ rfl
  exact setHeat_samePot s m _

/-- R103, R114: a new mode: the pot record is evaluated, and the wave moves to its target. -/
theorem potMode_clauses (m : LineMode) : ∀ r, r = s.pot.heat.evaluate (potEffective m (s.lmc.bank s.lmc.active) s.pot.items)
    (s.lmc.bank s.lmc.active).potBand s.pot.items m → ∀ t, t = s.potMode m →
    SamePot { s.pot with heat := r } t.pot ∧
    t.pot.target = waveTarget m s.aim.waveEffect t.pot.isReady (s.pot.schedule.head?.map (·.decision)) ∧
    t.pot.wave = waveMove s.pot.wave t.pot.target ∧ t.pot.waveBank = s.pot.waveBank := by
  rintro r hr _ rfl
  obtain ⟨u, hu⟩ : ∃ u, u = s.evaluatePot m := ⟨_, rfl⟩
  have hsame := evaluatePot_samePot s m r hr
  have hwave := setHeat_wave s m r _ rfl
  have hset : u = s.setHeat m r := by rw [hu, hr]; rfl
  rw [← hu] at hsame
  rw [← hset] at hwave
  obtain ⟨hbank, hmoved⟩ := hwave
  have htarget : waveTarget m s.aim.waveEffect u.pot.isReady (u.pot.schedule.head?.map (·.decision)) =
      waveTarget m s.aim.waveEffect (r.state == .ready) (s.pot.schedule.head?.map (·.decision)) := by
    rw [Pot.isReady, hsame.heat, hsame.schedule]
  obtain ⟨ht, hw, hb, -⟩ := evalWaveOn_wave u m s.aim.waveEffect _ rfl
  have hend := evalWaveOn_same u m s.aim.waveEffect
  rw [State.potMode, ← hu]
  refine ⟨hsame.trans hend, ?_, ?_, hb.trans hbank⟩
  · rw [Pot.isReady, hend.heat, ht, hsame.schedule]
    rfl
  · rw [hw, ht, htarget]
    rcases hmoved with h | h
    · rw [h]
    · rw [h, waveMove_waveMove]

/-- R103, R111, R120: a new bank: the pot record is evaluated, the wave bank follows, and the wave is handed on. -/
theorem potBank_clauses : ∀ r, r = s.pot.heat.evaluate (potEffective s.lmc.mode (s.lmc.bank s.lmc.active) s.pot.items)
    (s.lmc.bank s.lmc.active).potBand s.pot.items s.lmc.mode → ∀ t, t = s.potBank →
    SamePot { s.pot with heat := r } t.pot ∧
    t.pot.waveBank = (if ∀ e ∈ s.pot.schedule, e.bank ≠ s.pot.waveBank then s.lmc.active else s.pot.waveBank) ∧
    Instr.readinessArrival (.wave t.pot.wave (decide (t.pot.waveBank = s.lmc.active))) ∈ t.posted := by
  rintro r hr _ rfl
  obtain ⟨u, hu⟩ : ∃ u, u = s.evaluatePot s.lmc.mode := ⟨_, rfl⟩
  have hsame := evaluatePot_samePot s s.lmc.mode r hr
  have hset : u = s.setHeat s.lmc.mode r := by rw [hu, hr]; rfl
  obtain ⟨hbank, -⟩ := setHeat_wave s s.lmc.mode r _ rfl
  have hlmc : u.lmc = s.lmc := hset ▸ (setHeat_frame s _ _).lmc (by decide)
  rw [← hu] at hsame
  rw [← hset] at hbank
  have hend := updateWaveBank_same u
  have hfollows := (updateWaveBank_wave u).1
  have hwlmc : u.updateWaveBank.lmc = s.lmc := ((updateWaveBank_frame u).lmc (by decide)).trans hlmc
  rw [State.potBank, ← hu]
  refine ⟨hsame.trans hend, ?_, ?_⟩
  · rw [hsame.schedule, hbank, hlmc] at hfollows
    exact hfollows
  · rw [← hwlmc]
    exact List.mem_append_right _ (List.mem_singleton_self _)

end PotTakes

/-- Settles O45: a mode and a bank are evaluated alike, and differ in the wave and in what the readiness test awaits. -/
theorem thePotTakesItsSetpoint : Obligations.ThePotTakesItsSetpoint := by
  refine ⟨potEffective_cases, fun s c m hc => ?_⟩
  rcases hc with hc | ⟨⟨b, hc⟩, hm⟩
  · obtain ⟨u, hu⟩ : ∃ u, u = (s.taken c).potMode m := ⟨_, rfl⟩
    have hexec := exec_lineModeArrival (s := s) (.inr ⟨rfl, rfl⟩) hc
    rw [show (s.taken c).takeMode .pot m = u from hu.symm] at hexec
    have hframe : SameBut [.trk, .pot, .posted] s u := by
      rw [hu]
      exact ((taken_frame s c).mono (by decide)).trans ((potMode_frame _ m).mono (by decide))
    obtain ⟨hsame, htarget, hwave, hbank⟩ := potMode_clauses (s.taken c) m _ rfl u hu
    have htaken : SameBut [.lmc] u (u.modeTaken .pot (s.taken c).posted.length) := modeTaken_frame u _ _
    have hlmc := modeTaken_lmc u .pot (s.taken c).posted.length
    rw [hframe.lmc (by decide)] at hlmc
    have hkeeps : SameBut [.trk, .pot, .lmc, .posted] s (u.modeTaken .pot (s.taken c).posted.length) :=
      (hframe.mono (by decide)).trans (htaken.mono (by decide))
    rw [← htaken.pot (by decide)] at hsame htarget hwave hbank
    refine ⟨_, hexec, hkeeps.mono (by decide), fun _ => ⟨hkeeps, hlmc⟩, ?_, hsame.items,
      fun _ => ⟨htarget, hwave, hbank⟩, fun b h => ?_, ?_⟩
    · rintro (⟨-, hnot⟩ | ⟨⟨b, hb⟩, -⟩)
      · rw [modeTaken_of_not_awaited u _ _ (by rwa [hframe.lmc (by decide)])]
        exact hframe
      · cases hc.symm.trans hb
    · cases hc.symm.trans h
    · rintro r' hr' _ rfl moved hmoved
      exact potEvaluate_clauses r' (hr'.trans hsame.heat) moved hmoved
  · obtain ⟨u, hu⟩ : ∃ u, u = (s.taken c).potBank := ⟨_, rfl⟩
    have hexec := exec_activeBankArrival (s := s) (.inr rfl) hc
    rw [show (s.taken c).takeBank .pot = u from hu.symm] at hexec
    have hframe : SameBut [.trk, .pot, .posted] s u := by
      rw [hu]
      exact ((taken_frame s c).mono (by decide)).trans ((potBank_frame _).mono (by decide))
    obtain ⟨hsame, hbank, hposted⟩ := potBank_clauses (s.taken c) _ rfl u hu
    have htaken : SameBut [.lmc, .links, .posted] u (u.bankTaken c (s.taken c).posted.length) := bankTaken_frame u _ _
    obtain ⟨tested, hnone, htested⟩ := bankTaken_posted u c (s.taken c).posted.length
    have hnoMode : c ≠ .lineModeArrival .pot m := by
      rw [hc]
      exact fun h => by cases h
    rw [← htaken.pot (by decide)] at hsame hbank hposted
    refine ⟨_, hexec, (hframe.mono (by decide)).trans (htaken.mono (by decide)), fun h => absurd h hnoMode, ?_, hsame.items,
      fun h => absurd h hnoMode, fun b _ => ⟨hbank, ?_⟩, ?_⟩
    · rintro (⟨hmode, -⟩ | ⟨-, hnot⟩)
      · exact absurd hmode hnoMode
      · rw [bankTaken_of_not_mem (by rwa [hframe.lmc (by decide)])]
        exact hframe
    · rw [htested]
      exact List.mem_append_left _ hposted
    · rintro r' hr' _ rfl moved hmoved
      rw [hm]
      exact potEvaluate_clauses r' (hr'.trans hsame.heat) moved hmoved

end Sys2Proof.Machine

/-! Proofs about the solder level and the feeder (chapter 6). -/

namespace Sys2Proof.Machine

section Feeder

/-! ### The feeder's table and the level (R105, R108) -/

theorem feederNext_locked (p : Pot) (w : ContactLevel) (f : Bool) :
    p.feederNext w f = .locked ↔ p.runawayIdle = false ∨ p.levelHighIdle = false := by
  unfold Pot.feederNext
  split
  next h => exact ⟨fun _ => h, fun _ => rfl⟩
  next h =>
    refine ⟨fun hl => ?_, fun hl => absurd hl h⟩
    split at hl <;> cases hl

theorem feederNext_feeding (p : Pot) (w : ContactLevel) (f : Bool) :
    p.feederNext w f = .feeding ↔ p.runawayIdle = true ∧ p.levelHighIdle = true ∧ p.demand = true ∧
      w = .closed ∧ f = false ∧ p.heat.state = .ready ∧ p.buckets.sum ≤ p.items.budget := by
  unfold Pot.feederNext
  split
  next h =>
    refine ⟨(nomatch ·), fun ⟨hrun, hhigh, _⟩ => ?_⟩
    simp [hrun, hhigh] at h
  next h =>
    obtain ⟨hrun, hhigh⟩ := not_or.mp h
    rw [Bool.not_eq_false] at hrun hhigh
    split
    next hc =>
      obtain ⟨hdemand, hwire, hinhibit, hready, hsum⟩ := hc
      exact ⟨fun _ => ⟨hrun, hhigh, hdemand, hwire, hinhibit, by simpa [Pot.isReady] using hready, hsum⟩, fun _ => rfl⟩
    next hc =>
      refine ⟨(nomatch ·), fun ⟨_, _, hdemand, hwire, hinhibit, hready, hsum⟩ => ?_⟩
      exact absurd ⟨hdemand, hwire, hinhibit, by simp [Pot.isReady, hready], hsum⟩ hc

theorem compensatedLevel_eq (i : PotItems) (plv t : Nat) (on : Bool) : compensatedLevel i plv t on ≤ 10000 ∧
    (compensatedLevel i plv t on : Int) = clampInt 0 10000
      ((plv : Int) - roundDiv ((i.alpha : Int) * ((t : Int) - i.tRef)) 100 + (if on then (i.dPump : Int) else 0)) := by
  have hvalue : (compensatedLevel i plv t on : Int) = _ := Int.toNat_of_nonneg (le_clampInt (by decide))
  have hmost := clampInt_le (lo := 0) (hi := 10000) (by decide)
    (x := (plv : Int) - roundDiv ((i.alpha : Int) * ((t : Int) - i.tRef)) 100 + (if on then (i.dPump : Int) else 0))
  exact ⟨by omega, hvalue⟩

variable {s : State}

/-- What a command makes of POT's record and posts before it evaluates the feeder. -/
structure BeforeFeeder (s w : State) (p : Pot) (posted : List Instr) : Prop where
  frame : SameBut [.pot, .posted] s w
  pot : w.pot = p
  feeder : p.feeder = s.pot.feeder
  posted : w.posted = posted

/-- R108, R120: the feeder's evaluation. -/
theorem BeforeFeeder.evaluated {w : State} {p : Pot} {posted : List Instr} (h : BeforeFeeder s w p posted) (wire : ContactLevel)
    (inhibited : Bool) : ∀ t, t = w.feederOn wire inhibited → SameBut [.pot, .posted] s t ∧
      t.pot = { p with feeder := p.feederNext wire inhibited } ∧
      t.posted = posted ++ (if t.pot.feeder ≠ s.pot.feeder ∧ (t.pot.feeder = .feeding ∨ s.pot.feeder = .feeding) then
        [.feederArrival t.pot.feeder] else []) := by
  rintro _ rfl
  have hpot := feederOn_pot w wire inhibited
  rw [h.pot] at hpot
  refine ⟨h.frame.trans (feederOn_frame w _ _), hpot, ?_⟩
  rw [feederOn_posted, hpot, h.posted, h.pot, h.feeder]

theorem conditionArrivals_eq (i : AlarmId) (before now : Bool) : conditionArrivals i before now =
    if now = before then [] else if now then [.alarmRaise i] else [.alarmEnd i] := by
  cases before <;> cases now <;> rfl

/-- R107: the level demand. -/
theorem demandAt_eq (p : Pot) (n : Nat) : p.demandAt n =
    if n < p.items.feedOn then true else if p.items.feedOff ≤ n then false else p.demand := rfl

theorem settled_iff (p : Pot) : p.settled = true ↔ p.settleTimer = .expired := beq_iff_eq

end Feeder

section Commands

variable {s : State}

/-! ### What the commands do before the feeder is evaluated -/

theorem levelSample_unknown {v : Nat} {rep : ReportedState} (h : usable rep = false) :
    exec (.plvSampleArrival v rep) s = .next (((s.taken (.plvSampleArrival v rep)).setPot
      { s.pot with levelValidity := .unknown, demand := false }).feederOn (s.saq.contact .wirePresent).reported
        (s.aim.inhibitActive .feed)) :=
  congrArg Host.Outcome.next (if_neg (by simp [h]))

theorem levelSample_valid {v : Nat} {rep : ReportedState} (h : usable rep = true) : ∀ n,
    n = compensatedLevel s.pot.items v (levelTemperature (s.saq.channel .pts) s.pot.items.tRef) (s.pot.wave == .on) →
    exec (.plvSampleArrival v rep) s = .next ((((s.taken (.plvSampleArrival v rep)).setPot
      { s.pot with
        level := n, levelValidity := .valid, levelLow := decide (n < s.pot.items.levelMin),
        levelHigh := decide (s.pot.items.levelMax < n),
        levelHighIdle := s.pot.levelHighIdle && (s.pot.levelHigh || !decide (s.pot.items.levelMax < n)),
        demand := if s.pot.settleTimer = .expired then
            (if n < s.pot.items.feedOn then true else if s.pot.items.feedOff ≤ n then false else s.pot.demand)
          else s.pot.demand }).post
        (conditionArrivals 18 s.pot.levelLow (decide (n < s.pot.items.levelMin)) ++
          conditionArrivals 19 s.pot.levelHigh (decide (s.pot.items.levelMax < n)))).feederOn
      (s.saq.contact .wirePresent).reported (s.aim.inhibitActive .feed)) := by
  rintro _ rfl
  refine congrArg Host.Outcome.next ((if_pos h).trans ?_)
  obtain ⟨n, hn⟩ : ∃ n, n = compensatedLevel s.pot.items v (levelTemperature (s.saq.channel .pts) s.pot.items.tRef)
    (s.pot.wave == .on) := ⟨_, rfl⟩
  have hidle : (if decide (s.pot.items.levelMax < n) = true ∧ s.pot.levelHigh = false then false else s.pot.levelHighIdle) =
      (s.pot.levelHighIdle && (s.pot.levelHigh || !decide (s.pot.items.levelMax < n))) := by
    generalize decide (s.pot.items.levelMax < n) = high
    cases high <;> cases s.pot.levelHigh <;> simp
  have hdemand : (if s.pot.settled = true then s.pot.demandAt n else s.pot.demand) = if s.pot.settleTimer = .expired then
      (if n < s.pot.items.feedOn then true else if s.pot.items.feedOff ≤ n then false else s.pot.demand)
      else s.pot.demand := if_congr (settled_iff _) (demandAt_eq _ _) rfl
  rw [← hn, ← hidle, ← hdemand, hn]
  rfl

theorem minuteTimerExpiry_eq : ∀ ring, ring = 0 :: s.pot.buckets.dropLast →
    exec .minuteTimerExpiry s = .next (((s.setPot { s.pot with
      minuteTimer := .running 60000, buckets := ring,
      runaway := s.pot.runaway && decide (s.pot.items.budget < ring.sum) }).post
        (if s.pot.runaway = true ∧ (s.pot.runaway && decide (s.pot.items.budget < ring.sum)) = false then [.alarmEnd 20]
          else [])).feederOn (s.saq.contact .wirePresent).reported (s.aim.inhibitActive .feed)) := by
  rintro ring rfl
  obtain ⟨ring, hring⟩ : ∃ ring, ring = 0 :: s.pot.buckets.dropLast := ⟨_, rfl⟩
  obtain ⟨w, hw⟩ : ∃ w, w = s.setPot { s.pot with buckets := ring, minuteTimer := .running 60000 } := ⟨_, rfl⟩
  have hexec : exec .minuteTimerExpiry s = .next (if s.pot.runaway = true ∧ ring.sum ≤ s.pot.items.budget then
      (w.setPot { w.pot with runaway := false }).post [.alarmEnd 20] else w).evalFeeder := by
    rw [hw, hring]
    rfl
  rw [hexec, ← hring]
  by_cases hends : s.pot.runaway = true ∧ ring.sum ≤ s.pot.items.budget
  · obtain ⟨hrun, hsum⟩ := hends
    have hover : (s.pot.runaway && decide (s.pot.items.budget < ring.sum)) = false := by simp [hsum]
    rw [if_pos ⟨hrun, hsum⟩, hover, if_pos ⟨hrun, rfl⟩, hw]
    rfl
  · have hover : (s.pot.runaway && decide (s.pot.items.budget < ring.sum)) = s.pot.runaway := by
      cases hrun : s.pot.runaway
      · rfl
      · rw [hrun] at hends
        simp only [true_and, Nat.not_le] at hends
        simp [hends]
    rw [if_neg hends, hover, if_neg (fun h => by simp [h.1] at h), post_nil, hw]
    rfl

theorem wireTransition_opened {tr : Transition} (h : tr.level = .opened) : exec (.wirePresentTransition tr) s =
    .next ((((s.taken (.wirePresentTransition tr)).setPot { s.pot with wireOut := true }).post [.alarmRaise 21]).feederOn
      tr.level (s.aim.inhibitActive .feed)) := by
  refine congrArg Host.Outcome.next ?_
  rw [State.wireTransition, h]
  rfl

theorem wireTransition_closed {tr : Transition} (h : tr.level = .closed) : exec (.wirePresentTransition tr) s =
    .next ((((s.taken (.wirePresentTransition tr)).setPot { s.pot with wireOut := false }).post [.alarmEnd 21]).feederOn
      tr.level (s.aim.inhibitActive .feed)) := by
  refine congrArg Host.Outcome.next ?_
  rw [State.wireTransition, h]
  rfl

end Commands

/-- Settles O46: each command's own part first, then the feeder's evaluation. -/
theorem theFeederFollowsItsTable : Obligations.TheFeederFollowsItsTable := by
  refine ⟨fun p w f => ⟨feederNext_locked p w f, feederNext_feeding p w f⟩, compensatedLevel_eq, ?_⟩
  intro s c p first inhibited wire h
  suffices hbefore : ∃ w, exec c s = .next (w.feederOn wire inhibited) ∧ BeforeFeeder s w p
      ((if c = .settleTimerExpiry ∨ c = .minuteTimerExpiry then s.posted else s.posted.erase c) ++ first) by
    obtain ⟨w, hexec, hw⟩ := hbefore
    exact ⟨_, hexec, hw.evaluated wire inhibited _ rfl⟩
  have hset (c : Instr) (p : Pot) : SameBut [.pot, .posted] s ((s.taken c).setPot p) :=
    ((taken_frame s c).mono (by decide)).trans ((setPot_frame _ p).mono (by decide))
  rcases h with ⟨rfl, rfl, ⟨v, rep, rfl, ⟨hun, rfl, rfl⟩ | ⟨hus, n, hn, rfl, rfl⟩⟩ | ⟨r, rfl, rfl, rfl⟩ |
    ⟨rfl, hrunning, rfl, rfl⟩ | ⟨rfl, ring, hring, rfl, rfl⟩⟩ | ⟨rfl, tr, rfl, rfl, ⟨hl, rfl, rfl⟩ | ⟨hl, rfl, rfl⟩⟩ |
    ⟨rfl, rfl, rfl, rfl⟩
  · refine ⟨_, levelSample_unknown hun, hset _ _, rfl, rfl, ?_⟩
    rw [List.append_nil]
    rfl
  · refine ⟨_, levelSample_valid hus n hn, (hset _ _).trans ((post_frame _ _).mono (by decide)), rfl, rfl, ?_⟩
    rw [conditionArrivals_eq, conditionArrivals_eq]
    rfl
  · refine ⟨(s.taken (.recordIdleArrival r)).setPot (s.pot.markIdle r), rfl, hset _ _, ?_, ?_, ?_⟩
    · cases r <;> rfl
    · cases r <;> rfl
    · rw [List.append_nil]
      rfl
  · refine ⟨_, congrArg Host.Outcome.next (if_pos hrunning), (setPot_frame s _).mono (by decide), rfl, rfl, ?_⟩
    rw [List.append_nil]
    rfl
  · refine ⟨_, minuteTimerExpiry_eq ring hring, ((setPot_frame s _).mono (by decide)).trans ((post_frame _ _).mono (by decide)),
      rfl, rfl, rfl⟩
  · refine ⟨_, wireTransition_opened hl, (hset _ _).trans ((post_frame _ _).mono (by decide)), rfl, rfl, rfl⟩
  · refine ⟨_, wireTransition_closed hl, (hset _ _).trans ((post_frame _ _).mono (by decide)), rfl, rfl, rfl⟩
  · refine ⟨s.taken (.feedInhibitChange inhibited), rfl, (taken_frame s _).mono (by decide), rfl, rfl, ?_⟩
    rw [List.append_nil]
    rfl

end Sys2Proof.Machine

/-! Proofs about the wave's target and POT's timers (chapter 6): the move, the pump, the feeding seconds and PUMP_FAULT. -/

namespace Sys2Proof.Machine

section Target

/-! ### The wave target and its move (R114, R115, R117) -/

theorem waveTarget_off (m : LineMode) (e : WaveEffect) (ready : Bool) (head : Option GateDecision) :
    waveTarget m e ready head = .off ↔
      m ∉ [LineMode.warmup, .production, .changeover, .drain] ∨ e = .active ∨ ready = false := by
  have hmode : m ∉ [LineMode.warmup, .production, .changeover, .drain] ↔ m ≠ .warmup ∧ m.running = false := by
    cases m <;> decide
  rw [hmode]
  unfold waveTarget
  split
  next h => exact ⟨fun _ => .inl h, fun _ => rfl⟩
  next h =>
    split
    next he => exact ⟨fun _ => .inr (.inl he), fun _ => rfl⟩
    next he =>
      split
      next hr => exact ⟨fun _ => .inr (.inr hr), fun _ => rfl⟩
      next hr =>
        refine ⟨fun ht => ?_, fun ht => (not_or.mpr ⟨h, not_or.mpr ⟨he, hr⟩⟩ ht).elim⟩
        split at ht <;> cases ht

theorem waveTarget_dip (m : LineMode) (e : WaveEffect) (ready : Bool) (head : Option GateDecision) :
    waveTarget m e ready head = .dip ↔
      m ∈ [LineMode.warmup, .production, .changeover, .drain] ∧ e ≠ .active ∧ ready = true ∧ head = some .dry := by
  by_cases hoff : waveTarget m e ready head = .off
  · rw [hoff]
    refine ⟨(nomatch ·), fun ⟨hm, he, hr, _⟩ => ?_⟩
    rcases (waveTarget_off m e ready head).mp hoff with h | h | h
    · exact absurd hm h
    · exact absurd h he
    · rw [h] at hr
      cases hr
  · have hon := hoff
    rw [waveTarget_off, not_or, not_or, not_not, Bool.not_eq_false] at hon
    obtain ⟨hm, he, hr⟩ := hon
    unfold waveTarget at hoff ⊢
    split
    next h => exact absurd (if_pos h) hoff
    next h =>
      rw [if_neg (by simp [hr])]
      split
      next hd => exact ⟨fun _ => ⟨hm, he, hr, hd⟩, fun _ => rfl⟩
      next hd => exact ⟨(nomatch ·), fun ⟨_, _, _, h⟩ => absurd h hd⟩

theorem cut_eq (r : WaveResult) : r.cut = if r = .waved ∨ r = .partialWave then .interrupted else r := by
  cases r <;> rfl

/-- R119: the boards on a wave that goes OFF. -/
theorem enterWave_cuts (s : State) (w : WaveState) : (s.enterWave w).trk = { s.trk with table := s.trk.table.map fun b =>
    if w = .off ∧ b.seq ∈ s.pot.onWave ∧ (b.waveResult = .waved ∨ b.waveResult = .partialWave) then
      { b with waveResult := .interrupted } else b } := by
  rw [enterWave_trk]
  refine congrArg (fun l => { s.trk with table := l }) (List.map_congr_left fun b _ => ?_)
  by_cases hcut : b.waveResult = .waved ∨ b.waveResult = .partialWave
  · simp only [cut_eq, hcut, and_true, if_true]
  · simp only [cut_eq, hcut, and_false, if_false]
    split <;> rfl

/-- R117: the pump run timer stops while the pump is off or turns. -/
theorem pumpRunNext_stops (t : Timer) {speed : Nat} {run : ContactLevel} (h : speed = 0 ∨ run = .closed) :
    pumpRunNext t speed run = .stopped := by
  refine if_neg fun ⟨hspeed, hrun⟩ => ?_
  rcases h with h | h
  · exact hspeed h
  · exact hrun h

theorem pumpRunNext_runs (t : Timer) {speed : Nat} {run : ContactLevel} (hspeed : speed ≠ 0) (hrun : run ≠ .closed) :
    pumpRunNext t speed run = if t = .stopped then .running 2000 else t := if_pos ⟨hspeed, hrun⟩

end Target

/-- Settles O47. -/
theorem theWaveFollowsItsTarget : Obligations.TheWaveFollowsItsTarget := by
  refine ⟨fun m e r d => ⟨waveTarget_off m e r d, waveTarget_dip m e r d⟩, ?_⟩
  rintro s e g hg target htarget w hw
  have hmove : waveMove s.pot.wave target = w := by
    rw [hw]
    cases target <;> cases s.pot.wave <;> rfl
  have hpot : g.pot = s.pot := by rw [hg, taken_pot]
  have hlmc : g.lmc = s.lmc := by rw [hg, taken_lmc]
  have hsaq : g.saq = s.saq := by rw [hg, taken_saq]
  have htrk : g.trk = s.trk := by rw [hg, taken_trk]
  have hexec : exec (.waveInhibitChange e) s = .next (g.evalWaveOn s.lmc.mode e) := by rw [hg]; rfl
  rw [← hpot] at htarget hmove
  refine ⟨fun hstays => ?_, fun hmoves => ?_⟩
  · rw [hexec, evalWaveOn_stays g _ _ target htarget (by rw [hmove, hstays, hpot]), hpot]
  · rw [evalWaveOn_moves g _ _ target htarget (by rw [hmove, hpot]; exact hmoves), hmove] at hexec
    obtain ⟨u, hu⟩ : ∃ u, u = g.setPot { g.pot with target := target } := ⟨_, rfl⟩
    have hupot : u.pot = { s.pot with target := target } := by rw [hu, setPot_pot, hpot]
    have hulmc : u.lmc = s.lmc := by rw [hu, setPot_lmc, hlmc]
    have husaq : u.saq = s.saq := by rw [hu, setPot_saq, hsaq]
    have hutrk : u.trk = s.trk := by rw [hu, setPot_trk, htrk]
    have huposted : u.posted = g.posted := by rw [hu, setPot_posted]
    rw [← hu] at hexec
    have hframe : SameBut [.trk, .pot, .posted] s (u.enterWave w) := by
      rw [hu, hg]
      exact ((taken_frame s _).mono (by decide)).trans
        (((setPot_frame _ _).mono (by decide)).trans ((enterWave_frame _ _).mono (by decide)))
    have hentered := enterWave_pot u w
    have hcuts := enterWave_cuts u w
    have hposted := enterWave_posted u w
    rw [hupot, hulmc, husaq] at hentered
    rw [hupot, hutrk] at hcuts
    rw [hupot, hulmc, huposted] at hposted
    refine ⟨_, hexec, hframe, ?_, ?_, ?_, hcuts, hposted⟩
    all_goals rw [hentered]
    · rw [if_neg (Ne.symm hmoves)]
      cases w <;> rfl
    · exact pumpRunNext_stops _
    · exact pumpRunNext_runs _

section Feeding

variable {s : State}

/-! ### Feeding seconds (R109, R110, R191) -/

/-- What a feeding second makes of POT's record and the run total before the feeder is evaluated. -/
theorem feedSecond_eq {b : Nat} {bs : List Nat} (hbuckets : s.pot.buckets = b :: bs) : ∀ past : Bool,
    (past = true ↔ s.pot.runaway = false ∧ s.pot.items.budget < (min 60 (b + 1) :: bs).sum) → ∀ w,
    w = ((s.setPot { s.pot with
      feedAccMs := 0, buckets := min 60 (b + 1) :: bs, runaway := s.pot.runaway || past,
      runawayIdle := s.pot.runawayIdle && !past }).setRtr
        { s.rtr with feedTotal := min 4294967295 (s.rtr.feedTotal + 1) }).post (if past then [.alarmRaise 20] else []) →
    s.feedSecond = w.evalFeeder := by
  rintro past hpastIff w rfl
  have hring : addSecond s.pot.buckets = min 60 (b + 1) :: bs := by rw [hbuckets]; rfl
  unfold State.feedSecond
  dsimp only
  rw [hring]
  refine congrArg State.evalFeeder ?_
  cases past with
  | true =>
    rw [if_pos (hpastIff.mp rfl), if_pos rfl]
    simp
    rfl
  | false =>
    rw [if_neg (fun h => by cases hpastIff.mpr h), if_neg (by decide), post_nil]
    simp
    rfl

end Feeding

/-- Settles O49. -/
theorem feedingSecondsAndPumpFaults : Obligations.FeedingSecondsAndPumpFaults := by
  refine ⟨fun s => ⟨fun h => congrArg Host.Outcome.next (if_neg h), fun h => congrArg Host.Outcome.next (if_neg (by simp [h])),
    fun b bs hfeeding hbuckets => ?_⟩, fun s => ⟨rfl, rfl, fun tr => rfl, rfl⟩⟩
  obtain ⟨past, hpastIff⟩ : ∃ past : Bool,
      past = true ↔ s.pot.runaway = false ∧ s.pot.items.budget < (min 60 (b + 1) :: bs).sum :=
    ⟨decide (s.pot.runaway = false ∧ s.pot.items.budget < (min 60 (b + 1) :: bs).sum), decide_eq_true_iff⟩
  obtain ⟨w, hw⟩ : ∃ w, w = ((s.setPot { s.pot with
    feedAccMs := 0, buckets := min 60 (b + 1) :: bs, runaway := s.pot.runaway || past,
    runawayIdle := s.pot.runawayIdle && !past }).setRtr
      { s.rtr with feedTotal := min 4294967295 (s.rtr.feedTotal + 1) }).post (if past then [.alarmRaise 20] else []) := ⟨_, rfl⟩
  have hexec : exec .feedingSecond s = .next w.evalFeeder :=
    congrArg Host.Outcome.next ((if_pos hfeeding).trans (feedSecond_eq hbuckets past hpastIff w hw))
  have hwpot : w.pot = { s.pot with
      feedAccMs := 0, buckets := min 60 (b + 1) :: bs, runaway := s.pot.runaway || past,
      runawayIdle := s.pot.runawayIdle && !past } := by rw [hw]; rfl
  have hwrtr : w.rtr = { s.rtr with feedTotal := min 4294967295 (s.rtr.feedTotal + 1) } := by rw [hw]; rfl
  have hframe : SameBut [.pot, .rtr, .posted] s w := by
    rw [hw]
    exact ((setPot_frame s _).mono (by decide)).trans
      (((setRtr_frame _ _).mono (by decide)).trans ((post_frame _ _).mono (by decide)))
  have heval := evalFeeder_frame w
  have hpot := evalFeeder_pot w
  have hposted := feederOn_posted w (w.saq.contact .wirePresent).reported (w.aim.inhibitActive .feed)
  rw [hwpot] at hpot
  refine ⟨_, hexec, hframe.trans (heval.mono (by decide)), (heval.rtr (by decide)).trans hwrtr, ?_⟩
  rw [hpot]
  refine ⟨rfl, rfl, fun hrun hbudget => ?_, fun hkeeps => ?_, rfl⟩
  · have hpast := hpastIff.mpr ⟨hrun, hbudget⟩
    have hlocked : w.pot.feederNext (w.saq.contact .wirePresent).reported (w.aim.inhibitActive .feed) = .locked := by
      rw [feederNext_locked, hwpot, hpast]
      exact .inl (Bool.and_false _)
    have hnext := hlocked
    rw [hwpot] at hnext
    have hwfeeder : w.pot.feeder = .feeding := by rw [hwpot]; exact hfeeding
    rw [hlocked, hwfeeder, if_pos ⟨by decide, .inr rfl⟩] at hposted
    refine ⟨?_, ?_, hnext, ?_, ?_⟩
    · rw [hpast]
      exact Bool.or_true _
    · rw [hpast]
      exact Bool.and_false _
    · refine (evalFeeder_appends w).subset ?_
      rw [hw, hpast]
      exact List.mem_append_right _ (List.mem_singleton_self _)
    · exact hposted ▸ List.mem_append_right _ (List.mem_singleton_self _)
  · have hpast : past = false := by
      cases past
      · rfl
      · obtain ⟨hrun, hbudget⟩ := hpastIff.mp rfl
        rcases hkeeps with h | h
        · rw [hrun] at h
          cases h
        · exact absurd hbudget (Nat.not_lt.mpr h)
    rw [hpast]
    exact ⟨Bool.or_false _, Bool.and_true _⟩

end Sys2Proof.Machine

/-! Proofs about the boards at the wave (chapter 6): the schedule, the occupancy, and the WVH samples. -/

namespace Sys2Proof.Machine

section Reevaluated

variable {s : State}

/-! ### A re-evaluation announces what it moves (R111, R120) -/

theorem evalWaveOn_announces (m : LineMode) (e : WaveEffect) (h : (s.evalWaveOn m e).pot.wave ≠ s.pot.wave) :
    Instr.readinessArrival (.wave (s.evalWaveOn m e).pot.wave (decide (s.pot.waveBank = s.lmc.active))) ∈
      (s.evalWaveOn m e).posted := by
  by_cases hw : waveMove s.pot.wave (waveTarget m e s.pot.isReady (s.pot.schedule.head?.map (·.decision))) = s.pot.wave
  · rw [evalWaveOn_stays s m e _ rfl hw] at h
    exact absurd rfl h
  · rw [evalWaveOn_moves s m e _ rfl hw, enterWave_posted, enterWave_pot]
    exact List.mem_append_right _ (List.mem_singleton_self _)

theorem updateWaveBank_announces (h : s.updateWaveBank.pot.waveBank ≠ s.pot.waveBank) :
    Instr.readinessArrival (.wave s.updateWaveBank.pot.wave (decide (s.updateWaveBank.pot.waveBank = s.lmc.active))) ∈
      s.updateWaveBank.posted := by
  unfold State.updateWaveBank at h ⊢
  by_cases hc : s.pot.waveBank ≠ s.lmc.active ∧ s.pot.schedule.all (fun e => e.bank ≠ s.pot.waveBank)
  · rw [if_pos hc]
    dsimp only
    rw [enterWave_posted, enterWave_pot]
    exact List.mem_append_right _ (List.mem_singleton_self _)
  · rw [if_neg hc] at h
    exact absurd rfl h

/-- R111 to R113: what a change of the schedule re-evaluates: the target, unless it waits for AIM, and then the wave bank. -/
def State.reevaluate (deferred : Bool) (s : State) : State := (if deferred then s else s.evalWave).updateWaveBank

theorem reevaluate_frame (s : State) (deferred : Bool) : SameBut [.trk, .pot, .posted] s (s.reevaluate deferred) := by
  have hfirst : SameBut [.trk, .pot, .posted] s (if deferred then s else s.evalWave) :=
    SameBut.ite (.refl _ s) (evalWaveOn_frame s _ _)
  exact hfirst.trans (updateWaveBank_frame _)

theorem reevaluate_same (s : State) (deferred : Bool) : SamePot s.pot (s.reevaluate deferred).pot := by
  have hfirst : SamePot s.pot (if deferred then s else s.evalWave).pot := by
    split
    · exact .refl _
    · exact evalWaveOn_same s _ _
  exact hfirst.trans (updateWaveBank_same _)

theorem reevaluate_appends (s : State) (deferred : Bool) : s.posted <+: (s.reevaluate deferred).posted := by
  have hfirst : s.posted <+: (if deferred then s else s.evalWave).posted := by
    split
    · exact List.prefix_rfl
    · exact evalWaveOn_appends s _ _
  exact hfirst.trans (updateWaveBank_appends _)

theorem reevaluate_wave (s : State) (deferred : Bool) : ∀ t, t = s.reevaluate deferred →
    t.pot.target = (if deferred = true then s.pot.target
      else waveTarget s.lmc.mode s.aim.waveEffect s.pot.isReady (s.pot.schedule.head?.map (·.decision))) ∧
    t.pot.waveBank = (if ∀ e ∈ s.pot.schedule, e.bank ≠ s.pot.waveBank then s.lmc.active else s.pot.waveBank) ∧
    ∀ w, w = (if deferred = true then s.pot.wave else waveMove s.pot.wave t.pot.target) →
      t.pot.wave = (if t.pot.waveBank = s.pot.waveBank then w else waveAgain w) ∧
      (t.pot.wave ≠ s.pot.wave ∨ t.pot.waveBank ≠ s.pot.waveBank →
        Instr.readinessArrival (.wave t.pot.wave (decide (t.pot.waveBank = s.lmc.active))) ∈ t.posted) := by
  rintro t ht
  obtain ⟨v, hv⟩ : ∃ v, v = if deferred = true then s else s.evalWave := ⟨_, rfl⟩
  have hsame : SamePot s.pot v.pot := by
    rw [hv]
    split
    · exact .refl _
    · exact evalWaveOn_same s _ _
  have hframe : SameBut [.trk, .pot, .posted] s v := by
    rw [hv]
    exact SameBut.ite (.refl _ s) (evalWaveOn_frame s _ _)
  have hbank : v.pot.waveBank = s.pot.waveBank := by
    rw [hv]
    split
    · rfl
    · exact (evalWaveOn_wave s _ _ _ rfl).2.2.1
  have htarget : v.pot.target = if deferred = true then s.pot.target
      else waveTarget s.lmc.mode s.aim.waveEffect s.pot.isReady (s.pot.schedule.head?.map (·.decision)) := by
    rw [hv]
    split
    · rfl
    · exact (evalWaveOn_wave s _ _ _ rfl).1
  have hwave : v.pot.wave = if deferred = true then s.pot.wave else waveMove s.pot.wave v.pot.target := by
    rw [htarget, hv]
    split
    · rfl
    · exact (evalWaveOn_wave s _ _ _ rfl).2.1
  have hannounced (h : v.pot.wave ≠ s.pot.wave) :
      Instr.readinessArrival (.wave v.pot.wave (decide (v.pot.waveBank = s.lmc.active))) ∈ v.posted := by
    rw [hbank]
    cases deferred with
    | true => exact absurd (by rw [hv]; rfl) h
    | false =>
      have hv' : v = s.evalWaveOn s.lmc.mode s.aim.waveEffect := hv
      rw [hv'] at h ⊢
      exact evalWaveOn_announces _ _ h
  have htv : t = v.updateWaveBank := by rw [ht, hv]; rfl
  obtain ⟨htb, htw, htt⟩ := updateWaveBank_wave v
  have hbankAnnounced := updateWaveBank_announces (s := v)
  rw [← htv] at htb htw htt hbankAnnounced
  rw [hframe.lmc (by decide)] at hbankAnnounced
  rw [hbank] at htw hbankAnnounced
  rw [hsame.schedule, hbank, hframe.lmc (by decide)] at htb
  refine ⟨htt.trans htarget, htb, ?_⟩
  rintro w rfl
  rw [htt, ← hwave]
  refine ⟨htw, fun hchanged => ?_⟩
  by_cases hb : t.pot.waveBank = s.pot.waveBank
  · rw [if_pos hb] at htw
    have hmoved := hchanged.resolve_right (not_not_intro hb)
    rw [htw] at hmoved ⊢
    rw [hb, ← hbank, htv]
    exact (updateWaveBank_appends v).subset (hannounced hmoved)
  · exact hbankAnnounced hb

/-- R112: an append, and the re-evaluation where the schedule was empty. -/
theorem appendSchedule_eq (e : ScheduleEntry) :
    ∀ x, x = (s.setPot { s.pot with schedule := s.pot.schedule ++ [e] }).noteOccupancy →
    s.appendSchedule e = if s.pot.schedule = [] then x.reevaluate false else x := by
  rintro x rfl
  unfold State.appendSchedule
  dsimp only
  cases hs : s.pot.schedule <;> rfl

/-- R113: a board leaves; where it was scheduled, the re-evaluation follows. -/
theorem leaveWave_eq (q : Nat) : ∀ x, x = (s.setPot { s.pot with
      schedule := s.pot.schedule.filter (fun e => e.seq != q),
      onWave := s.pot.onWave.filter (fun p => p != q) }).noteOccupancy →
    ∀ deferred, deferred = (s.pot.solderOcc && !x.pot.solderOcc && s.aim.waveEffect == .pending) →
    s.leaveWave q = if ∃ e ∈ s.pot.schedule, e.seq = q then x.reevaluate deferred else x := by
  rintro x rfl deferred rfl
  unfold State.leaveWave
  dsimp only
  refine if_congr ?_ rfl rfl
  simp

theorem SamePot.solderOnWave {p q : Pot} (h : SamePot p q) : q.solderOnWave = p.solderOnWave := by
  rw [Pot.solderOnWave, h.onWave, h.schedule]
  rfl

/-- R113: the record that the occupancy is noted in. -/
theorem noted (s : State) (p : Pot) : ∀ x, x = (s.setPot p).noteOccupancy → SameBut [.pot, .posted] s x ∧
    x.pot = { p with solderOcc := p.solderOnWave } ∧
    x.posted = s.posted ++ (if p.solderOnWave = p.solderOcc then [] else [.solderOccupancyArrival p.solderOnWave]) := by
  rintro _ rfl
  exact ⟨((setPot_frame s p).mono (by decide)).trans (noteOccupancy_frame _), noteOccupancy_pot _, noteOccupancy_posted _⟩

/-- R92, R112: what an append makes of POT's record, and of the boards. -/
theorem appendSchedule_clauses (s : State) (e : ScheduleEntry) : ∀ t, t = s.appendSchedule e →
    SameBut [.trk, .pot, .posted] s t ∧ t.pot.schedule = s.pot.schedule ++ [e] ∧
    t.pot.onWave = s.pot.onWave ∧ t.pot.solderOcc = t.pot.solderOnWave ∧
    (s.pot.schedule ≠ [] →
      t.pot.target = s.pot.target ∧ t.pot.wave = s.pot.wave ∧ t.pot.waveBank = s.pot.waveBank ∧ t.trk = s.trk) ∧
    (s.pot.schedule = [] →
      t.pot.target = waveTarget s.lmc.mode s.aim.waveEffect s.pot.isReady (some e.decision) ∧
      t.pot.waveBank = (if e.bank = s.pot.waveBank then s.pot.waveBank else s.lmc.active) ∧
      t.pot.wave = (if t.pot.waveBank = s.pot.waveBank then waveMove s.pot.wave t.pot.target
        else waveAgain (waveMove s.pot.wave t.pot.target)) ∧
      (t.pot.wave ≠ s.pot.wave ∨ t.pot.waveBank ≠ s.pot.waveBank →
        Instr.readinessArrival (.wave t.pot.wave (decide (t.pot.waveBank = s.lmc.active))) ∈ t.posted)) := by
  rintro t ht
  obtain ⟨x, hx⟩ : ∃ x, x = (s.setPot { s.pot with schedule := s.pot.schedule ++ [e] }).noteOccupancy := ⟨_, rfl⟩
  obtain ⟨hframe, hpot, -⟩ := noted s _ x hx
  rw [appendSchedule_eq e x hx] at ht
  have hframe' : SameBut [.trk, .pot, .posted] s x := hframe.mono (by decide)
  have hsolder : x.pot.solderOcc = x.pot.solderOnWave := by
    rw [hpot]
    rfl
  by_cases hempty : s.pot.schedule = []
  · rw [if_pos hempty] at ht
    have hsame := reevaluate_same x false
    obtain ⟨htarget, hbank, hwave⟩ := reevaluate_wave x false t ht
    obtain ⟨hmoved, hannounced⟩ := hwave _ rfl
    rw [← ht] at hsame
    have hschedule : x.pot.schedule = [e] := by
      rw [hpot]
      exact congrArg (· ++ [e]) hempty
    have hxbank : x.pot.waveBank = s.pot.waveBank := by rw [hpot]
    have hxwave : x.pot.wave = s.pot.wave := by rw [hpot]
    have hxready : x.pot.isReady = s.pot.isReady := by rw [hpot]; rfl
    rw [hschedule, hframe.lmc (by decide), hframe.aim (by decide), hxready] at htarget
    rw [hschedule, hframe.lmc (by decide), hxbank] at hbank
    rw [hframe.lmc (by decide), hxbank, hxwave] at hannounced
    rw [hxbank, hxwave] at hmoved
    refine ⟨ht ▸ hframe'.trans (reevaluate_frame x false), ?_, ?_, ?_, fun h => absurd hempty h,
      fun _ => ⟨htarget, ?_, hmoved, hannounced⟩⟩
    · rw [hsame.schedule, hschedule, hempty]
      rfl
    · rw [hsame.onWave, hpot]
    · rw [hsame.solder, hsolder, hsame.solderOnWave]
    · rw [hbank]
      by_cases hb : e.bank = s.pot.waveBank
      · rw [if_pos hb, if_neg (by simpa using hb)]
      · rw [if_neg hb, if_pos (by simpa using hb)]
  · rw [if_neg hempty] at ht
    subst ht
    exact ⟨hframe', by rw [hpot], by rw [hpot], hsolder,
      fun _ => ⟨by rw [hpot], by rw [hpot], by rw [hpot], hframe.trk (by decide)⟩, fun h => absurd h hempty⟩

/-- R112, R113: what a board's leaving makes of POT's record. -/
theorem leaveWave_clauses (s : State) (q : Nat) : ∀ t, t = s.leaveWave q →
    t.pot.schedule = s.pot.schedule.filter (fun e => e.seq != q) ∧
    t.pot.onWave = s.pot.onWave.filter (fun p => p != q) ∧ t.pot.solderOcc = t.pot.solderOnWave ∧
    (t.pot.solderOcc ≠ s.pot.solderOcc → Instr.solderOccupancyArrival t.pot.solderOcc ∈ t.posted) ∧
    ((∀ e ∈ s.pot.schedule, e.seq ≠ q) →
      t.pot.target = s.pot.target ∧ t.pot.wave = s.pot.wave ∧ t.pot.waveBank = s.pot.waveBank) ∧
    ((∃ e ∈ s.pot.schedule, e.seq = q) →
      ∀ deferred : Bool, (deferred = true ↔
        s.pot.solderOcc = true ∧ t.pot.solderOcc = false ∧ s.aim.waveEffect = .pending) →
      t.pot.target = (if deferred = true then s.pot.target
        else waveTarget s.lmc.mode s.aim.waveEffect s.pot.isReady (t.pot.schedule.head?.map (·.decision))) ∧
      t.pot.waveBank = (if ∀ e ∈ t.pot.schedule, e.bank ≠ s.pot.waveBank then s.lmc.active else s.pot.waveBank) ∧
      ∀ w, w = (if deferred = true then s.pot.wave else waveMove s.pot.wave t.pot.target) →
        t.pot.wave = (if t.pot.waveBank = s.pot.waveBank then w else waveAgain w) ∧
        (t.pot.wave ≠ s.pot.wave ∨ t.pot.waveBank ≠ s.pot.waveBank →
          Instr.readinessArrival (.wave t.pot.wave (decide (t.pot.waveBank = s.lmc.active))) ∈ t.posted)) := by
  rintro t ht
  obtain ⟨x, hx⟩ : ∃ x, x = (s.setPot { s.pot with
    schedule := s.pot.schedule.filter (fun e => e.seq != q),
    onWave := s.pot.onWave.filter (fun p => p != q) }).noteOccupancy := ⟨_, rfl⟩
  obtain ⟨hframe, hpot, hposted⟩ := noted s _ x hx
  obtain ⟨late, hlate⟩ : ∃ late, late = (s.pot.solderOcc && !x.pot.solderOcc && s.aim.waveEffect == .pending) := ⟨_, rfl⟩
  rw [leaveWave_eq q x hx late hlate] at ht
  have hsolder : x.pot.solderOcc = x.pot.solderOnWave := by
    rw [hpot]
    rfl
  have hnoted (h : x.pot.solderOcc ≠ s.pot.solderOcc) : Instr.solderOccupancyArrival x.pot.solderOcc ∈ x.posted := by
    rw [hpot] at h ⊢
    rw [hposted, if_neg h]
    exact List.mem_append_right _ (List.mem_singleton_self _)
  by_cases hscheduled : ∃ e ∈ s.pot.schedule, e.seq = q
  · rw [if_pos hscheduled] at ht
    have hsame := reevaluate_same x late
    obtain ⟨htarget, hbank, hwave⟩ := reevaluate_wave x late t ht
    have happends := reevaluate_appends x late
    rw [← ht] at hsame happends
    have hxbank : x.pot.waveBank = s.pot.waveBank := by rw [hpot]
    have hxwave : x.pot.wave = s.pot.wave := by rw [hpot]
    have hxtarget : x.pot.target = s.pot.target := by rw [hpot]
    have hxready : x.pot.isReady = s.pot.isReady := by rw [hpot]; rfl
    rw [hframe.lmc (by decide), hframe.aim (by decide), hxready, hxtarget] at htarget
    rw [hframe.lmc (by decide), hxbank] at hbank
    rw [hframe.lmc (by decide), hxbank, hxwave] at hwave
    refine ⟨by rw [hsame.schedule, hpot], by rw [hsame.onWave, hpot], by rw [hsame.solder, hsolder, hsame.solderOnWave],
      fun h => ?_, fun h => ?_, fun _ deferred hdeferred => ?_⟩
    · rw [hsame.solder] at h ⊢
      exact happends.subset (hnoted h)
    · obtain ⟨e, he, heq⟩ := hscheduled
      exact absurd heq (h e he)
    · have hlateEq : deferred = late := by
        rw [Bool.eq_iff_iff, hdeferred, hlate, hsame.solder]
        simp [and_assoc]
      rw [hlateEq, hsame.schedule]
      exact ⟨htarget, hbank, hwave⟩
  · rw [if_neg hscheduled] at ht
    subst ht
    exact ⟨by rw [hpot], by rw [hpot], hsolder, hnoted, fun _ => ⟨by rw [hpot], by rw [hpot], by rw [hpot]⟩,
      fun h => absurd h hscheduled⟩

end Reevaluated

section Samples

variable {s : State}

/-! ### WVH samples (R116, R119) -/

theorem judged_eq (r : WaveResult) (b : Bank) (v : Nat) (rep : ReportedState) : r.judged b v rep =
    if r = .waved ∧ (usable rep = false ∨ v < b.hLo) then .partialWave
    else if r = .dryClean ∧ (usable rep = false ∨ b.hDip < v) then .dryContacted
    else r := by
  have hlow : (usable rep = false ∨ v < b.hLo) ↔ ¬(usable rep = true ∧ b.hLo ≤ v) := by
    rw [not_and_or, Bool.not_eq_true, Nat.not_le]
  have hhigh : (usable rep = false ∨ b.hDip < v) ↔ ¬(usable rep = true ∧ v ≤ b.hDip) := by
    rw [not_and_or, Bool.not_eq_true, Nat.not_le]
  cases r
  case waved =>
    by_cases h : usable rep = true ∧ b.hLo ≤ v
    · rw [if_neg (fun hc => hlow.mp hc.2 h), if_neg (by simp)]
      exact if_pos h
    · rw [if_pos ⟨rfl, hlow.mpr h⟩]
      exact if_neg h
  case dryClean =>
    by_cases h : usable rep = true ∧ v ≤ b.hDip
    · rw [if_neg (by simp), if_neg (fun hc => hhigh.mp hc.2 h)]
      exact if_pos h
    · rw [if_neg (by simp), if_pos ⟨rfl, hhigh.mpr h⟩]
      exact if_neg h
  all_goals
    rw [if_neg (by simp), if_neg (by simp)]
    rfl

theorem enterWave_trk_on (s : State) {w : WaveState} (h : w ≠ .off) : (s.enterWave w).trk = s.trk := by
  rw [enterWave_trk]
  simp [h]

/-- R116: a rising wave counts its samples at or above h_lo. -/
theorem qualifyWave_rising (h : s.pot.wave = .rising) (v : Nat) (rep : ReportedState) : s.qualifyWave v rep =
    if usable rep = true ∧ (s.lmc.bank s.pot.waveBank).hLo ≤ v then
      (if s.pot.riseCount + 1 ≥ 4 then (s.setPot { s.pot with riseCount := s.pot.riseCount + 1 }).enterWave .on
        else s.setPot { s.pot with riseCount := s.pot.riseCount + 1 })
    else s.setPot { s.pot with riseCount := 0 } := by
  rw [State.qualifyWave]
  simp only [h]

theorem qualifyWave_dipping (h : s.pot.wave = .dipping) (v : Nat) (rep : ReportedState) : s.qualifyWave v rep =
    if usable rep = true ∧ v ≤ (s.lmc.bank s.pot.waveBank).hDip then
      (if s.pot.dipCount + 1 ≥ 2 then (s.setPot { s.pot with dipCount := s.pot.dipCount + 1 }).enterWave .dipped
        else s.setPot { s.pot with dipCount := s.pot.dipCount + 1 })
    else s.setPot { s.pot with dipCount := 0 } := by
  rw [State.qualifyWave]
  simp only [h]

theorem qualifyWave_other (hrising : s.pot.wave ≠ .rising) (hdipping : s.pot.wave ≠ .dipping) (v : Nat) (rep : ReportedState) :
    s.qualifyWave v rep = s := by
  unfold State.qualifyWave
  cases hw : s.pot.wave
  case rising => exact absurd hw hrising
  case dipping => exact absurd hw hdipping
  all_goals rfl

/-- R116: what a WVH sample makes of the wave. -/
theorem qualifyWave_clauses (s : State) (v : Nat) (rep : ReportedState) : ∀ t, t = s.qualifyWave v rep →
    ∀ b, b = s.lmc.bank s.pot.waveBank →
    (s.pot.wave = .rising →
      (usable rep = true → b.hLo ≤ v →
        t.pot.riseCount = s.pot.riseCount + 1 ∧ t.pot.wave = if 4 ≤ s.pot.riseCount + 1 then .on else .rising) ∧
      (usable rep = false ∨ v < b.hLo → t.pot = { s.pot with riseCount := 0 })) ∧
    (s.pot.wave = .dipping →
      (usable rep = true → v ≤ b.hDip →
        t.pot.dipCount = s.pot.dipCount + 1 ∧ t.pot.wave = if 2 ≤ s.pot.dipCount + 1 then .dipped else .dipping) ∧
      (usable rep = false ∨ b.hDip < v → t.pot = { s.pot with dipCount := 0 })) ∧
    (s.pot.wave ≠ .rising → s.pot.wave ≠ .dipping → t.pot = s.pot) := by
  rintro _ rfl b rfl
  refine ⟨fun hwave => ⟨fun husable hlevel => ?_, fun hlow => ?_⟩, fun hwave => ⟨fun husable hlevel => ?_, fun hhigh => ?_⟩,
    fun hrising hdipping => by rw [qualifyWave_other hrising hdipping]⟩
  · rw [qualifyWave_rising hwave, if_pos ⟨husable, hlevel⟩]
    by_cases hn : s.pot.riseCount + 1 ≥ 4
    · rw [if_pos hn, if_pos hn, enterWave_pot]
      exact ⟨rfl, rfl⟩
    · rw [if_neg hn, if_neg hn]
      exact ⟨rfl, hwave⟩
  · rw [qualifyWave_rising hwave, if_neg]
    · rfl
    · rintro ⟨husable, hlevel⟩
      rcases hlow with h | h
      · rw [husable] at h
        cases h
      · exact absurd hlevel (Nat.not_le.mpr h)
  · rw [qualifyWave_dipping hwave, if_pos ⟨husable, hlevel⟩]
    by_cases hn : s.pot.dipCount + 1 ≥ 2
    · rw [if_pos hn, if_pos hn, enterWave_pot]
      exact ⟨rfl, rfl⟩
    · rw [if_neg hn, if_neg hn]
      exact ⟨rfl, hwave⟩
  · rw [qualifyWave_dipping hwave, if_neg]
    · rfl
    · rintro ⟨husable, hlevel⟩
      rcases hhigh with h | h
      · rw [husable] at h
        cases h
      · exact absurd hlevel (Nat.not_le.mpr h)

/-- A sample that moves the wave leaves the boards, the schedule and who is on the wave. -/
theorem qualifyWave_keeps (s : State) (v : Nat) (rep : ReportedState) :
    (s.qualifyWave v rep).trk = s.trk ∧ SamePot s.pot (s.qualifyWave v rep).pot := by
  have hset (p : Pot) (w : WaveState) (c : Prop) [Decidable c] (hp : SamePot s.pot p) (hw : w ≠ .off) :
      (if c then (s.setPot p).enterWave w else s.setPot p).trk = s.trk ∧
        SamePot s.pot (if c then (s.setPot p).enterWave w else s.setPot p).pot := by
    split
    · exact ⟨enterWave_trk_on _ hw, hp.trans (enterWave_same (s.setPot p) w)⟩
    · exact ⟨rfl, hp⟩
  have hcount (n k : Nat) : SamePot s.pot { s.pot with riseCount := n, dipCount := k } := ⟨rfl, rfl, rfl, rfl, rfl⟩
  by_cases hrising : s.pot.wave = .rising
  · rw [qualifyWave_rising hrising]
    split
    · exact hset _ _ _ (hcount _ _) (by decide)
    · exact ⟨rfl, hcount _ _⟩
  · by_cases hdipping : s.pot.wave = .dipping
    · rw [qualifyWave_dipping hdipping]
      split
      · exact hset _ _ _ (hcount _ _) (by decide)
      · exact ⟨rfl, hcount _ _⟩
    · rw [qualifyWave_other hrising hdipping]
      exact ⟨rfl, .refl _⟩

/-- R116: the boards that a WVH sample judges, on the schedule and the occupancy of a pot that agrees. -/
theorem judgeBoards_trk {u : State} (htrk : u.trk = s.trk) (hsame : SamePot s.pot u.pot) (hlmc : u.lmc = s.lmc) (v : Nat)
    (rep : ReportedState) : ∀ f : BoardRecord → BoardRecord,
    (∀ b, s.pot.entry? b.seq = none → f b = b) → (∀ b, b.seq ∉ s.pot.onWave → f b = b) →
    (∀ b e, s.pot.entry? b.seq = some e → b.seq ∈ s.pot.onWave →
      f b = { b with waveResult := b.waveResult.judged (s.lmc.bank e.bank) v rep }) →
    (u.judgeBoards v rep).trk = { s.trk with table := s.trk.table.map f } := by
  intro f hnone haway hjudged
  have hentry (q : Nat) : u.pot.entry? q = s.pot.entry? q := by rw [Pot.entry?, hsame.schedule]; rfl
  rw [State.judgeBoards, setTrk_trk, htrk]
  refine congrArg (fun l => { s.trk with table := l }) (List.map_congr_left fun b _ => ?_)
  rw [hentry, hsame.onWave, hlmc]
  by_cases hb : b.seq ∈ s.pot.onWave
  · rw [if_pos hb]
    cases he : s.pot.entry? b.seq with
    | none => exact (hnone b he).symm
    | some e => exact (hjudged b e he hb).symm
  · rw [if_neg hb]
    exact (haway b hb).symm

/-! ### A board enters the wave (R119) -/

theorem boardEntersWave_stays {q : Nat} (h : s.trk.hasBoard q = false ∨ q ∈ s.pot.onWave) : s.boardEntersWave q = s := by
  refine if_neg fun ⟨hb, hq⟩ => ?_
  rcases h with h | h
  · rw [h] at hb
    cases hb
  · exact hq h

theorem boardEntersWave_scheduled {q : Nat} {e : ScheduleEntry} (hb : s.trk.hasBoard q = true) (hq : q ∉ s.pot.onWave)
    (he : s.pot.entry? q = some e) : s.boardEntersWave q = ((s.updateBoard q fun b =>
      { b with waveResult := enteredResult e.decision s.pot.wave b.waveResult }).setPot
        { s.pot with onWave := s.pot.onWave ++ [q] }).noteOccupancy := by
  unfold State.boardEntersWave
  rw [if_pos ⟨hb, hq⟩, he]

end Samples

/-- Settles O48. -/
theorem theWaveMeetsItsBoards : Obligations.TheWaveMeetsItsBoards := by
  rintro move hmove again hagain s
  obtain rfl : move = waveMove := by
    rw [hmove]
    funext w g
    cases g <;> cases w <;> rfl
  obtain rfl : again = waveAgain := by
    rw [hagain]
    funext w
    cases w <;> rfl
  clear hmove hagain
  refine ⟨fun e t ht => appendSchedule_clauses s e t ht, fun v rep => ?_, fun q h => ?_, fun q e hb hq he => ?_, fun q h => ?_,
    fun q h => ?_⟩
  · obtain ⟨g, hg⟩ : ∃ g, g = s.taken (.wvhSampleArrival v rep) := ⟨_, rfl⟩
    obtain ⟨u, hu⟩ : ∃ u, u = g.qualifyWave v rep := ⟨_, rfl⟩
    have hexec : exec (.wvhSampleArrival v rep) s = .next (u.judgeBoards v rep) := by
      rw [hu, hg]
      rfl
    have hclauses := qualifyWave_clauses g v rep u hu
    obtain ⟨htrk, hsame⟩ := qualifyWave_keeps g v rep
    rw [← hu] at htrk hsame
    have hframe : SameBut [.trk, .pot, .posted] s u := by
      rw [hu, hg]
      exact ((taken_frame s _).mono (by decide)).trans ((qualifyWave_frame _ _ _).mono (by decide))
    have hpot : g.pot = s.pot := by rw [hg, taken_pot]
    have hlmc : g.lmc = s.lmc := by rw [hg, taken_lmc]
    rw [hpot] at hsame
    rw [hpot, hlmc] at hclauses
    refine ⟨_, hexec, hframe.trans ((judgeBoards_frame u v rep).mono (by decide)), hclauses,
      judgeBoards_trk (htrk.trans (by rw [hg, taken_trk])) hsame (hframe.lmc (by decide)) v rep _ ?_ ?_ ?_⟩
    · intro b he
      simp only [he]
    · intro b hb
      cases he : s.pot.entry? b.seq with
      | none => rfl
      | some e => exact if_neg hb
    · intro b e he hb
      simp only [he, judged_eq]
      exact if_pos hb
  · exact congrArg Host.Outcome.next (boardEntersWave_stays h)
  · obtain ⟨x, hx⟩ : ∃ x, x = (s.taken (.waveEntered q)).updateBoard q fun b =>
      { b with waveResult := enteredResult e.decision s.pot.wave b.waveResult } := ⟨_, rfl⟩
    obtain ⟨t, ht⟩ : ∃ t, t = (x.setPot { s.pot with onWave := s.pot.onWave ++ [q] }).noteOccupancy := ⟨_, rfl⟩
    have hexec : exec (.waveEntered q) s = .next t := by
      rw [ht, hx]
      exact congrArg Host.Outcome.next (boardEntersWave_scheduled (s := s.taken (.waveEntered q)) hb hq he)
    have hxframe : SameBut [.trk, .pot, .posted] s x := by
      rw [hx]
      exact ((taken_frame s _).mono (by decide)).trans ((updateBoard_frame _ q _).mono (by decide))
    obtain ⟨hframe, hpot, hposted⟩ := noted x _ t ht
    have hsolder : t.pot.solderOcc = t.pot.solderOnWave := by
      rw [hpot]
      rfl
    refine ⟨t, hexec, hxframe.trans (hframe.mono (by decide)), ?_, ?_, ?_⟩
    · rw [← hsolder, hpot]
    · rw [hframe.trk (by decide), hx, updateBoard_trk, update_eq, taken_trk]
      refine congrArg (fun l => { s.trk with table := l }) (List.map_congr_left fun b _ => ?_)
      refine if_congr (Iff.refl (b.seq = q)) ?_ rfl
      cases e.decision <;> rfl
    · rw [hposted, hpot, hx]
      rfl
  · exact congrArg Host.Outcome.next (if_neg (by simpa using h))
  · obtain ⟨g, hg⟩ : ∃ g, g = s.taken (.waveLeft q) := ⟨_, rfl⟩
    obtain ⟨t, ht⟩ : ∃ t, t = g.leaveWave q := ⟨_, rfl⟩
    have hexec : exec (.waveLeft q) s = .next t := by
      rw [ht, hg]
      exact congrArg Host.Outcome.next (if_pos h)
    have hclauses := leaveWave_clauses g q t ht
    have hpot : g.pot = s.pot := by rw [hg, taken_pot]
    have hlmc : g.lmc = s.lmc := by rw [hg, taken_lmc]
    have haim : g.aim = s.aim := by rw [hg, taken_aim]
    rw [hpot, hlmc, haim] at hclauses
    obtain ⟨hschedule, honWave, hsolder, hposted, hother, hmine⟩ := hclauses
    have hgframe : SameBut [.trk, .pot, .posted] s g := hg ▸ (taken_frame s _).mono (by decide)
    refine ⟨t, hexec, hgframe.trans (ht ▸ leaveWave_frame g q), hschedule, honWave, hsolder, hposted, hother, hmine, ?_⟩
    obtain ⟨f, hf, htable⟩ := leaveWave_boards g q
    rw [ht, htable, hg, taken_trk, List.map_map]
    exact List.map_congr_left fun b _ => hf b

end Sys2Proof.Machine

/-! Proofs about what a reply carries (chapter 10): the encodings, the records, and the frames of a reply. -/

namespace Sys2Proof.Machine

/-! ### Encodings (R177) -/

@[simp] theorem bytesOf_length (w n : Nat) : (bytesOf w n).length = w := by
  induction w with
  | zero => rfl
  | succ w ih => simp [bytesOf, ih]

theorem bytesOf_one (n : Nat) : bytesOf 1 n = [BitVec.ofNat 8 n] := by
  simp [bytesOf]

theorem bytesOf_two_byte (b : Byte) : bytesOf 2 b.toNat = [0, b] := by
  have hhigh : b.toNat / 256 = 0 := Nat.div_eq_of_lt b.isLt
  simp [bytesOf, hhigh]

/-- The number that bytes carry, after those that were read before them. -/
theorem bytesOf_foldl (w n a : Nat) :
    (bytesOf w n).foldl (fun m b => 256 * m + b.toNat) a = a * 256 ^ w + n % 256 ^ w := by
  induction w generalizing a with
  | zero => simp [bytesOf, Nat.mod_one]
  | succ w ih =>
    have hsplit : n % (256 ^ w * 256) = n % 256 ^ w + 256 ^ w * (n / 256 ^ w % 2 ^ 8) := Nat.mod_mul
    rw [bytesOf, List.foldl_cons, ih, BitVec.toNat_ofNat, pow_succ 256 w, hsplit]
    ring

theorem natOf_bytesOf (w n : Nat) : natOf (bytesOf w n) = n % 256 ^ w := by
  rw [natOf, bytesOf_foldl]
  simp

@[simp] theorem optionalBytes_length (w : Nat) (o : Option Nat) : (optionalBytes w o).length = w := by
  cases o <;> simp [optionalBytes]

@[simp] theorem stampBytes_length (c : RunClock) : (stampBytes c).length = 4 := bytesOf_length 4 _

theorem identityBytes_length (o : Option Identity) : (identityBytes o).length = 1 + (o.getD []).length := by
  cases o with
  | none => rfl
  | some cs => simp [identityBytes, Nat.add_comm]

/-- R177: a set, its first member apart. -/
theorem setByte_cons (b : Bool) (bs : List Bool) : setByte (b :: bs) = flagByte b + 2 * setByte bs := by
  have hflag : flagByte b = BitVec.ofNat 8 (if b then 1 else 0) := by cases b <;> rfl
  rw [hflag, setByte, setByte, List.map_cons, List.foldr_cons, BitVec.ofNat_add, BitVec.ofNat_mul]
  rfl

theorem setByte_nil : setByte [] = 0 := rfl

theorem optionalBytes_two (o : Option Nat) : optionalBytes 2 o = (o.map (bytesOf 2)).getD [0xFF, 0xFF] := by
  cases o <;> rfl

theorem optionalStampBytes_eq (o : Option RunClock) :
    optionalStampBytes o = (o.map fun c => 1 :: bytesOf 4 c.toNat).getD [0, 0, 0, 0, 0] := by
  cases o <;> rfl

theorem identityBytes_eq (o : Option Identity) :
    identityBytes o = (o.map fun cs => BitVec.ofNat 8 cs.length :: cs).getD [0] := by
  cases o <;> rfl

theorem optionalCode_reason (o : Option DryReason) :
    optionalCode (o.map DryReason.code) = (o.map DryReason.code).getD 0xFF := by
  cases o <;> rfl

/-! ### The fields of the records (R183 to R185, R192) -/

theorem marks_setByte (m : Marks) : setByte m.members = flagByte m.unrequested + 2 * flagByte m.lengthOut +
    4 * flagByte m.tankEmpty + 8 * flagByte m.sprayInhibited + 16 * flagByte m.lowPressure +
    32 * flagByte m.thermalUncertain + 64 * flagByte m.stalled := by
  simp only [Marks.members, setByte_cons, setByte_nil]
  ring

theorem causes_setByte (r : Rtr) : setByte [r.causes.powerOn, r.causes.external, r.causes.commanded] =
    flagByte r.causes.powerOn + 2 * flagByte r.causes.external + 4 * flagByte r.causes.commanded := by
  simp only [setByte_cons, setByte_nil]
  ring

theorem region_code (g : Geometry) (x : Nat) : (g.region x).code =
    if x < g.pFlux then 0 else if x < g.ph1 then 1 else if x < g.ph2 then 2 else if x < g.ph3 then 3
    else if x < g.pWave - g.wMargin then 4 else if x ≤ g.pWave + g.wMargin then 5 else if x ≤ g.pExit then 6 else 7 := by
  simp only [Geometry.region, apply_ite Region.code]
  rfl

/-! ### Their sizes -/

theorem rtr_encode_length (r : Rtr) : r.encode.length = 17 := by
  simp [Rtr.encode]

theorem detail_length_le (e : Event) : e.detail.length ≤ 7 := by
  cases e <;> simp [Event.detail]

theorem eventRecord_encode_length (e : EventRecord) : e.encode.length = 14 := by
  have hdetail := detail_length_le e.event
  simp only [EventRecord.encode, List.length_append, List.length_replicate, List.length_singleton, stampBytes_length,
    bytesOf_length]
  omega

theorem boardRecord_encode_length (b : BoardRecord) (g : Geometry) (p : Position) :
    (b.encode g p).length = 29 + (b.identity.getD []).length := by
  simp only [BoardRecord.encode, List.length_append, bytesOf_length, optionalBytes_length, identityBytes_length,
    List.length_cons, List.length_nil]
  omega

theorem exitRecord_encode_length (r : ExitRecord) : r.encode.length = 24 + (r.identity.getD []).length := by
  simp only [ExitRecord.encode, List.length_append, bytesOf_length, optionalBytes_length, identityBytes_length,
    stampBytes_length, List.length_cons, List.length_nil]
  omega

/-! ### The body of READ_ALARMS (R152) -/

theorem finRange_filter_le (m n : Nat) : ((List.finRange m).filter fun i => decide (n ≤ i.val)) = (List.finRange m).drop n := by
  have hbefore : ((List.finRange m).take n).filter (fun i => decide (n ≤ i.val)) = [] := by
    refine List.filter_eq_nil_iff.mpr fun i hi => ?_
    obtain ⟨k, hk, rfl⟩ := List.mem_take_iff_getElem.mp hi
    simp only [List.getElem_finRange, decide_eq_true_eq, Fin.val_cast]
    omega
  have hafter : ((List.finRange m).drop n).filter (fun i => decide (n ≤ i.val)) = (List.finRange m).drop n := by
    refine List.filter_eq_self.mpr fun i hi => ?_
    obtain ⟨k, hk, rfl⟩ := List.mem_drop_iff_getElem.mp hi
    simp
  conv_lhs => rw [← List.take_append_drop n (List.finRange m)]
  rw [List.filter_append, hbefore, hafter, List.nil_append]

theorem inhibitState_code (active : Bool) : WaveEffect.code (inhibitState active) = flagByte active := by
  cases active <;> rfl

theorem unackCount_eq (a : Aim) (v : Severity) : a.unackCount v =
    (List.finRange 37).countP fun i => a.records[i].state = .activeUnack ∧ alarmSeverity i = v := by
  refine List.countP_congr fun i _ => ?_
  simp

theorem summary_eq (a : Aim) : a.summary = bytesOf 1 (a.unackCount .alarm) ++ bytesOf 1 (a.unackCount .warn) ++
    ([Inhibit.spray, .preheat, .wave, .feed, .entry].map fun n => flagByte (a.inhibitActive n)) ++
    [WaveEffect.code a.waveEffect, flagByte a.asserted.spray, flagByte a.asserted.preheat, flagByte a.asserted.wave,
      flagByte a.asserted.feed, flagByte a.asserted.entry] := by
  simp only [Aim.summary, inhibitState_code, List.append_assoc]
  rfl

theorem readAlarms_eq (a : Aim) (n : Nat) : a.readAlarms n = a.summary ++ a.levels.toList.map ContactLevel.code ++
    (((List.finRange 37).drop n).take 12).flatMap a.encodeRecord := by
  rw [Aim.readAlarms, finRange_filter_le]

/-! ### The frames of a reply (R176) -/

theorem segmentPart_length (body : List Byte) (n : Nat) : (segmentPart body n).length = min 246 (body.length - 246 * n) := by
  simp [segmentPart]

theorem segmentParts_join (body : List Byte) (k : Nat) :
    (List.range k).flatMap (segmentPart body) = body.take (246 * k) := by
  induction k with
  | zero => simp
  | succ k ih =>
    rw [List.range_succ, List.flatMap_append, ih, List.flatMap_singleton, segmentPart, Nat.mul_succ, List.take_add]

theorem segmentCount_covers (body : List Byte) : body.length ≤ 246 * segmentCount body := by
  unfold segmentCount
  omega

theorem frames_getElem? (r : Reply) {n : Nat} (h : n < segmentCount r.body) : r.frames[n]? = some (frameOf
    (r.kind :: r.status.code :: BitVec.ofNat 8 n :: BitVec.ofNat 8 (segmentCount r.body) :: segmentPart r.body n)) := by
  rw [Reply.frames, List.getElem?_map, List.getElem?_range h]
  rfl

theorem reply_frames (r : Reply) : r.frames.length = segmentCount r.body ∧
    (∀ n, n < segmentCount r.body → r.frames[n]? = some (frameOf
      (r.kind :: r.status.code :: BitVec.ofNat 8 n :: BitVec.ofNat 8 (segmentCount r.body) :: segmentPart r.body n))) ∧
    (r.body.length ≤ 246 → segmentCount r.body = 1) ∧
    (246 < r.body.length → segmentCount r.body = (r.body.length + 245) / 246) ∧
    ((List.range (segmentCount r.body)).flatMap (segmentPart r.body)) = r.body ∧
    (∀ n, (segmentPart r.body n).length ≤ 246) ∧
    ∀ n, n + 1 < segmentCount r.body → (segmentPart r.body n).length = 246 := by
  refine ⟨by simp [Reply.frames], fun n h => frames_getElem? r h, fun h => ?_, fun h => ?_, ?_, fun n => ?_, fun n h => ?_⟩
  · unfold segmentCount
    omega
  · unfold segmentCount
    omega
  · rw [segmentParts_join, List.take_of_length_le (segmentCount_covers r.body)]
  · rw [segmentPart_length]
    omega
  · rw [segmentPart_length]
    unfold segmentCount at h
    omega

/-! ### Event records (R185) -/

/-- The subject and the detail that an event's record carries, with the bytes that its kind does not use. -/
theorem eventRecord_encode (c : RunClock) (e : Event) {k : Byte} {subject detail : List Byte} (hk : e.kindCode = k)
    (hsubject : bytesOf 2 e.subject = subject)
    (hdetail : e.detail ++ List.replicate (7 - e.detail.length) 0 = detail) :
    EventRecord.encode ⟨c, e⟩ = k :: (bytesOf 4 c.toNat ++ subject ++ detail) := by
  subst hk hsubject hdetail
  rw [EventRecord.encode, List.append_assoc, List.append_assoc, List.singleton_append, List.append_assoc]
  rfl

theorem bankSwapped_subject (b : BankId) (d : SwapDetail) :
    bytesOf 2 (Event.bankSwapped b d).subject = [0, BankId.code b] := by
  have hbyte : (Event.bankSwapped b d).subject = (BankId.code b).toNat := by cases b <;> rfl
  rw [hbyte, bytesOf_two_byte]

/-- Settles O10. -/
theorem recordsAndRepliesHaveTheirSizes : Obligations.RecordsAndRepliesHaveTheirSizes := by
  refine ⟨fun n w => ⟨bytesOf_length w n, natOf_bytesOf w n⟩, ?_, ?_, rtr_encode_length, eventRecord_encode_length,
    boardRecord_encode_length, exitRecord_encode_length, fun content => rfl, reply_frames⟩
  · exact ⟨rfl, rfl, rfl, rfl, rfl, rfl, rfl, rfl, rfl, rfl, rfl, rfl, rfl, rfl, rfl, rfl, rfl, rfl, rfl, rfl, rfl, rfl, rfl,
      rfl, rfl, rfl, rfl, rfl, fun i => rfl, rfl⟩
  · intro flag optional stamp optionalStamp identity reason marks
    have hflag : flag = flagByte := rfl
    have hoptional : optional = optionalBytes 2 := funext fun o => (optionalBytes_two o).symm
    have hstamp : stamp = stampBytes := rfl
    have hoptionalStamp : optionalStamp = optionalStampBytes := funext fun o => (optionalStampBytes_eq o).symm
    have hidentity : identity = identityBytes := funext fun o => (identityBytes_eq o).symm
    have hreason : reason = fun o => optionalCode (o.map DryReason.code) := funext fun o => (optionalCode_reason o).symm
    have hmarks : marks = fun m => setByte m.members := funext fun m => (marks_setByte m).symm
    clear_value flag optional stamp optionalStamp identity reason marks
    subst hflag hoptional hstamp hoptionalStamp hidentity hreason hmarks
    refine ⟨fun b g p => ?_, fun r => rfl, fun r => ?_, fun c => ?_, fun k i => ⟨rfl, rfl, rfl, rfl⟩, fun a n => ?_⟩
    · rw [BoardRecord.encode, region_code]
    · rw [Rtr.encode, causes_setByte]
    · refine ⟨fun q slot bank u => ?_, fun e => ?_, fun q d r est => ?_, fun q o => ?_, fun q cell o => ?_,
        fun k cause residue => ?_, fun i before after cause n => ?_, fun n e a => ?_, fun before after ph cause => ?_,
        fun b d => ?_, fun f d => ?_⟩
      · exact eventRecord_encode c _ rfl rfl (by rw [bytesOf_one]; rfl)
      · exact eventRecord_encode c _ rfl (bytesOf_two_byte 0) (by cases e <;> rfl)
      · exact eventRecord_encode c _ rfl rfl rfl
      · exact eventRecord_encode c _ rfl rfl rfl
      · exact eventRecord_encode c _ rfl rfl rfl
      · exact eventRecord_encode c _ rfl (bytesOf_two_byte _) (by cases cause <;> rfl)
      · exact eventRecord_encode c _ rfl rfl (by rw [bytesOf_one]; rfl)
      · exact eventRecord_encode c _ rfl (bytesOf_two_byte _) rfl
      · exact eventRecord_encode c _ rfl (bytesOf_two_byte 0) rfl
      · exact eventRecord_encode c _ rfl (bankSwapped_subject b d) (by cases d <;> rfl)
      · exact eventRecord_encode c _ rfl (bytesOf_two_byte _) (by cases d <;> rfl)
    · rw [readAlarms_eq, summary_eq, unackCount_eq, unackCount_eq]
      rfl

end Sys2Proof.Machine

/-! Proofs about the reads (chapter 10): what each answers, and that it changes nothing but its link. -/

namespace Sys2Proof.Machine

section Status

variable (s : State)

/-! ### The status groups (R182) -/

theorem channel_signal (l : Link) : ChannelRec.signal l = fun c =>
    bytesOf 2 (c.forced.getD c.value) ++ [ReportedState.code c.reported] ++
      (if l = .machine then bytesOf 2 c.lastCode.toNat else []) := rfl

theorem scheduleEntry_encode : ScheduleEntry.encode = fun e => bytesOf 2 e.seq ++ [BankId.code e.bank, e.decision.code] := rfl

/-- A valid frame's end writes nothing that the status groups read. -/
theorem received_commonGroups (l k : Link) : (s.received k).commonGroups l = s.commonGroups l := by
  simp only [State.commonGroups, State.clockTrackGroup, State.processGroup, received_clock, received_trk, received_lmc,
    received_saq, received_aim, received_znc, received_pot, received_exm]

theorem received_detailGroups (k : Link) : (s.received k).detailGroups = s.detailGroups := by
  simp only [State.detailGroups, received_freeCount, received_flx, received_lmc, received_znc, received_pot, received_exm]

/-! ### The times of the detail groups (R182, assumption 3) -/

theorem atRead_near {d left : Nat} (free : Nat) (h : left ≤ d) :
    atRead d left free ≤ left + 99 ∧ left ≤ atRead d left free + 99 := by
  unfold atRead clampInt
  split
  · omega
  · split <;> omega

theorem roundDiv_thousand (n : Nat) : (roundDiv (n : Int) 1000).toNat = (n + 500) / 1000 := by
  unfold roundDiv
  rw [if_neg (by omega)]
  omega

theorem idleBytes_length (timeout free : Nat) (t : Timer) : (idleBytes timeout free t).length = 2 := by
  cases t <;> simp [idleBytes]

theorem remainingBytes_length (w d free : Nat) (t : Timer) : (remainingBytes w d free t).length = w := by
  cases t <;> simp [remainingBytes]

theorem elapsedBytes_length (free : Nat) (t : Timer) : (elapsedBytes free t).length = 2 := by
  cases t <;> simp [elapsedBytes]

theorem remainingBytes_running (w free : Nat) {d left : Nat} {t : Timer} (ht : t = .running left) (h : left ≤ d) :
    ∃ ms, remainingBytes w d free t = bytesOf w ms ∧ ms ≤ left + 99 ∧ left ≤ ms + 99 := by
  subst ht
  exact ⟨_, rfl, atRead_near free h⟩

theorem idleBytes_running (free : Nat) {timeout left : Nat} {t : Timer} (ht : t = .running left) (h : left ≤ timeout * 60000) :
    ∃ ms, idleBytes timeout free t = bytesOf 2 ((ms + 500) / 1000) ∧ ms ≤ left + 99 ∧ left ≤ ms + 99 := by
  subst ht
  refine ⟨_, ?_, atRead_near free h⟩
  rw [← roundDiv_thousand]
  rfl

theorem elapsedBytes_clauses (free : Nat) (t : Timer) :
    (t = .stopped → elapsedBytes free t = [0, 0]) ∧ (t = .expired → elapsedBytes free t = bytesOf 2 5000) ∧
      ∀ left, t = .running left → left ≤ 5000 →
        ∃ ms, elapsedBytes free t = bytesOf 2 ms ∧ ms ≤ 5000 - left + 99 ∧ 5000 - left ≤ ms + 99 := by
  refine ⟨?_, ?_, ?_⟩
  · rintro rfl
    exact bytesOf_two_byte 0
  · rintro rfl
    rfl
  · rintro left rfl hleft
    exact ⟨_, rfl, atRead_near free (Nat.sub_le _ _)⟩

end Status

section Answers

variable {s u : State} {c : Instr} {l : Link} {kind : Byte} {allowed : List Link} {α : Type} {args : Option α} {a : α}
  {act : α → State → Served}

theorem exec_answers {body : List Byte} (hexec : exec c s = .next (s.serve l kind allowed args act)) (hargs : args = some a)
    (hidle : (s.link l).sending = none) (hl : l ∈ allowed) (h : act a (s.received l) = ⟨.ok, body, u⟩) :
    exec c s = .next (u.reply l kind .ok body) := by
  subst hargs
  rw [hexec, serve_some s l kind allowed act a hidle hl, h]

theorem link_mem_read (h : l ≠ .safety) : l ∈ [Link.machine, .trace] := by
  cases l with
  | safety => exact absurd rfl h
  | machine | trace => decide

end Answers

/-- Settles O9. -/
theorem readsAnswerAndChangeNothing : Obligations.ReadsAnswerAndChangeNothing := by
  refine ⟨fun s l flag hflag => ?_, fun s flag hflag => ?_, fun s => ⟨fun l hidle hl => ?_, ⟨fun hidle => ?_, fun hidle => ?_,
    fun hidle => ?_⟩, fun l n hl hidle => ⟨fun hn => ?_, fun hn => ?_⟩, fun l hi lo hl hidle q hq => ⟨fun b hb => ?_, fun hb =>
    ⟨fun r hr => ?_, fun hr => ?_⟩⟩⟩⟩
  · obtain rfl : flag = flagByte := hflag
    simp only [State.commonGroups, State.clockTrackGroup, Lmc.modeGroup, Saq.signalsGroup, channel_signal, ContactRec.reported,
      summary_eq, State.processGroup, ZoneRec.summary, Exm.summary, stampBytes, List.append_assoc, List.flatMap_cons,
      List.flatMap_nil, List.cons_append, List.nil_append, List.append_nil]
    rfl
  · obtain rfl : flag = flagByte := hflag
    refine ⟨idleBytes s.lmc.idleTimeout (Config.freeTime s.freeCount) s.lmc.idleTimer,
      remainingBytes 2 10000 (Config.freeTime (s.freeCount + 1)) s.exm.recoveryTimer,
      elapsedBytes (Config.freeTime (s.freeCount + 2)) s.exm.fanTimers.fst,
      elapsedBytes (Config.freeTime (s.freeCount + 3)) s.exm.fanTimers.snd,
      remainingBytes 3 s.exm.filterInterval (Config.freeTime (s.freeCount + 4)) s.exm.filterTimer,
      ?_, idleBytes_length _ _ _, remainingBytes_length _ _ _ _, elapsedBytes_length _ _, elapsedBytes_length _ _,
      remainingBytes_length _ _ _ _, fun h => by rw [h]; rfl, fun h => by rw [h]; rfl, fun h => by rw [h]; rfl,
      fun _ => remainingBytes_running _ _, fun _ => remainingBytes_running _ _, fun _ => idleBytes_running _, ?_⟩
    · simp only [State.detailGroups, Lmc.detailGroup, Flx.group, Pot.group, Exm.group, ZoneRec.detail, PotRec.detail, Exm.summary,
        optionalSeqBytes, Pot.ringSum, scheduleEntry_encode, List.append_assoc, List.flatMap_cons, List.flatMap_nil,
        List.cons_append, List.nil_append, List.append_nil]
      rfl
    · rintro f bs (⟨rfl, rfl⟩ | ⟨rfl, rfl⟩) <;> exact elapsedBytes_clauses _ _
  · refine exec_answers rfl (show emptyBody [] = some () from rfl) hidle (link_mem_all l) ?_
    rw [State.readStatus, State.statusBody, if_neg hl, if_neg hl, List.append_nil, received_commonGroups]
  · refine exec_answers rfl (show emptyBody [] = some () from rfl) hidle (by decide) ?_
    rw [State.readStatus, State.statusBody, if_pos rfl, if_pos rfl, received_commonGroups, received_detailGroups]
  · refine exec_answers rfl (show emptyBody [] = some () from rfl) hidle (by decide) ?_
    rw [State.tableBody, received_trk]
  · refine exec_answers rfl (show emptyBody [] = some () from rfl) hidle (by decide) ?_
    rw [received_rtr]
  · refine exec_answers rfl (numberBody_one rfl) hidle (link_mem_ack hl) ?_
    rw [State.readAlarms, if_neg (Nat.not_lt.mpr hn), received_aim]
  · exact exec_refused rfl (numberBody_one rfl) hidle (link_mem_ack hl) (if_pos hn)
  all_goals have hargs : numberBody 2 [hi, lo] = some q := congrArg some ((natOf_two hi lo).trans hq.symm)
  all_goals have hallowed := link_mem_read hl
  · refine exec_answers rfl hargs hidle hallowed ((readBoard_table _ q b (by rwa [received_trk])).trans ?_)
    rw [received_trk]
  · exact exec_answers rfl hargs hidle hallowed
      (readBoard_log _ q r (by rwa [received_trk]) (by rwa [received_trk]))
  · exact exec_refused rfl hargs hidle hallowed
      (readBoard_notFound _ q (by rwa [received_trk]) (by rwa [received_trk]))

end Sys2Proof.Machine
